-- ==== Sys2Proof/Word.lean ====
section
/-! DEFINITION. The octet and the octet string, the plain word types every other file uses (spec/00_scope.md R2, R4, R8). -/

namespace Sys2Proof

/-- One octet. -/
abbrev Byte := BitVec 8

/-- A string of octets in the order of transmission, octet 0 first (R3). -/
abbrev Octets := List Byte

end Sys2Proof
end

