-- ==== Sys2Proof/Config.lean ====
section
/-! DEFINITION. What the part or an implementation fixes and the spec leaves open: opaque constants, so that no proof can
rest on a value (assumption logs 1 and 3). -/

namespace Sys2Proof.Config

/-- A fresh free value: the `n`-th draw of a number the spec leaves open (assumption log 1). -/
opaque freeNat : Nat → Nat

/-- Serial number of the part, 0x1018:03 (spec/03_object_dictionary.md Table 03-22). -/
opaque serial : Nat

/-- Device secret, 256 bits fused at manufacture (spec/18_management_security.md "Vault and tamper"). -/
opaque deviceSecret : Octets

/-- XMSS^MT public key 0x1823:00 (R757). -/
opaque publicKey : Octets

/-- Certificate 0x1824:00 (R757). -/
opaque certificate : Octets

/-- MAC address of a host port, 0x3C02 (spec/16_host_ports.md Table 16-2). -/
opaque macAddress : Nat → Nat

/-- XMSS verification of a signature (ROM key index, parameter set, message, signature) (R744, R769). -/
opaque xmssVerifies : Nat → Nat → Octets → Octets → Bool

/-- XMSS^MT signature with an index over a message, 9 893 octets (R760). -/
opaque xmssSign : Nat → Octets → Octets

/-- Origin field of an item of a source to which Table 07-1 gives none: PWM groups, boundaries, stages of the compute plane. -/
opaque sourceOrigin : Nat → Nat

/-- Program entry of flow 96 + g (spec/08_loop_engine.md R339); no object of the spec holds it. -/
opaque pwmEntry : Nat → Nat

/-- Sign of a quadrature step in which A leads B (R630). -/
opaque quadratureUp : Bool

/-- Speed by the period method in a control cycle of a feedback input's only count, by its direction (R635): the interval is 0. -/
opaque speedAtOnce : Bool → Int

/-- Word `i` of the vendor law library of the running firmware (R389). -/
opaque libraryWord : Nat → Nat

/-- PTP port identity of a host port. -/
opaque portIdentity : Nat → Nat

/-- Cosine and sine of an angle in half-turns, and π, as the front stage's arithmetic gives them: all are irrational, and R442
gives no format (assumption log 72). -/
opaque cosine : Rat → Rat
opaque sine : Rat → Rat
opaque pi : Rat

/-- Square root, and the angle in half-turns of a cosine, as the planning stages' arithmetic gives them (R437 to R443). -/
opaque root : Rat → Rat
opaque arcCosine : Rat → Rat

/-- What the front stage's arithmetic holds of an exact quantity of R442, whose format no rule gives. -/
opaque frontValue : Rat → Rat

/-- Weight of the angular components of a pose against its linear ones (R441), which no rule gives. -/
opaque angularUnit : Rat

/-- Joint positions of an arm whose tool stands at a guide pose: arm model, pose, planned positions (R439): a MOVE_JOINT starts at
the guide point, which for a pose guide is a pose, and no rule picks one of the joint vectors that reach it. -/
opaque jointPoint : Octets → List Rat → List Rat → List Rat

/-- Direction between two capsules whose axes touch (R441), where the difference of their nearest points has none. -/
opaque contactNormal : List Rat

/-- Acceleration of gravity in the cell frame in m/s² (R442): no rule says which axis of the cell frame is vertical. -/
opaque gravity : List Rat

/-- Part of the payload that a member's mass matrix carries, from its load share in per mille (R442). -/
opaque payloadPart : Nat → Rat

/-- A value that is to be a whole number and is not is rounded up, where a rule names no rounding: the mean of samples (R731), the
target scale in 2⁻¹⁶ (R440), a current in Q23 (R459, R460), a knot in 2⁻¹⁶ count (the text before R445). -/
opaque roundsUp : Rat → Bool

/-- The basis value 1 of R460, one step above the largest Q31, is held as that largest value. -/
opaque basisSaturates : Bool

/-- d_min of the separation rows in 10 µm (R441); no object of the spec holds it. -/
opaque separationMinimum : Rat

/-- Coefficients of q_{H−2}, q_{H−1} and q_H in a_H (R441), which the spec states only for i below H. -/
opaque lastAcceleration : Rat × Rat × Rat

/-- 1/p for p = 0 in the reciprocal format of an exponent (R447). -/
opaque reciprocalOfZero : Int → Int

/-- Cell-frame position in 10 µm of a point of a link by a safety channel's own kinematics (channel B or not, kinematics record,
positions of the members in counts, link, point in the link frame) (Table 12-1). -/
opaque safetyPoint : Bool → Octets → List Int → Nat → List Int → List Rat

end Sys2Proof.Config
end

