-- ==== Sys2Proof/Machine/Bits.lean ====
section
/-! DEFINITION. Byte order, bit fields, two's complement and the counters' ends (spec/00_scope.md R2 to R8 and "Words with
a fixed meaning"). -/

namespace Sys2Proof.Machine

/-- The unsigned value of octets in little-endian order (R4). -/
def leNat : Octets → Nat
  | [] => 0
  | b :: r => b.toNat + 256 * leNat r

/-- The `n` little-endian octets of a value (R4). -/
def toLE : Nat → Nat → Octets
  | 0, _ => []
  | n + 1, v => BitVec.ofNat 8 v :: toLE n (v / 256)

/-- The unsigned value of octets in big-endian order (CAN and PTP, R4). -/
def beNat (o : Octets) : Nat := leNat o.reverse

/-- The `n` big-endian octets of a value. -/
def toBE (n v : Nat) : Octets := (toLE n v).reverse

/-- The bit field [hi:lo] of a value (R2). -/
def field (v hi lo : Nat) : Nat := (v >>> lo) % 2 ^ (hi + 1 - lo)

/-- Bit `b` of a value. -/
def bitAt (v b : Nat) : Bool := v.testBit b

/-- A value with the bits of a mask set. -/
def setBits (v m : Nat) : Nat := v ||| m

/-- A value with the bits of a mask cleared. -/
def clearBits (v m : Nat) : Nat := v - (v &&& m)

/-- The number a Boolean flag reads as. -/
def b2n (b : Bool) : Nat := if b then 1 else 0

/-- The two's complement number of a `w`-bit pattern (R5). -/
def toSigned (w v : Nat) : Int :=
  let u := v % 2 ^ w
  if u < 2 ^ (w - 1) then (u : Int) else (u : Int) - (2 : Int) ^ w

/-- The `w`-bit pattern of a number, wrapped (R5). -/
def ofSigned (w : Nat) (x : Int) : Nat := (x % ((2 : Int) ^ w)).toNat

/-- A number held to the range of `w`-bit two's complement. -/
def satSigned (w : Nat) (x : Int) : Int :=
  let hi := (2 : Int) ^ (w - 1)
  if x ≥ hi then hi - 1 else if x < -hi then -hi else x

/-- A number held to lo … hi. -/
def clampInt (lo hi x : Int) : Int := if x > hi then hi else if x < lo then lo else x

/-- A `w`-bit counter that sticks at its largest value (R44, Table 01-8; R289, R334, R467, R500, R592, R672, R773). -/
def stick (w v : Nat) : Nat := if v < 2 ^ w then v else 2 ^ w - 1

/-- `n / d` rounded to nearest, ties to even (`d` positive). -/
def roundEven (n d : Int) : Int :=
  let q := n / d
  let r := n % d
  if 2 * r < d then q else if 2 * r > d then q + 1 else if q % 2 = 0 then q else q + 1

/-- `n / d` rounded to nearest, ties away from zero (`d` positive). -/
def roundAway (n d : Int) : Int :=
  if n ≥ 0 then (2 * n + d) / (2 * d) else -((2 * (-n) + d) / (2 * d))

/-- A rational rounded to nearest, ties to even. -/
def ratRound (x : Rat) : Int := roundEven x.num x.den

/-- A rational rounded to a whole number next to it, as no rule says which (assumption log 72). -/
def openRound (x : Rat) : Int := x.floor + (if x.den = 1 then 0 else if Config.roundsUp x then 1 else 0)

/-- Part of an octet string: `len` octets from offset `off`. -/
def slice (o : Octets) (off len : Nat) : Octets := (o.drop off).take len

/-- The octet at an offset, 0 past the end. -/
def u8At (o : Octets) (off : Nat) : Nat := (o.getD off 0#8).toNat

/-- The U16 at an offset. -/
def u16At (o : Octets) (off : Nat) : Nat := leNat (slice o off 2)

/-- The U24 at an offset. -/
def u24At (o : Octets) (off : Nat) : Nat := leNat (slice o off 3)

/-- The U32 at an offset. -/
def u32At (o : Octets) (off : Nat) : Nat := leNat (slice o off 4)

/-- The U64 at an offset. -/
def u64At (o : Octets) (off : Nat) : Nat := leNat (slice o off 8)

/-- The I16 at an offset. -/
def i16At (o : Octets) (off : Nat) : Int := toSigned 16 (u16At o off)

/-- The I32 at an offset. -/
def i32At (o : Octets) (off : Nat) : Int := toSigned 32 (u32At o off)

/-- The I64 at an offset. -/
def i64At (o : Octets) (off : Nat) : Int := toSigned 64 (u64At o off)

/-- `n` octets of zero. -/
def zeros (n : Nat) : Octets := List.replicate n 0#8

/-- An octet string with the octets from `off` on replaced, inside its length. -/
def splice (o : Octets) (off : Nat) (x : Octets) : Octets :=
  o.take off ++ (x.take (o.length - off)) ++ o.drop (off + x.length)

/-- Octets followed by zeros up to a length, or cut to it. -/
def padTo (n : Nat) (o : Octets) : Octets := (o ++ zeros (n - o.length)).take n

/-- All octets are zero. -/
def allZero (o : Octets) : Bool := o.all (· == 0#8)

/-- The `n` entries of `w` octets each that an octet string holds. -/
def chunks (w : Nat) : Nat → Octets → List Octets
  | 0, _ => []
  | n + 1, o => o.take w :: chunks w n (o.drop w)

/-- Element `i` of a list, or a given value past its end. -/
def nth {α : Type} (l : List α) (i : Nat) (d : α) : α := l.getD i d

/-- A list with its element `i` changed. -/
def upd {α : Type} (l : List α) (i : Nat) (f : α → α) : List α := l.modify i f

/-- Indices of a list, in order, whose element meets a condition. -/
def indicesWhere {α : Type} (l : List α) (p : α → Bool) : List Nat :=
  (l.zipIdx.filter (fun x => p x.1)).map (·.2)

/-- The indices 0 … n − 1 of the bits set in a mask. -/
def bitsOf (n m : Nat) : List Nat := (List.range n).filter (fun b => m.testBit b)

/-- The mask of a list of bit numbers. -/
def maskOf (l : List Nat) : Nat := l.foldl (fun m b => m ||| (1 <<< b)) 0

/-- Number of bits set among the lowest `n`. -/
def popCount (n m : Nat) : Nat := (bitsOf n m).length

/-- One step of the CRC register: `poly` in reversed form, one octet in. -/
def crcByte (poly : Nat) (c : Nat) (b : Byte) : Nat :=
  (List.range 8).foldl (fun c _ => if c % 2 = 1 then (c >>> 1) ^^^ poly else c >>> 1) (c ^^^ b.toNat)

/-- A reflected CRC over octets: start value, octets in order, final exclusive-or with all ones. -/
def crcReflected (poly w : Nat) (o : Octets) : Nat :=
  (o.foldl (crcByte poly) (2 ^ w - 1)) ^^^ (2 ^ w - 1)

/-- The bits of an integer square root from bit `b` down. -/
def isqrtFrom (n : Nat) : Nat → Nat → Nat
  | 0, r => r
  | b + 1, r => if (r + 2 ^ b) * (r + 2 ^ b) ≤ n then isqrtFrom n b (r + 2 ^ b) else isqrtFrom n b r

/-- ⌊√n⌋ for n below 2¹²⁸. -/
def isqrt (n : Nat) : Nat := isqrtFrom n 64 0

/-- ⌊√x⌋ of a number that is not negative. -/
def floorSqrt (x : Rat) : Nat := isqrt x.floor.toNat

/-- ⌈√x⌉ of a number that is not negative. -/
def ceilSqrt (x : Rat) : Nat :=
  let n := floorSqrt x
  if ((n * n : Nat) : Rat) = x then n else n + 1

/-- A memory of words: the words that differ from 0, by rising address. -/
abbrev Words := List (Nat × Nat)

/-- Word at an address. -/
def wordAt (m : Words) (a : Nat) : Nat :=
  match m with
  | [] => 0
  | e :: r => if e.1 = a then e.2 else wordAt r a

/-- A word put at its place; 0 leaves no entry. -/
def wordPut (m : Words) (a v : Nat) : Words :=
  match m with
  | [] => if v = 0 then [] else [(a, v)]
  | e :: r =>
    if a < e.1 then (if v = 0 then e :: r else (a, v) :: e :: r)
    else if e.1 = a then (if v = 0 then r else (a, v) :: r)
    else e :: wordPut r a v

end Sys2Proof.Machine
end

