-- ==== Sys2Proof/Machine/Fn.lean ====
section
/-! DEFINITION. The functions that can be started and stopped, their control records and the abort codes
(spec/03_object_dictionary.md Table 03-4, Table 03-26). -/

namespace Sys2Proof.Machine

/-- A function with a control record (Table 03-4). -/
inductive Fn where
  | waystation | loopEngines | front | solver | interp | planner | voxel | separation | fabric | trace
  | ring (n : Nat) | can (n : Nat) | hostPort (n : Nat) | timeBase | pairing
  | arm (a : Nat) | joint (j : Nat) | axis (k : Nat) | pwm (g : Nat) | feedback (n : Nat) | safety
deriving DecidableEq, Repr

/-- The instance number lies in the range of Table 00-3. -/
def Fn.exists : Fn → Bool
  | .ring n => n < 4
  | .can n => n < 4
  | .hostPort n => n < 2
  | .arm a => a < 12
  | .joint j => j < 96
  | .axis k => k < 16
  | .pwm g => g < 8
  | .feedback n => n < 16
  | _ => true

/-- Place of a function in the table of function records. -/
def Fn.slot : Fn → Nat
  | .waystation => 0
  | .loopEngines => 1
  | .front => 2
  | .solver => 3
  | .interp => 4
  | .planner => 5
  | .voxel => 6
  | .separation => 7
  | .fabric => 8
  | .trace => 9
  | .timeBase => 10
  | .pairing => 11
  | .safety => 12
  | .ring n => 13 + n
  | .can n => 17 + n
  | .hostPort n => 21 + n
  | .arm a => 23 + a
  | .joint j => 35 + j
  | .axis k => 131 + k
  | .pwm g => 147 + g
  | .feedback n => 155 + n

/-- How many function records there are. -/
def Fn.count : Nat := 171

/-- Every function, in the order of the table of records. -/
def Fn.all : List Fn :=
  [.waystation, .loopEngines, .front, .solver, .interp, .planner, .voxel, .separation, .fabric, .trace,
   .timeBase, .pairing, .safety] ++
  (List.range 4).map .ring ++ (List.range 4).map .can ++ (List.range 2).map .hostPort ++
  (List.range 12).map .arm ++ (List.range 96).map .joint ++ (List.range 16).map .axis ++
  (List.range 8).map .pwm ++ (List.range 16).map .feedback

/-- Index of the control record (Table 03-4). -/
def Fn.base : Fn → Nat
  | .waystation => 0x2000
  | .loopEngines => 0x2400
  | .front => 0x2800
  | .solver => 0x2810
  | .interp => 0x2820
  | .planner => 0x2830
  | .voxel => 0x2C00
  | .separation => 0x2C10
  | .fabric => 0x2E00
  | .trace => 0x2F00
  | .ring n => 0x3000 + 0x200 * n
  | .can n => 0x3800 + 0x100 * n
  | .hostPort n => 0x3C00 + 0x100 * n
  | .timeBase => 0x3E00
  | .pairing => 0x1C00
  | .arm a => 0x5000 + 0x40 * a
  | .joint j => 0x6000 + 0x20 * j
  | .axis k => 0x7000 + 0x40 * k
  | .pwm g => 0x7800 + 0x10 * g
  | .feedback n => 0x7C00 + 0x10 * n
  | .safety => 0xA000

/-- Instance of a repeated block: `idx = base + pitch × n` with `n < count`. -/
def instOf (idx base pitch count : Nat) : Option Nat :=
  if base ≤ idx ∧ (idx - base) % pitch = 0 ∧ (idx - base) / pitch < count then some ((idx - base) / pitch) else none

/-- The function whose control record stands at an index. -/
def Fn.ofBase (idx : Nat) : Option Fn :=
  if idx < 0x2C00 then
    if idx = 0x2000 then some .waystation else if idx = 0x2400 then some .loopEngines
    else if idx = 0x2800 then some .front else if idx = 0x2810 then some .solver
    else if idx = 0x2820 then some .interp else if idx = 0x2830 then some .planner
    else if idx = 0x1C00 then some .pairing else none
  else if idx < 0x3000 then
    if idx = 0x2C00 then some .voxel else if idx = 0x2C10 then some .separation
    else if idx = 0x2E00 then some .fabric else if idx = 0x2F00 then some .trace else none
  else if idx < 0x3800 then (instOf idx 0x3000 0x200 4).map .ring
  else if idx < 0x3C00 then (instOf idx 0x3800 0x100 4).map .can
  else if idx = 0x3E00 then some .timeBase
  else if idx < 0x3E00 then (instOf idx 0x3C00 0x100 2).map .hostPort
  else if idx < 0x6000 then (instOf idx 0x5000 0x40 12).map .arm
  else if idx < 0x7000 then (instOf idx 0x6000 0x20 96).map .joint
  else if idx < 0x7800 then (instOf idx 0x7000 0x40 16).map .axis
  else if idx < 0x7C00 then (instOf idx 0x7800 0x10 8).map .pwm
  else if idx < 0xA000 then (instOf idx 0x7C00 0x10 16).map .feedback
  else if idx = 0xA000 then some .safety else none

/-- State of a function (Table 03-5): 0 to 4 in this order. -/
inductive FnState where
  | stopped | starting | running | stopping | fault
deriving DecidableEq, Repr

/-- The value the state object reads (Table 03-5). -/
def FnState.code : FnState → Nat
  | .stopped => 0 | .starting => 1 | .running => 2 | .stopping => 3 | .fault => 4

/-- A function's state and fault code (Tables 03-5 and 03-7). -/
structure FnRec where
  st : FnState
  code : Nat
deriving DecidableEq, Repr

/-- STARTING or RUNNING. -/
def FnState.active : FnState → Bool
  | .starting => true
  | .running => true
  | _ => false

/-! Abort codes (Table 03-26). -/

def abVersion : Nat := 0x01000001
def abOpcode : Nat := 0x01000002
def abLengthField : Nat := 0x01000003
def abNotOpen : Nat := 0x02000001
def abEndpoint : Nat := 0x02000002
def abTag : Nat := 0x02000003
def abSequence : Nat := 0x02000004
def abExhausted : Nat := 0x02000005
def abSessionsFull : Nat := 0x02000006
def abKeySlot : Nat := 0x02000007
def abRole : Nat := 0x02000008
def abSafetySession : Nat := 0x02000009
def abNoIndex : Nat := 0x03000001
def abNoSub : Nat := 0x03000002
def abLifeCycle : Nat := 0x03000003
def abReadOnly : Nat := 0x03000004
def abWriteOnly : Nat := 0x03000005
def abLength : Nat := 0x03000006
def abRange : Nat := 0x03000007
def abState : Nat := 0x03000008
def abPrereq : Nat := 0x03000009
def abSafe : Nat := 0x0300000A
def abContent : Nat := 0x0300000B
def abNoTransfer : Nat := 0x04000001
def abTransferOpen : Nat := 0x04000002
def abOffset : Nat := 0x04000003
def abTotal : Nat := 0x04000004
def abRate : Nat := 0x05000001
def abStoring : Nat := 0x05000002
def abMram : Nat := 0x05000003
def abMailboxFull : Nat := 0x06000001
def abIdentity : Nat := 0x06000002
def abSignature : Nat := 0x07000001
def abFirmware : Nat := 0x07000002

end Sys2Proof.Machine
end

