-- ==== Sys2Proof/Machine/Inputs.lean ====
section
/-! DEFINITION. Records that commands carry: a request's header, a motion command, sensor readings, a packet's addresses
(spec/03_object_dictionary.md Table 03-9, Table 03-23; chapters 11, 13, 15, 16, 18). -/

namespace Sys2Proof

open Machine

/-- Where a request comes from: port 0, 1 are HP0, HP1 and 2 + n is CANn; source IP address and UDP port (R121). -/
structure Endpoint where
  port : Nat
  addr : Nat
  udp : Nat
deriving DecidableEq, Repr

/-- Header and tag of a request (Table 03-9), apart from the fields that its row fixes, and the ring time of its arrival. -/
structure Hdr where
  src : Endpoint
  version : Nat
  session : Nat
  seq : Nat
  flags : Nat
  /-- Length field. -/
  len : Nat
  /-- Octets 14–15. -/
  rsvd : Nat
  tag : Octets
  /-- Ring time of arrival in ns. -/
  at_ : Nat
deriving DecidableEq, Repr

/-- A motion command record (Table 03-23), apart from Kind. -/
structure Motion where
  rsvd1 : Nat
  mask : Nat
  ident : Nat
  target : Nat
  speed : Nat
  accel : Nat
  blend : Nat
  start : Nat
  after : Nat
  rsvd28 : Nat
deriving DecidableEq, Repr

/-- The last 16 samples of each temperature sensor T0–T23 (0.1 °C) and voltage monitor V0–V15 (mV) (R731). -/
structure Readings where
  temps : List (List Int)
  volts : List (List Nat)
deriving DecidableEq, Repr

/-- A parallel move of an ALU instruction (Table 08-10): store or load, pointer field, modifier, register field. -/
structure ParMove where
  store : Bool
  ptr : Nat
  md : Nat
  reg : Nat
deriving DecidableEq, Repr

/-- A CAN frame: identifier (field map of Table 03-15), FDF, BRS, RTR, ESI, DLC and data octets. -/
structure CanFrame where
  ident : Nat
  fdf : Bool
  brs : Bool
  rtr : Bool
  esi : Bool
  dlc : Nat
  data : Octets
deriving DecidableEq, Repr

/-- A PTP message of IEEE 1588-2019 as its fields: messageType, domainNumber, sourcePortIdentity, sequenceId, twoStepFlag,
logMessageInterval, correctionField (2⁻¹⁶ ns), the timestamp of its body, requestingPortIdentity, and of an Announce the
grandmaster's priority1, clockQuality, priority2, clockIdentity and stepsRemoved in this order; and its transport 0 to 2. -/
structure PtpMsg where
  kind : Nat
  domain : Nat
  src : Nat
  seq : Nat
  twoStep : Bool
  logInterval : Int
  corr : Int
  sec : Nat
  ns : Nat
  req : Nat
  rank : List Nat
  transport : Nat
deriving DecidableEq, Repr

/-- A Bazaar access of requester `req`: write or read, operation and octet offset, mask of octets and word for each word of
the burst (a read uses their number), and whether a word read was corrected (1) or could not be (2) (R696, R698, R713). -/
structure FabricReq where
  req : Nat
  write : Bool
  op : Nat
  offset : Nat
  words : List (Nat × Nat)
  ecc : Nat
deriving DecidableEq, Repr

end Sys2Proof
end

