-- ==== Sys2Proof/Syntax.lean ====
section
/-! DEFINITION. The commands the block takes: one constructor for each row of the table of operations and events, those
without operands last (so that values of the type can be evaluated by compiled code). -/

namespace Sys2Proof

open Machine

/-- A command of the CX9612. -/
inductive Instr where
  /-- MAIN_PGOOD_FALL (R68): MAIN_PGOOD is low for 20 samples while the main die is out of reset, which starts a main reset with MAIN_PWR_EN low. -/
  | mainPgoodFall (longUp : Bool)
  /-- CLOCK_MONITOR_FAULT (R80): A main clock monitor CM0–CM7 faults and takes the action of its row in Table 02-12. -/
  | clockMonitorFault (cm : Fin 8)
  /-- SENSOR_READING_UPDATE (R731): Each 1 ms the sensor and monitor readings are updated and compared with their thresholds. -/
  | sensorReadingUpdate (r : Readings)
  /-- THERMAL_SHUTDOWN (R734): A hard-wired shutdown comparator trips and the companion die drives MAIN_PWR_EN low, keeping a shutdown flag. -/
  | thermalShutdown (sensor : Fin 20)
  /-- TAMPER (R764): A tamper sensor trips, the vault is made unreadable and wiped, TAMPERED is set and EV397 is raised. -/
  | tamper (sensor : Fin 5)
  /-- OPEN (R119): An OPEN request creates a session, derives its key and answers with the device nonce and role. -/
  | openSession (h : Hdr) (slot : Nat) (pad : Octets) (nonce : Octets)
  /-- CLOSE (R123): A CLOSE request closes the session. -/
  | close (h : Hdr)
  /-- READ (R113): A READ request returns the object value taken at one instant. -/
  | read (h : Hdr) (idx : Nat) (sub : Nat)
  /-- WRITE (R111): A WRITE request to an object without behaviour of its own is checked and stores the value. -/
  | write (h : Hdr) (idx : Nat) (sub : Nat) (value : Octets)
  /-- SEG_READ_INIT (R134): Opens a segmented read of a DOMAIN object and returns its total length. -/
  | segReadInit (h : Hdr) (idx : Nat) (sub : Nat)
  /-- SEG_READ (R134): Returns the next segment of the content as it stood at SEG_READ_INIT. -/
  | segRead (h : Hdr) (offset : Nat)
  /-- SEG_WRITE_INIT (R128): Opens a segmented write of a DOMAIN object with its total length. -/
  | segWriteInit (h : Hdr) (idx : Nat) (sub : Nat) (total : Nat)
  /-- SEG_WRITE (R129): Carries the next segment of a DOMAIN write at the expected offset. -/
  | segWrite (h : Hdr) (offset : Nat) (value : Octets)
  /-- SEG_ABORT (R132): Aborts the open segmented transfer. -/
  | segAbort (h : Hdr)
  /-- DOMAIN_CONTENT_CHECK_DONE (R127): The owning function's content check of a completed DOMAIN write ends, and the write takes effect or is refused. -/
  | domainContentCheckDone (session : Nat)
  /-- SESSION_CONFIRM_TIMEOUT (R122): The session is closed because its first tagged request has not arrived within 1 s of the OPEN response. -/
  | sessionConfirmTimeout (session : Nat)
  /-- SESSION_IDLE_TIMEOUT (R123): The session is closed after 60 s without a request that passes step 4. -/
  | sessionIdleTimeout (session : Nat)
  /-- SEGMENT_TIMEOUT (R132): The segmented transfer is closed after 1 s without a segment, and its object is unchanged. -/
  | segmentTimeout (session : Nat)
  /-- START (R99): The START command moves a STOPPED function to STARTING once its prerequisites are RUNNING. -/
  | start (f : Fn) (h : Hdr)
  /-- STOP (R99): The STOP command moves a STARTING or RUNNING function to STOPPING unless a dependent function is active. -/
  | stop (f : Fn) (h : Hdr)
  /-- CLEAR (R105): The CLEAR command returns a FAULT function to STOPPED when its fault cause is gone. -/
  | clear (f : Fn) (h : Hdr)
  /-- START_CHECKS_COMPLETE (R100): The function's start checks are complete and it passes from STARTING to RUNNING. -/
  | startChecksComplete (f : Fn)
  /-- START_LIMIT_EXPIRY (R100): The start limit expires before the start checks are complete, so the function enters FAULT with code 0x0002. -/
  | startLimitExpiry (f : Fn)
  /-- STOP_SEQUENCE_COMPLETE (R101): The function's stop sequence is complete and it passes from STOPPING to STOPPED. -/
  | stopSequenceComplete (f : Fn)
  /-- STORE (R140): The store command snapshots every RWS value and starts writing it to the copy that the marker does not name. -/
  | store (h : Hdr)
  /-- STORE_COMPLETE (R144): The store write ends: the copy is checked and the marker rewritten, or the status becomes 3. -/
  | storeComplete (ok : Bool)
  /-- RESTORE_DEFAULTS (R145): The restore-defaults command marks both RWS copies invalid, to take effect at the next reset. -/
  | restoreDefaults (h : Hdr)
  /-- MAIN_RESET_REQUEST (R76): Value 1 written to 0x1021:00 starts a main reset once the response has left the port. -/
  | mainResetRequest (h : Hdr)
  /-- DEVICE_RESET_REQUEST (R76): Value 2 written to 0x1021:00 starts a device reset once the response has left the port. -/
  | deviceResetRequest (h : Hdr)
  /-- POWER_MODE_RUN (R84): A write of RUN restarts the compute clock from DOZE, or powers and clears the compute domain from COMPUTE_OFF. -/
  | powerModeRun (h : Hdr)
  /-- POWER_MODE_DOZE (R84): A write of DOZE stops the compute domain clock, or powers it up from COMPUTE_OFF and leaves the clock stopped. -/
  | powerModeDoze (h : Hdr)
  /-- POWER_MODE_COMPUTE_OFF (R84): A write of COMPUTE_OFF switches the compute domain off, and its SRAM is lost. -/
  | powerModeComputeOff (h : Hdr)
  /-- POWER_MODE_MAIN_OFF (R82): A write of MAIN_OFF, when every ring is STOPPED and every SO pair is off, removes power from the main die. -/
  | powerModeMainOff (h : Hdr)
  /-- RING_CYCLE_START (R221): At a cycle start the master sends the caravan of the cycle and posts MISSING items for a caravan that has not returned. -/
  | ringCycleStart (n : Fin 4)
  /-- HEAD_RETURN (R247): A caravan head returns; a head sent with FOLDED clear that returns on PORTxE is detected as a fold. -/
  | headReturn (n : Fin 4) (east : Bool) (octets : Octets) (at_ : Nat)
  /-- PANNIER_RETURN (R178): The last octet of a returned pannier arrives; it is judged, counted and posted as an item on its bound flow. -/
  | pannierReturn (n : Fin 4) (position : Nat) (octets : Octets) (at_ : Nat)
  /-- TRAILER_RETURN (R200): The trailer returns; cut mask, node count, barrier count and command acknowledge are taken from it. -/
  | trailerReturn (n : Fin 4) (octets : Octets) (at_ : Nat)
  /-- RING_LOST (R256): No caravan has returned on either port in 4 consecutive cycles, so the ring enters FAULT 0x0101. -/
  | ringLost (n : Fin 4)
  /-- COURIER_FRAME_RECEIVED (R245): A courier frame reaches the master's receive port; it is removed, taken as a response, or counted as cut. -/
  | courierFrameReceived (n : Fin 4) (octets : Octets) (violated : Bool) (at_ : Nat)
  /-- NODE_SERVICE_TIMEOUT (R207): An outstanding service request is unanswered for 8 cycles; it is resent, or after the third resend the timeout event is raised. -/
  | nodeServiceTimeout (n : Fin 4) (addr : Nat)
  /-- PORT_RECEIVE_SYNC_LOSS (R250): A ring port loses receive sync, and the master takes caravans from its other port. -/
  | portReceiveSyncLoss (n : Fin 4) (east : Bool)
  /-- UNFOLD_REQUEST (R259): The host requests UNFOLD, which the master issues with a target 4 cycles ahead. -/
  | unfoldRequest (n : Fin 4) (h : Hdr)
  /-- SNAPSHOT (R263): The global command request with COMMAND SNAPSHOT schedules a snapshot at its target cycle. -/
  | snapshot (n : Fin 4) (arg : Nat) (target : Nat) (h : Hdr)
  /-- OUTPUT_RESET (R263): The global command request with COMMAND OUTPUT_RESET schedules an output reset at its target cycle. -/
  | outputReset (n : Fin 4) (arg : Nat) (target : Nat) (h : Hdr)
  /-- MODE (R263): The global command request with COMMAND MODE schedules a mode switch at its target cycle. -/
  | mode (n : Fin 4) (arg : Nat) (target : Nat) (h : Hdr)
  /-- BARRIER_REQUEST (R266): The host writes a barrier identity, which is carried in every trailer from the next caravan. -/
  | barrierRequest (n : Fin 4) (ident : Nat) (h : Hdr)
  /-- TRACKING_HEAD_RECEIVED (R786): A tracking unit receives a valid head of the board reference ring and updates its pairing offset. -/
  | trackingHeadReceived (n : Fin 4) (octets : Octets) (second : Bool) (at_ : Nat)
  /-- REGULATOR_STEP (R277): A step write sets the Regulator to the written value at the next tick. -/
  | regulatorStep (sec : Nat) (ns : Nat) (h : Hdr)
  /-- INCREMENT_WRITE (R278): An increment write applies from the next tick. -/
  | incrementWrite (value : Nat) (h : Hdr)
  /-- PPS_EDGE (R279): A rising edge on TB_PPS_IN gives the servo an offset sample in mode 1. -/
  | ppsEdge (at_ : Nat)
  /-- ITEM_DISPATCH (R301): A ready item is dispatched to a consumer position of its class. -/
  | itemDispatch (cls : Fin 8)
  /-- CONTEXT_FILL (R349): The flow's context is loaded into the context window once earlier write-backs of that flow have ended. -/
  | contextFill (pos : Fin 48)
  /-- ITEM_COMPLETION (R305): A consumer reports an item's completion, which frees capacity and counts against gates. -/
  | itemCompletion (pos : Fin 112) (err : Bool)
  /-- GATE_HELD_POST (R317): A gate holding an item posts it once its target flow has room. -/
  | gateHeldPost (g : Fin 1024)
  /-- DELAY_LIST_TICK (R312): A delay list ticks, releasing due items and decrementing wait counters. -/
  | delayListTick (d : Fin 4)
  /-- GATE_WAIT_TIMEOUT (R319): A gate's wait counter reaches 0 before the gate fires; EV1 is raised. -/
  | gateWaitTimeout (g : Fin 1024)
  /-- EVENT_RAISE (R324): A write to the event raise object raises software event EV480–EV511. -/
  | eventRaise (ev : Nat) (h : Hdr)
  /-- EVENT_CLEAR (R326): A write to the event clear object clears the pending bit of the named event. -/
  | eventClear (ev : Nat) (h : Hdr)
  /-- WAYSTATION_STATUS_CLEAR (R333): A write to 0x2031:00 clears the selected sticky status bits. -/
  | waystationStatusClear (mask : Nat) (h : Hdr)
  /-- PREEMPT_SWITCH (R307): At the next open boundary the pre-empted engine switches to its shadow bank and starts the urgent item. -/
  | preemptSwitch (k : Fin 16)
  /-- EXECUTION_LIMIT (R376): An item reaches the execution limit without DONE and is aborted with EV97. -/
  | executionLimit (k : Fin 16)
  /-- WRITE_BACK_END (R353): Write-back of context and setpoint groups ends, and the setpoint counts as ready. -/
  | writeBackEnd (k : Fin 16)
  /-- LE_MEMORY_ERROR (R385): An uncorrectable error in an engine memory sends the loop engines to FAULT 0x0101. -/
  | leMemoryError (k : Fin 16) (corrected : Bool)
  /-- DEBUG_ENABLE_WRITE (R375): A write to debug enable; a write of 0x00 resumes every halted engine. -/
  | debugEnableWrite (value : Nat) (h : Hdr)
  /-- NOP (R377): No operation. -/
  | nop (k : Fin 16)
  /-- DONE (R350): Ends the item, reports completion 3 cycles later and starts write-back of G groups. -/
  | done (k : Fin 16) (g : Nat) (err : Bool)
  /-- RTS (R369): Returns from a subroutine, with two delay slots. -/
  | rts (k : Fin 16)
  /-- REP (R370): Executes the next instruction n times. -/
  | rep (k : Fin 16) (n : Nat)
  /-- LOOP (R371): Pushes a loop entry and executes the following body n times through the loop cache. -/
  | loop (k : Fin 16) (len : Nat) (n : Nat)
  /-- LEXIT (R371): Marks the innermost loop as on its last pass. -/
  | lexit (k : Fin 16)
  /-- BKPT (R375): Halts the engine when debug enable is set, which puts every PWM group into its safe state; otherwise acts as NOP. -/
  | bkpt (k : Fin 16)
  /-- BRA (R369): Branches on a condition, with two delay slots. -/
  | bra (k : Fin 16) (cond : Nat) (target : Nat)
  /-- BSR (R369): Branches to a subroutine on a condition, with two delay slots. -/
  | bsr (k : Fin 16) (cond : Nat) (target : Nat)
  /-- MOVE_IMMEDIATE (R362): Loads an immediate value, short or LONG, into a register. -/
  | moveImmediate (k : Fin 16) (dst : Nat) (value : Nat) (long : Bool)
  /-- MOVE_ABSOLUTE (R341): Loads or stores a register at an absolute X or Y address. -/
  | moveAbsolute (k : Fin 16) (y : Bool) (store : Bool) (reg : Nat) (addr : Nat)
  /-- MOVE_INDIRECT (R364): Loads or stores a register through a pointer with post-modification. -/
  | moveIndirect (k : Fin 16) (y : Bool) (store : Bool) (reg : Nat) (ptr : Nat) (md : Nat)
  /-- MOVE (R361): Moves a register to a register. -/
  | move (k : Fin 16) (dst : Nat) (src : Nat)
  /-- SHLN (R825): Arithmetic left shift of an accumulator by 1–55. -/
  | shln (k : Fin 16) (d : Bool) (n : Nat)
  /-- SHRN (R825): Arithmetic right shift of an accumulator by 1–55. -/
  | shrn (k : Fin 16) (d : Bool) (n : Nat)
  /-- ADDP (R364): Adds a signed offset to a pointer modulo 2^14. -/
  | addp (k : Fin 16) (ptr : Nat) (off : Nat)
  /-- POST (R378): Posts an item from a law program and writes the outcome into PS. -/
  | post (k : Fin 16) (flow : Nat) (list : Nat) (ptr : Nat)
  /-- EVR (R324): Raises software event EV480 + value. -/
  | evr (k : Fin 16) (v : Nat)
  /-- GET (R354): Reads a board word from the previous cycle's bank, or a reference word. -/
  | get (k : Fin 16) (dst : Nat) (ind : Bool) (ptr : Nat) (md : Nat) (addr : Nat)
  /-- PUB (R354): Writes a board publication into the bank of the current cycle. -/
  | pub (k : Fin 16) (src : Nat) (ind : Bool) (ptr : Nat) (md : Nat) (addr : Nat)
  /-- FTAP (R379): Performs one filter tap: a multiply-accumulate with delay-line shift and pointer updates. -/
  | ftap (k : Fin 16) (d : Bool) (neg : Bool) (ptr : Nat) (tap : Nat)
  /-- PMOV (R367): Performs parallel moves only, with the flags unchanged. -/
  | pmov (k : Fin 16) (x : Option ParMove) (y : Option ParMove)
  /-- CLR (R363): Clears the accumulator. -/
  | clr (k : Fin 16) (d : Bool) (x : Option ParMove) (y : Option ParMove)
  /-- CPY (R358): Copies the source into the accumulator. -/
  | cpy (k : Fin 16) (d : Bool) (src : Nat) (x : Option ParMove) (y : Option ParMove)
  /-- ADD (R358): Adds the source to the accumulator. -/
  | add (k : Fin 16) (d : Bool) (src : Nat) (x : Option ParMove) (y : Option ParMove)
  /-- SUB (R358): Subtracts the source from the accumulator. -/
  | sub (k : Fin 16) (d : Bool) (src : Nat) (x : Option ParMove) (y : Option ParMove)
  /-- CMP (R363): Sets the flags from d minus src. -/
  | cmp (k : Fin 16) (d : Bool) (src : Nat) (x : Option ParMove) (y : Option ParMove)
  /-- NEG (R824): Negates the accumulator. -/
  | neg (k : Fin 16) (d : Bool) (x : Option ParMove) (y : Option ParMove)
  /-- ABS (R824): Takes the absolute value of the accumulator. -/
  | abs (k : Fin 16) (d : Bool) (x : Option ParMove) (y : Option ParMove)
  /-- MUL (R357): Loads the exact product into the accumulator. -/
  | mul (k : Fin 16) (d : Bool) (src : Nat) (x : Option ParMove) (y : Option ParMove)
  /-- MULN (R357): Loads the negated product into the accumulator. -/
  | muln (k : Fin 16) (d : Bool) (src : Nat) (x : Option ParMove) (y : Option ParMove)
  /-- MAC (R357): Adds the product to the accumulator. -/
  | mac (k : Fin 16) (d : Bool) (src : Nat) (x : Option ParMove) (y : Option ParMove)
  /-- MSU (R357): Subtracts the product from the accumulator. -/
  | msu (k : Fin 16) (d : Bool) (src : Nat) (x : Option ParMove) (y : Option ParMove)
  /-- MULR (R360): Loads the product, rounded, into the accumulator. -/
  | mulr (k : Fin 16) (d : Bool) (src : Nat) (x : Option ParMove) (y : Option ParMove)
  /-- MADR (R360): Adds the product to the accumulator and rounds. -/
  | madr (k : Fin 16) (d : Bool) (src : Nat) (x : Option ParMove) (y : Option ParMove)
  /-- RND (R360): Rounds the accumulator to Q23. -/
  | rnd (k : Fin 16) (d : Bool) (x : Option ParMove) (y : Option ParMove)
  /-- TST (R363): Sets the flags from the accumulator. -/
  | tst (k : Fin 16) (d : Bool) (x : Option ParMove) (y : Option ParMove)
  /-- ASL (R824): Doubles the accumulator. -/
  | asl (k : Fin 16) (d : Bool) (x : Option ParMove) (y : Option ParMove)
  /-- ASR (R824): Halves the accumulator arithmetically. -/
  | asr (k : Fin 16) (d : Bool) (x : Option ParMove) (y : Option ParMove)
  /-- MAX (R358): Keeps the larger of the accumulator and the source. -/
  | max (k : Fin 16) (d : Bool) (src : Nat) (x : Option ParMove) (y : Option ParMove)
  /-- MIN (R358): Keeps the smaller of the accumulator and the source. -/
  | min (k : Fin 16) (d : Bool) (src : Nat) (x : Option ParMove) (y : Option ParMove)
  /-- AND (R363): Bitwise AND of the high part of the accumulator with the source. -/
  | and (k : Fin 16) (d : Bool) (src : Nat) (x : Option ParMove) (y : Option ParMove)
  /-- OR (R363): Bitwise OR of the high part of the accumulator with the source. -/
  | or (k : Fin 16) (d : Bool) (src : Nat) (x : Option ParMove) (y : Option ParMove)
  /-- XOR (R363): Bitwise XOR of the high part of the accumulator with the source. -/
  | xor (k : Fin 16) (d : Bool) (src : Nat) (x : Option ParMove) (y : Option ParMove)
  /-- SAT (R817): Saturates the accumulator to the Q23 range. -/
  | sat (k : Fin 16) (d : Bool) (x : Option ParMove) (y : Option ParMove)
  /-- LAW_SELECT_REQUEST (R398): Requests a change of law and set for one joint, made at its hand-over item. -/
  | lawSelectRequest (j : Nat) (entry : Nat) (h : Hdr)
  /-- TUNE_REQUEST (R411): Starts an identification run of a joint with the IDENT law. -/
  | tuneRequest (j : Nat) (value : Nat) (h : Hdr)
  /-- IDENT_RUN_END (R414): The identification run ends after 2 047 × HOLD items, or is aborted, and the fit starts. -/
  | identRunEnd (j : Nat)
  /-- TUNE_FIT_DONE (R413): The management processor finishes the fit and writes new gains or an error status. -/
  | tuneFitDone (j : Nat)
  /-- TRACE_TRIGGER_NOW (R418): A manual trigger selects the next record formed as the trigger record. -/
  | traceTriggerNow (h : Hdr)
  /-- MOVE_JOINT (R431): Mailbox command of kind 0x01, a joint-space move of one arm. -/
  | moveJoint (m : Motion) (h : Hdr)
  /-- MOVE_LINEAR (R431): Mailbox command of kind 0x02, a linear move of one arm's tool. -/
  | moveLinear (m : Motion) (h : Hdr)
  /-- COOP_MOVE (R431): Mailbox command of kind 0x03, a move of an engaged group's object. -/
  | coopMove (m : Motion) (h : Hdr)
  /-- HOLD (R433): Mailbox command that holds the arms of its mask to standstill. -/
  | hold (m : Motion) (h : Hdr)
  /-- RESUME (R433): Mailbox command that clears held for the arms of its mask. -/
  | resume (m : Motion) (h : Hdr)
  /-- CANCEL (R433): Mailbox command that cancels a queued or active command. -/
  | cancel (m : Motion) (h : Hdr)
  /-- GROUP_ENGAGE (R430): Engages or releases a cooperative group from the next planning cycle. -/
  | groupEngage (g : Fin 6) (value : Nat) (h : Hdr)
  /-- ASSEMBLY_DONE (R424): The front stage finishes assembling a problem and posts it on flow 113. -/
  | assemblyDone (a : Fin 12)
  /-- SOLVE_END (R448): A solve ends converged or capped; a usable iterate or the shifted plan is taken, and after the last problem an item is posted on flow 114. -/
  | solveEnd (a : Fin 12)
  /-- SOLVER_DEADLINE (R454): The solver deadline expires, the iteration in progress is abandoned and EV288 is raised. -/
  | solverDeadline (a : Fin 12) (iterates : Nat)
  /-- POINT_PACKET (R688): A point packet arrives; it is accepted by the port and then by the voxel builder, and its points are staged. -/
  | pointPacket (n : Fin 2) (v6 : Bool) (addr : Octets) (udp : Nat) (octets : Octets) (at_ : Nat)
  /-- DECISION_COMPARE (R508): The decision records are exchanged and compared, raising 0x0103 or counting tolerant differences. -/
  | decisionCompare (mismatch : Bool)
  /-- SAFETY_MARKER (R34): A ring-time safety marker arrives and channel B checks its interval. -/
  | safetyMarker (interval : Nat)
  /-- CHANNEL_INTERNAL_FAULT (R503): A channel detects a fault of its own and stops its cross-line wave. -/
  | channelInternalFault (chB : Bool)
  /-- TSTOP_ELAPSED (R514): T_STOP elapses in SS1 or SS2, ending SS1 or moving SS2 to SOS. -/
  | tstopElapsed (a : Fin 12)
  /-- HOST_STOP_REQUEST (R546): A host stop request adds an SS1 or SS2 demand in the next safety cycle. -/
  | hostStopRequest (a : Fin 12) (value : Nat) (h : Hdr)
  /-- ARM_ACKNOWLEDGE (R518): The host acknowledges the arms of a mask from STO. -/
  | armAcknowledge (mask : Nat) (h : Hdr)
  /-- BRAKE_TEST_REQUEST (R529): Starts a safe brake test of the masked joints of an arm in SOS. -/
  | brakeTestRequest (value : Nat) (h : Hdr)
  /-- BRAKE_TEST_DUE (R532): A joint's test age reaches the interval or twice the interval, setting BRAKE_DUE or an SS2 demand. -/
  | brakeTestDue (j : Fin 96)
  /-- INPUT_FILTER_CHANGE (R551): A safety or EDM input channel holds a new raw level for F samples, and its filtered level changes. -/
  | inputFilterChange (line : Fin 40) (level : Bool)
  /-- DISCREPANCY_FAULT (R554): An input's discrepancy count reaches T_disc; the fault latches and degraded mode starts. -/
  | discrepancyFault (n : Fin 16)
  /-- TEST_PULSE_START (R560): An OSSD output starts its off-pulse in its slot. -/
  | testPulseStart (k : Fin 16)
  /-- TEST_PULSE_END (R561): An OSSD off-pulse ends and the read-back at its last sample is judged. -/
  | testPulseEnd (k : Fin 16) (high : Bool) (si : Nat)
  /-- EDM_TIMEOUT (R566): EDM does not follow its pair within T_EDM and raises 0x0183. -/
  | edmTimeout (n : Fin 8)
  /-- BINDING_WATCHDOG_EXPIRY (R573): An ESTABLISHED binding exceeds its watchdog expectation and becomes LOST. -/
  | bindingWatchdogExpiry (b : Fin 104)
  /-- SAFE_OBJECT_WRITE (R583): A SAFE write in a safety commissioning session creates or changes the pending set. -/
  | safeObjectWrite (session : Nat)
  /-- SAFETY_CONFIRM (R587): A write of the matching check value to 0xA003:00 confirms the pending set and starts its commit. -/
  | safetyConfirm (value : Nat) (h : Hdr)
  /-- DISCARD_PENDING (R584): A write to 0xA004:00 discards the pending set. -/
  | discardPending (h : Hdr)
  /-- COMMIT_COMPLETE (R588): The safety commit ends, with the marker rewritten or the state set to 4. -/
  | commitComplete (ok : Bool)
  /-- MOVE_ABS (R597): Starts a move to an absolute target position. -/
  | moveAbs (k : Fin 16) (target : Nat) (h : Hdr)
  /-- MOVE_REL (R597): Starts a move by a relative distance. -/
  | moveRel (k : Fin 16) (distance : Nat) (h : Hdr)
  /-- JOG_POS (R597): Starts an unbounded jog in the positive direction. -/
  | jogPos (k : Fin 16) (h : Hdr)
  /-- JOG_NEG (R597): Starts an unbounded jog in the negative direction. -/
  | jogNeg (k : Fin 16) (h : Hdr)
  /-- AXIS_STOP (R602): Sets stopping in the running move, which decelerates to a stop. -/
  | axisStop (k : Fin 16) (h : Hdr)
  /-- HOME (R606): Starts homing by the configured method. -/
  | home (k : Fin 16) (h : Hdr)
  /-- HALT (R602): Ends the running move at once without a further step. -/
  | halt (k : Fin 16) (h : Hdr)
  /-- PROFILE_TICK (R597): At each microsecond profile tick the axis advances its speed, emits steps and ends moves. -/
  | profileTick (k : Fin 16) (us : Nat)
  /-- SWITCH_FILTER_CHANGE (R604): A limit or home switch holds a new level for its debounce length and its filtered level changes. -/
  | switchFilterChange (k : Fin 16) (which : Fin 3) (active : Bool) (edge : Nat)
  /-- STANDSTILL_DELAY_EXPIRY (R609): No step for the standstill delay, so the standstill action is applied to the stage group. -/
  | standstillDelayExpiry (k : Fin 16)
  /-- PWM_PERIOD_START (R617): A PWM period starts: the reload copies shadow values and the period item is posted. -/
  | pwmPeriodStart (g : Fin 8)
  /-- DUTY_WRITE (R617): A duty write sets a pair's shadow compare value. -/
  | dutyWrite (g : Fin 8) (p : Fin 3) (value : Nat) (h : Hdr)
  /-- TRIP_INPUT_ACTIVE (R627): A trip input's filtered level becomes active and each group naming it enters safe state and FAULT. -/
  | tripInputActive (t : Fin 8)
  /-- CALIBRATION_MEASURE (R621): Every 10 µs the reference delay line is measured and the tap maps are recomputed or declared invalid. -/
  | calibrationMeasure (ok : Bool)
  /-- FEEDBACK_EDGE (R630): A filtered edge of FBn_A or FBn_B counts, or is judged an illegal transition. -/
  | feedbackEdge (n : Fin 16) (a : Bool) (b : Bool) (at_ : Nat)
  /-- INDEX_EDGE (R634): An index edge latches the feedback position and the positions of the axes that name the input. -/
  | indexEdge (n : Fin 16)
  /-- SPEED_WINDOW_END (R635): At the end of a speed window the feedback speed is computed. -/
  | speedWindowEnd (n : Fin 16)
  /-- CAN_FRAME_RECEIVED (R648): A received CAN frame goes to the dictionary endpoint, a mailbox or rejection. -/
  | canFrameReceived (n : Fin 4) (frame : CanFrame) (at_ : Nat)
  /-- TRANSMIT_REQUEST (R658): Makes the named transmit buffers pending. -/
  | transmitRequest (n : Fin 4) (mask : Nat) (h : Hdr)
  /-- BUS_FREE_ARBITRATION (R661): When the bus becomes free, the highest-priority pending frame is offered. -/
  | busFreeArbitration (n : Fin 4)
  /-- CAN_TRANSMISSION_END (R662): A transmission ends sent, lost in arbitration or in error, and the error counts are updated. -/
  | canTransmissionEnd (n : Fin 4) (outcome : Nat) (lec : Nat) (exempt : Bool) (delay : Nat)
  /-- BUS_OFF_RECOVERY_COMPLETE (R665): After 128 occurrences of 11 recessive bits the controller becomes error active. -/
  | busOffRecoveryComplete (n : Fin 4)
  /-- RECOVERY_REQUEST (R666): The host requests bus-off recovery while AWAIT_SW is set. -/
  | recoveryRequest (n : Fin 4) (h : Hdr)
  /-- BUS_INTEGRATION_DONE (R669): After START, 11 recessive bits complete bus integration and the controller is RUNNING. -/
  | busIntegrationDone (n : Fin 4)
  /-- LINK_UP (R677): A host port's link comes up; gratuitous ARP and a neighbour advertisement are sent. -/
  | linkUp (n : Fin 2)
  /-- LINK_DOWN (R677): A host port's link goes down. -/
  | linkDown (n : Fin 2)
  /-- ARP_REQUEST (R678): The port answers an ARP request for its IPv4 address. -/
  | arpRequest (n : Fin 2) (senderMac : Octets) (senderIp : Octets) (target : Octets) (at_ : Nat)
  /-- NEIGHBOUR_SOLICITATION (R678): The port answers an IPv6 neighbour solicitation. -/
  | neighbourSolicitation (n : Fin 2) (source : Octets) (target : Octets) (at_ : Nat)
  /-- ECHO_REQUEST (R678): The port answers an ICMP or ICMPv6 echo request. -/
  | echoRequest (n : Fin 2) (v6 : Bool) (source : Octets) (target : Octets) (body : Octets) (at_ : Nat)
  /-- PTP_MESSAGE (R686): A PTP message is taken by the slave-only instance or discarded. -/
  | ptpMessage (n : Fin 2) (m : PtpMsg) (at_ : Nat)
  /-- DELAY_REQ_TIMER (R687): The interval elapses and the port sends Delay_Req. -/
  | delayReqTimer (n : Fin 2) (at_ : Nat)
  /-- PDELAY_REQ_TIMER (R687): Once per second the port sends Pdelay_Req. -/
  | pdelayReqTimer (n : Fin 2) (at_ : Nat)
  /-- LOOPBACK_TEST_FRAME (R692): Every 100 µs a port in loop-back sends a test frame and counts lost ones. -/
  | loopbackTestFrame (n : Fin 2) (intact : Bool)
  /-- BAZAAR_ACCESS (R707): A requester's Bazaar access wins arbitration and moves its word or burst. -/
  | bazaarAccess (bank : Fin 48) (portB : Bool) (cycle : Nat) (moved : Nat) (requests : List FabricReq)
  /-- LOCK_REQUEST (R716): A requester locks a 64-octet line in a locked sequence. -/
  | lockRequest (r : Fin 17) (line : Nat) (cycle : Nat)
  /-- LOCK_GRANT (R717): A waiting lock request is granted after the line is released. -/
  | lockGrant (line : Nat) (cycle : Nat)
  /-- UNLOCK (R718): The holder commits its held writes in ascending offset and releases its lines. -/
  | unlock (r : Fin 17) (cycle : Nat)
  /-- HOLD_CUT_OFF (R719): A sequence's hold timer reaches the limit; the sequence is cut and its writes discarded. -/
  | holdCutOff (cycle : Nat)
  /-- FABRIC_STATUS_CLEAR (R726): A write to 0x2E05:00 clears the selected sticky fabric status bits. -/
  | fabricStatusClear (mask : Nat) (h : Hdr)
  /-- FLASH_PROGRAMMING_DONE (R747): Programming of the image slot ends; the slot becomes VALID or stays EMPTY. -/
  | flashProgrammingDone (ok : Bool)
  /-- ACTIVATE (R748): Firmware command that makes the other slot TRIAL. -/
  | activate (h : Hdr)
  /-- CONFIRM (R748): Firmware command that makes the running TRIAL slot CONFIRMED. -/
  | confirm (h : Hdr)
  /-- REJECT (R748): Firmware command that makes the running TRIAL slot REJECTED. -/
  | reject (h : Hdr)
  /-- KEY_SLOT_WRITE (R753): Installs, changes or empties a session key slot with a wrapped key. -/
  | keySlotWrite (session : Nat)
  /-- ATTESTATION_CHALLENGE (R758): A challenge write reserves a signature index and starts signing a statement. -/
  | attestationChallenge (session : Nat)
  /-- TRANSITION_REQUEST (R768): Requests a life-cycle transition, checked against Table 18-21. -/
  | transitionRequest (session : Nat)
  /-- RETURN_AUTHORISATION (R769): A return authorisation is verified against the serial, challenge and target. -/
  | returnAuthorisation (session : Nat)
  /-- ACTV_I_CHANGE (R793): ACTV_I changes; an acting partner releases, a non-acting partner with both lines high lowers ACTV_O. -/
  | actvIChange (level : Bool)
  /-- MEASURE_REQUEST (R787): The acting unit sends two MEASURE caravans on every named ring. -/
  | measureRequest (h : Hdr)
  /-- SWITCHOVER_TEST_REQUEST (R794): The acting unit releases at the next board cycle to test the other unit. -/
  | switchoverTestRequest (h : Hdr)
  /-- EXTEST (R808): Boundary instruction that drives and captures the balls when granted. -/
  | extest (value : Nat)
  /-- SAMPLE_PRELOAD (R807): Samples and preloads the boundary register. -/
  | samplePreload (value : Nat)
  /-- EXTEST_PULSE (R808): IEEE 1149.6 pulse test of the AC-coupled pairs, when granted. -/
  | extestPulse (value : Nat)
  /-- EXTEST_TRAIN (R808): IEEE 1149.6 train test of the AC-coupled pairs, when granted. -/
  | extestTrain (value : Nat)
  /-- FLASH_SET_OFFSET (R805): FLASH_PROG operation 0x01 sets the flash offset. -/
  | flashSetOffset (offset : Nat)
  /-- FLASH_WRITE_WORD (R806): FLASH_PROG operation 0x02 writes a word and advances the offset. -/
  | flashWriteWord (word : Nat)
  /-- FLASH_ERASE_SECTOR (R805): FLASH_PROG operation 0x04 erases the 4 KiB sector at the offset. -/
  | flashEraseSector (offset : Nat)
  /-- RECEIVE_SYNC_GAINED (R159): A ring port gains receive code-group synchronisation, so NO_RX_W clears and the port can again carry caravans. -/
  | receiveSyncGained (n : Fin 4) (east : Bool)
  /-- SAFETY_IO_SAMPLE (R550): Every 10 µs the companion die samples the SI, read-back and ED balls, and each channel checks the OSSD read-back of R561 at that sample. -/
  | safetyIoSample (si : Nat) (ed : Nat) (rba : Nat) (rbb : Nat)
  /-- TRIP_INPUT_INACTIVE (R627): A trip input's filtered level leaves its active polarity, so the input is no longer active and the fault cause of the groups that name it is gone. -/
  | tripInputInactive (t : Fin 8)
  /-- CAN_RECEIVE_ERROR (R663): An error or protocol exception is detected in a frame being received, REC changes and the controller may change its error state. -/
  | canReceiveError (n : Fin 4) (lec : Nat) (heavy : Bool)
  /-- HOST_FRAME_DISCARDED (R675): A host port receives a frame that R675, R676 or R680 discards, and counts it. -/
  | hostFrameDiscarded (n : Fin 2)
  /-- MODULE_PRESENCE_CHANGE (R677): HPn_MODABS or HPn_LOS changes, which updates ABSENT or LOS and drives HPn_TXDIS by module presence. -/
  | modulePresenceChange (n : Fin 2) (absent : Bool) (los : Bool)
  /-- COMPANION_RESET_RELEASE (R60): 2 ms after the companion rails are in tolerance and the 20 MHz clock is accepted, the companion die releases its reset and drives MAIN_PWR_EN high. -/
  | companionResetRelease
  /-- POWER_GOOD_TIMEOUT (R62): MAIN_PGOOD is not high 50 ms after MAIN_PWR_EN rose, so MAIN_PWR_EN is driven low and the power-good timeout cause is set. -/
  | powerGoodTimeout
  /-- MAIN_PWR_EN_RETRY (R68): After 100 ms with MAIN_PWR_EN low, the companion die drives it high again, unless the third consecutive attempt has failed. -/
  | mainPwrEnRetry
  /-- MAIN_PGOOD_RISE (R63): MAIN_PGOOD goes high and the 1 ms interval before the main die reset release starts. -/
  | mainPgoodRise
  /-- MAIN_RESET_RELEASE (R63): 1 ms after MAIN_PGOOD rose, the companion die releases the main die reset. -/
  | mainResetRelease
  /-- PLL_LOCK (R79): The PLLs lock after the die reset release, and both time-base clocks start from 0 s. -/
  | pllLock
  /-- SRAM_CLEAR_DONE (R72): Main die SRAM clearing ends and the management processor leaves reset. -/
  | sramClearDone
  /-- RESET_OUT_RELEASE (R75): RESET_OUT_L is released 1 ms after the main die leaves reset. -/
  | resetOutRelease
  /-- COMPANION_RAIL_FAIL (R66): A companion rail leaves tolerance, so every SO pair goes off, MAIN_PWR_EN goes low and a device reset starts. -/
  | companionRailFail
  /-- SYS_RESET (R67): SYS_RESET_L is low for 20 consecutive samples and starts a device reset. -/
  | sysReset
  /-- COMPANION_CLOCK_FAULT (R80): The companion clock monitor faults on the 20 MHz clock and starts a device reset. -/
  | companionClockFault
  /-- CM2_SHORT_DELAY (R625): 5 µs after a CM2 fault, PWMn_L of groups with SAFE_SHORT set goes high, timed by the RC oscillator. -/
  | cm2ShortDelay
  /-- WATCHDOG_EXPIRY (R729): The management watchdog expires and starts a main reset with cause WDOG. -/
  | watchdogExpiry
  /-- WAKE (R86): WAKE_L is low for 200 samples in MAIN_OFF, and power-up repeats from R60. -/
  | wake
  /-- MRAM_SUPPLY_LOW (R56): VDD_MRAM falls below 1.71 V and no new MRAM write starts. -/
  | mramSupplyLow
  /-- BOOT_ROM_VERIFY (R749): The boot ROM selects and verifies a slot by the first applicable rule, then boots it or holds. -/
  | bootRomVerify
  /-- AUTO_START (R800): After a verified boot, the firmware starts the time base, HP0, HP1 and the enabled CAN endpoints in turn. -/
  | autoStart
  /-- COMPUTE_WAKE_DONE (R83): Powering up and clearing the compute domain ends, and the mode leaves WAKING. -/
  | computeWakeDone
  /-- BOARD_CYCLE_START (R383): A cycle of the board reference ring starts in ring time; per-cycle loop-engine, trace, PWM and CAN actions are taken. -/
  | boardCycleStart
  /-- DISCIPLINE_HOLDOVER_TIMEOUT (R823): No accepted sample for 2.5 s or 3 s, so the discipline enters HOLDOVER. -/
  | disciplineHoldoverTimeout
  /-- ANNOUNCE_TIMEOUT (R686): The announce receipt timeout of IEEE 1588-2019 expires and the discipline enters HOLDOVER. -/
  | announceTimeout
  /-- TIME_PAIR_LATCH (R284): At every whole millisecond of ring time the pair of Regulator time and ring time is latched. -/
  | timePairLatch
  /-- HELD_ITEM_ENTRY (R320): A held hardware-source item enters its flow once the flow has room. -/
  | heldItemEntry
  /-- PLANNING_BOUNDARY (R423): At every Nth board cycle a planning boundary posts the front-stage item and the mailbox commands take effect. -/
  | planningBoundary
  /-- INTERPOLATOR_SEGMENTS_WRITTEN (R459): The interpolator writes the segments for the next planning cycle. -/
  | interpolatorSegmentsWritten
  /-- WINDOW_ACCEPTANCE_CLOSE (R484): Acceptance for map window m closes at (m + 1.25) ms and the map update starts. -/
  | windowAcceptanceClose
  /-- MAP_UPDATE_END (R486): The window update ends, brick summaries are written and the item on flow 116 is posted. -/
  | mapUpdateEnd
  /-- SEPARATION_COMPLETE (R491): The separation engine completes the arm results of a window. -/
  | separationComplete
  /-- SEPARATION_LATE (R494): Results are not complete at (m + 2) ms; the previous results stand with LATE set and EV322 is raised. -/
  | separationLate
  /-- VOXEL_BUILDER_RUN (R496): After START the voxel builder passes to RUNNING at the next whole millisecond of ring time. -/
  | voxelBuilderRun
  /-- SAFETY_CYCLE_BOUNDARY (R33): A safety cycle boundary freezes input states and host requests for evaluation of the cycle that ends. -/
  | safetyCycleBoundary
  /-- TELEGRAM_COLLECTION_CLOSE (R512): 100 µs after the boundary, collection of the cycle's telegrams closes and evaluation proceeds. -/
  | telegramCollectionClose
  /-- CHANNEL_A_DECISION (R514): Channel A completes its decision of a safety cycle and sends output frames. -/
  | channelADecision
  /-- CHANNEL_B_DECISION (R514): Channel B completes its decision of a safety cycle and switches SOn_B. -/
  | channelBDecision
  /-- XA_EDGE_TIMEOUT (R504): XA shows no edge for 25 µs; SOn_A outputs go off and channel B raises 0x0105. -/
  | xaEdgeTimeout
  /-- XB_EDGE_TIMEOUT (R505): XB shows no edge for 25 µs; channel A switches SOn_A off and raises 0x0105. -/
  | xbEdgeTimeout
  /-- OUTPUT_FRAME_TIMEOUT (R506): No valid output frame from channel A for 2 safety cycles, so SOn_A goes off. -/
  | outputFrameTimeout
  /-- DEGRADED_TIMER_EXPIRY (R536): The degraded timer expires and every arm not in STO receives an SS1 demand. -/
  | degradedTimerExpiry
  /-- BRAKE_TEST_PHASE_END (R530): A brake test phase (200 ms, 500 ms, 500 ms) ends and the test moves on or judges the joint. -/
  | brakeTestPhaseEnd
  /-- BRAKE_AGE_STORE (R532): Every 60 s the test ages are stored in MRAM. -/
  | brakeAgeStore
  /-- LEDGER_RECORD_WRITE (R741): A queued Ledger record is written to MRAM. -/
  | ledgerRecordWrite
  /-- SIGNATURE_COMPLETE (R761): The attestation signature completes and the statement becomes readable. -/
  | signatureComplete
  /-- LIFE_CYCLE_TRANSITION (R770): After its response has left, the transition wipes, installs the key, writes the state and starts a main reset. -/
  | lifeCycleTransition
  /-- CLAIM_DELAY_EXPIRY (R777): ACTV_I has been low for the claim delay and the unit raises ACTV_O. -/
  | claimDelayExpiry
  /-- ACTING_BEGIN (R778): After 1 µs with ACTV_O high and ACTV_I low the unit acts and takes over the rings. -/
  | actingBegin
  /-- ACTING_RELEASE (R782): An acting unit stops mastering, switches SO outputs off and lowers ACTV_O. -/
  | actingRelease
  /-- ARMED_TIMEOUT (R789): ACTV_I has been low for 10 ms without the unit acting and ARMED clears. -/
  | armedTimeout
  /-- TEST_WINDOW_END (R796): The other unit has acted continuously for 1 s after a test release, so the test passes. -/
  | testWindowEnd
  /-- RETURN_HOLD_EXPIRY (R792): A principal ARMED for the hold time with RETURN set raises ACTV_O to take back control. -/
  | returnHoldExpiry
  /-- INTERLOCK_FAULT (R798): ACTV_O and ACTV_I are both high for 2 ms, so pairing enters FAULT 0x0102. -/
  | interlockFault
  /-- TAP_RESET (R807): JTAG_TRST_L resets the test access port only. -/
  | tapReset
  /-- IDCODE (R807): Selects the 32-bit identification register. -/
  | idcode
  /-- CLAMP (R808): Holds the boundary values at the balls and selects bypass, when granted. -/
  | clamp
  /-- HIGHZ (R808): Places the outputs in high impedance and selects bypass, when granted. -/
  | highz
  /-- BYPASS (R807): Selects the 1-bit bypass register. -/
  | bypass
  /-- FLASH_PROG (R804): Selects the flash programming register while the boot ROM holds. -/
  | flashProg
  /-- FLASH_READ_WORD (R805): FLASH_PROG operation 0x03 reads a word and advances the offset. -/
  | flashReadWord
  /-- FLASH_NO_OPERATION (R805): FLASH_PROG operation 0x05 does nothing and captures the status. -/
  | flashNoOperation
  /-- SECONDS_CARRY (R271): The Regulator nanoseconds reach 1 000 000 000 and carry into seconds, and TB_PPS_OUT rises. -/
  | secondsCarry
  /-- PPS_OUT_PULSE_END (R287): TB_PPS_OUT falls 100 ms after it rose at the seconds carry. -/
  | ppsOutPulseEnd
  /-- FLASH_OPERATION_COMPLETE (R806): A FLASH_PROG erase or word write finishes in the flash, and the status captured next changes from busy to done. -/
  | flashOperationComplete
deriving DecidableEq, Repr

end Sys2Proof
end

