-- ==== Sys2Proof/Decode.lean ====
section
/-! DEFINITION. Words of the table of operations and events. No row of the table gives a command bits. -/

namespace Sys2Proof

/-- The command that a word spells by the table's bits: none, since no row of spec/opcode_table.json gives bits. -/
def decodeTableWord (_nbits _w : Nat) : Option Instr := none

end Sys2Proof
end

