-- ==== Sys2Proof/Machine/Keccak.lean ====
section
/-! DEFINITION. SHAKE256, cSHAKE256 and KMAC256, the functions the spec names by NIST FIPS 202 and NIST SP 800-185
(spec/03_object_dictionary.md R119, R120; spec/18_management_security.md). The permutation is PRESUMED from those standards
(assumption log 2). -/

namespace Sys2Proof.Machine.Keccak

/-- One lane of the Keccak state. -/
abbrev Lane := BitVec 64

/-- The round constants of Keccak-f[1600]. -/
def roundConstants : List Lane :=
  [0x0000000000000001#64, 0x0000000000008082#64, 0x800000000000808A#64, 0x8000000080008000#64,
   0x000000000000808B#64, 0x0000000080000001#64, 0x8000000080008081#64, 0x8000000000008009#64,
   0x000000000000008A#64, 0x0000000000000088#64, 0x0000000080008009#64, 0x000000008000000A#64,
   0x000000008000808B#64, 0x800000000000008B#64, 0x8000000000008089#64, 0x8000000000008003#64,
   0x8000000000008002#64, 0x8000000000000080#64, 0x000000000000800A#64, 0x800000008000000A#64,
   0x8000000080008081#64, 0x8000000000008080#64, 0x0000000080000001#64, 0x8000000080008008#64]

/-- The rotation offsets, lane x + 5y at position x + 5y. -/
def rotations : List Nat :=
  [0, 1, 62, 28, 27, 36, 44, 6, 55, 20, 3, 10, 43, 25, 39, 41, 45, 15, 21, 8, 18, 2, 61, 56, 14]

/-- Lane x + 5y of a state. -/
def lane (a : List Lane) (x y : Nat) : Lane := a.getD (x % 5 + 5 * (y % 5)) 0#64

/-- The five column parities. -/
def parity (a : List Lane) : List Lane :=
  (List.range 5).map fun x => lane a x 0 ^^^ lane a x 1 ^^^ lane a x 2 ^^^ lane a x 3 ^^^ lane a x 4

/-- One round with its constant. -/
def round (a : List Lane) (rc : Lane) : List Lane :=
  let c := parity a
  let a1 := (List.range 25).map fun i =>
    a.getD i 0#64 ^^^ c.getD ((i % 5 + 4) % 5) 0#64 ^^^ (c.getD ((i % 5 + 1) % 5) 0#64).rotateLeft 1
  let a2 := (List.range 25).map fun i =>
    -- position (X, Y) takes lane (x, y) with X = y and Y = 2x + 3y
    let x := (i % 5 + 3 * (i / 5)) % 5
    let y := i % 5
    (lane a1 x y).rotateLeft (rotations.getD (x + 5 * y) 0)
  let a3 := (List.range 25).map fun i =>
    let x := i % 5
    let y := i / 5
    lane a2 x y ^^^ (~~~ lane a2 (x + 1) y &&& lane a2 (x + 2) y)
  match a3 with
  | [] => []
  | l :: r => (l ^^^ rc) :: r

/-- The permutation Keccak-f[1600]. -/
def permute (a : List Lane) : List Lane := roundConstants.foldl round a

/-- The rate of SHAKE256 in octets. -/
def rate : Nat := 136

/-- One rate-sized block taken into the state. -/
def absorbBlock (a : List Lane) (block : Octets) : List Lane :=
  permute ((List.range 25).map fun i =>
    a.getD i 0#64 ^^^ (if i < 17 then BitVec.ofNat 64 (leNat (slice block (8 * i) 8)) else 0#64))

/-- A message with its domain octet and the final bit of the padding. -/
def padded (dom : Byte) (m : Octets) : Octets :=
  let q := rate - m.length % rate
  if q = 1 then m ++ [dom ||| 0x80#8] else m ++ [dom] ++ zeros (q - 2) ++ [0x80#8]

/-- The octets of the rate part of a state. -/
def rateOctets (a : List Lane) : Octets := (a.take 17).flatMap fun l => toLE 8 l.toNat

/-- Output blocks, one permutation between two of them. -/
def squeeze : Nat → List Lane → Octets
  | 0, _ => []
  | n + 1, a => rateOctets a ++ squeeze n (permute a)

/-- The sponge: `n` octets of output for a message under a domain octet. -/
def sponge (dom : Byte) (m : Octets) (n : Nat) : Octets :=
  let p := padded dom m
  let a := (chunks rate (p.length / rate) p).foldl absorbBlock (List.replicate 25 0#64)
  (squeeze ((n + rate - 1) / rate) a).take n

/-- SHAKE256 (FIPS 202): `n` octets of output. -/
def shake256 (m : Octets) (n : Nat) : Octets := sponge 0x1F#8 m n

/-- The big-endian octets of a number, without leading zeros, at least one. -/
def minimalBE (v : Nat) : Octets :=
  let k := if v < 256 then 1 else if v < 65536 then 2 else if v < 16777216 then 3 else if v < 4294967296 then 4 else 8
  toBE k v

/-- left_encode of SP 800-185. -/
def leftEncode (v : Nat) : Octets := BitVec.ofNat 8 (minimalBE v).length :: minimalBE v

/-- right_encode of SP 800-185. -/
def rightEncode (v : Nat) : Octets := minimalBE v ++ [BitVec.ofNat 8 (minimalBE v).length]

/-- encode_string of SP 800-185. -/
def encodeString (s : Octets) : Octets := leftEncode (8 * s.length) ++ s

/-- bytepad of SP 800-185 at the rate of SHAKE256. -/
def bytepad (x : Octets) : Octets :=
  let z := leftEncode rate ++ x
  z ++ zeros ((rate - z.length % rate) % rate)

/-- "KMAC" as octets. -/
def kmacName : Octets := [0x4B#8, 0x4D#8, 0x41#8, 0x43#8]

/-- KMAC256(K, X, 8 n, S) (SP 800-185): `n` octets. -/
def kmac256 (key x : Octets) (n : Nat) (s : Octets) : Octets :=
  sponge 0x04#8
    (bytepad (encodeString kmacName ++ encodeString s) ++ bytepad (encodeString key) ++ x ++ rightEncode (8 * n)) n

end Sys2Proof.Machine.Keccak
end

