-- ==== Sys2Proof/Machine/StateAux.lean ====
section
/-! DEFINITION. State of the auxiliary motion unit (spec/14_auxiliary_axes_pwm.md). -/

namespace Sys2Proof.Machine

/-- A ramp set after the conversion of R594, in 2⁻⁴⁸ step per tick and per tick². -/
structure Ramp where
  vStart : Nat
  vStop : Nat
  vBreak : Nat
  vMax : Nat
  a1 : Nat
  a2 : Nat
  d1 : Nat
  d2 : Nat
deriving DecidableEq, Repr

/-- A homing in progress: method, phase (1–4, 15 for 1R), edge position E once known, fast and slow speed, and whether it
has failed and comes to rest (R606 to R608). -/
structure Homing where
  method : Nat
  phase : Nat
  edge : Option Nat
  failed : Bool
deriving DecidableEq, Repr

/-- A move, jog or homing phase in progress (R597). -/
structure AxisMove where
  ramp : Ramp
  /-- Direction is positive. -/
  pos : Bool
  top : Nat
  /-- Steps still to emit; none for a jog or homing phase. -/
  rem : Option Nat
  v : Nat
  phase : Nat
  decel : Bool
  stopping : Bool
  /-- Status in which the move ends once stopping brings it to rest. -/
  stopStatus : Nat
  /-- The first tick has come. -/
  begun : Bool
  /-- Ring time at which DIR_SETUP is over (R599). -/
  readyAt : Nat
  homing : Option Homing
deriving DecidableEq, Repr

/-- One auxiliary axis. -/
structure Axis where
  /-- Position, 32 bits, wrapping. -/
  position : Nat
  move : Option AxisMove
  /-- MOVE of Table 14-10. -/
  status : Nat
  homed : Bool
  /-- Level of AXk_DIR. -/
  dir : Bool
  /-- Filtered switches active. -/
  limp : Bool
  limn : Bool
  home : Bool
  /-- Last edge position (R605). -/
  edge : Nat
  /-- Position latched at the last index edge (R634). -/
  indexPos : Nat
  /-- Control cycles at which STEP rose, as far as its pulses can last into the last tick (R598). -/
  steps : List Nat
  /-- Steps since the last count of the feedback input that the axis names (R633). -/
  unseen : Nat
  /-- The standstill action is applied. -/
  standstill : Bool
  /-- A move command has been accepted since, and the action waits for the next reload of the group to end (R609). -/
  waking : Bool
deriving DecidableEq, Repr

/-- What the outputs of a group do: low; normal outputs; every H low and every L high; the same with L still low. -/
inductive PwmDrive where
  | low | normal | short | shortRising
deriving DecidableEq, Repr

/-- One PWM group. -/
structure PwmGroup where
  /-- The board cycle that follows START has started; the first period may begin (R613). -/
  armed : Bool
  /-- Number of the current period. -/
  period : Option Nat
  /-- Control cycle at which the next period starts (R612, R613). -/
  next : Nat
  /-- Compare values: shadow and active. -/
  shadow : List Nat
  active : List Nat
  /-- Dead time in force in fine ticks (R622). -/
  dead : Nat
  /-- A period item has been posted and has not completed (R620). -/
  itemOpen : Bool
  late : Bool
  coarse : Bool
  /-- Standstill action in force: 1 coil off, 2 shorted (R609). -/
  standstill : Nat
deriving DecidableEq, Repr

/-- One feedback input. -/
structure Feedback where
  /-- Position, 32 bits, wrapping. -/
  position : Nat
  /-- Filtered levels. -/
  a : Bool
  b : Bool
  speed : Int
  indexLatch : Nat
  latched : Bool
  /-- The counting method is in force (R635). -/
  counting : Bool
  /-- Direction of the last count. -/
  up : Bool
  /-- Signed count of the window in progress. -/
  window : Int
  /-- Control cycles of the last two counts since START. -/
  last : Option Nat
  interval : Option Nat
  /-- Tick and counts within it (R632). -/
  tick : Nat
  tickCounts : Nat
deriving DecidableEq, Repr

/-- The auxiliary motion unit. -/
structure AuxUnit where
  axes : List Axis
  groups : List PwmGroup
  feedbacks : List Feedback
  /-- Active trip inputs TRIP0–TRIP7 (R627). -/
  trips : Nat
  /-- Polarities of TRIP0–TRIP7 in force: bit t set for active high (Table 14-17). -/
  tripPol : Nat
  /-- The delay-line calibration is valid (R621, R622). -/
  calibrated : Bool
deriving DecidableEq, Repr

/-- An axis after a main reset. -/
def Axis.initial : Axis :=
  { position := 0, move := none, status := 0, homed := false, dir := false, limp := false, limn := false, home := false,
    edge := 0, indexPos := 0, steps := [], unseen := 0, standstill := false, waking := false }

/-- A PWM group after a main reset: every output low (R73). -/
def PwmGroup.initial : PwmGroup :=
  { armed := false, period := none, next := 0, shadow := [0, 0, 0], active := [0, 0, 0], dead := 25600, itemOpen := false,
    late := false, coarse := false, standstill := 0 }

/-- A feedback input after a main reset. -/
def Feedback.initial : Feedback :=
  { position := 0, a := false, b := false, speed := 0, indexLatch := 0, latched := false, counting := false, up := false,
    window := 0, last := none, interval := none, tick := 0, tickCounts := 0 }

/-- The unit after a main reset. -/
def AuxUnit.initial : AuxUnit :=
  { axes := List.replicate 16 Axis.initial, groups := List.replicate 8 PwmGroup.initial,
    feedbacks := List.replicate 16 Feedback.initial, trips := 0, tripPol := 0, calibrated := false }

end Sys2Proof.Machine
end

