-- ==== Sys2Proof/Machine/StateCan.lean ====
section
/-! DEFINITION. State of the CAN FD controllers (spec/15_can_fd.md). -/

namespace Sys2Proof.Machine

/-- One CAN FD controller. Masks have bit b for mailbox or buffer b. -/
structure Can where
  tec : Nat
  rec_ : Nat
  /-- 0 error active, 1 error passive, 2 bus-off. -/
  conf : Nat
  /-- 0 START-UP, 1 NORMAL, 2 RECOVERY, 3 TEST (Table 15-20). -/
  service : Nat
  awaitSw : Bool
  pex : Bool
  tdcSat : Bool
  /-- Last error (Table 15-23). -/
  lec : Nat
  /-- It waits for bus integration. -/
  integrating : Bool
  /-- Receive records of mailboxes that hold one (R652). -/
  boxes : List (Nat × Octets)
  locked : Nat
  lost : Nat
  /-- Last frame lost to a lock: CAN clock cycle, mailbox, receive record, whether its event was not pending before (R655). -/
  missed : Option (Nat × Nat × Octets × Bool)
  pending : Nat
  failed : Nat
  skipped : Nat
  /-- Data that cyclic buffers took at their trigger (R659). -/
  cyclic : List (Nat × Octets)
  /-- Dictionary responses that wait (R135). -/
  responses : List CanFrame
  /-- Frame in transmission: transmit buffer, or 16 for a dictionary response. -/
  sending : Option (Nat × CanFrame)
  /-- Timestamp of its start of frame (R287). -/
  sof : Octets
deriving DecidableEq, Repr

/-- A controller after a main reset. -/
def Can.initial : Can :=
  { tec := 0, rec_ := 0, conf := 0, service := 0, awaitSw := false, pex := false, tdcSat := false, lec := 0,
    integrating := false, boxes := [], locked := 0, lost := 0, missed := none, pending := 0, failed := 0, skipped := 0, cyclic := [],
    responses := [], sending := none, sof := zeros 12 }

end Sys2Proof.Machine
end

