-- ==== Sys2Proof/Machine/Cards.lean ====
section
/-! DEFINITION. The cards of the object dictionary: type, access, default, range and owner of every object
(spec/00_scope.md R8, R13, R14; spec/03_object_dictionary.md R93 to R96; the cards of every chapter). -/

namespace Sys2Proof.Machine

/-- Access codes (Table 03-2). -/
inductive Access where
  | ro | rw | wo | rws | const | safe
deriving DecidableEq, Repr

/-- Types of objects (Table 00-2); `num n` is any unsigned or signed integer, Q or F type of n octets, whose value is
held as its unsigned image; a DOMAIN has its card's size and whether a shorter total length is a matter of the content. -/
inductive ObjType where
  | num (octets : Nat)
  | bool
  | time96
  | str (octets : Nat)
  | domain (size : Nat) (derived : Bool)
deriving DecidableEq, Repr

/-- A card (Table 00-4). `dfltLen` and `dfltOctet` give the default value's octets; `ok` is the Range row and the reserved
bits of the field map, on the value's unsigned image (R7, R14, R15). -/
structure Card where
  acc : Access
  ty : ObjType
  owner : Option Fn
  dfltLen : Nat
  dfltOctet : Nat → Byte
  ok : Nat → Bool

/-- What the dictionary holds at an index and subindex (R94). -/
inductive Lookup where
  | noIndex
  | noSub
  | found (c : Card)

/-- Size in octets of a value that is no DOMAIN (Table 00-2). -/
def ObjType.size : ObjType → Nat
  | .num n => n
  | .bool => 1
  | .time96 => 12
  | .str n => n
  | .domain n _ => n

/-- The object is of type DOMAIN. -/
def ObjType.isDomain : ObjType → Bool
  | .domain _ _ => true
  | _ => false

/-- Octet `i` of a number. -/
def numOctet (v i : Nat) : Byte := BitVec.ofNat 8 (v / 256 ^ i)

/-- A card of an integer object of `n` octets. -/
def numCard (acc : Access) (n : Nat) (owner : Option Fn) (dflt : Nat) (ok : Nat → Bool := fun _ => true) : Card :=
  { acc := acc, ty := .num n, owner := owner, dfltLen := n, dfltOctet := numOctet dflt, ok := ok }

/-- A card of a BOOL object: any octet but 0x00 and 0x01 is refused (Table 00-2). -/
def boolCard (acc : Access) (owner : Option Fn) : Card :=
  { acc := acc, ty := .bool, owner := owner, dfltLen := 1, dfltOctet := fun _ => 0#8, ok := fun v => v ≤ 1 }

/-- A card of a TIME96 object, nanoseconds below 1 000 000 000 (R10). -/
def timeCard (acc : Access) (owner : Option Fn) : Card :=
  { acc := acc, ty := .time96, owner := owner, dfltLen := 12, dfltOctet := fun _ => 0#8,
    ok := fun v => v / 2 ^ 64 < 1000000000 }

/-- A card of a STRING object. -/
def strCard (o : Octets) : Card :=
  { acc := .const, ty := .str o.length, owner := none, dfltLen := o.length, dfltOctet := fun i => o.getD i 0#8,
    ok := fun _ => true }

/-- A card of a DOMAIN object of exactly its size, zero by default. -/
def domCard (acc : Access) (n : Nat) (owner : Option Fn) : Card :=
  { acc := acc, ty := .domain n false, owner := owner, dfltLen := n, dfltOctet := fun _ => 0#8, ok := fun _ => true }

/-- A card of a DOMAIN object with a length that the content or "at most" leaves free (R816), empty by default. -/
def domUpTo (acc : Access) (n : Nat) (owner : Option Fn) : Card :=
  { domCard acc n owner with ty := .domain n true, dfltLen := 0 }

/-- Signed range of an image of `w` bits. -/
def inSigned (w : Nat) (lo hi : Int) (v : Nat) : Bool := decide (lo ≤ toSigned w v) && decide (toSigned w v ≤ hi)

/-- Unsigned range. -/
def inRange (lo hi v : Nat) : Bool := decide (lo ≤ v) && decide (v ≤ hi)

/-- The octets of a default (Default row). -/
def Card.dflt (c : Card) : Octets := (List.range c.dfltLen).map c.dfltOctet

/-- The object of subindex 0x00 only. -/
def only (sub : Nat) (c : Card) : Lookup := if sub = 0 then .found c else .noSub

/-- Objects at subindices `lo` to `hi`. -/
def subsOf (sub lo hi : Nat) (c : Nat → Card) : Lookup :=
  if lo ≤ sub ∧ sub ≤ hi then .found (c sub) else .noSub

/-- The control record of a function (Tables 03-5 to 03-7). -/
def controlCard (f : Fn) (sub : Nat) : Lookup :=
  subsOf sub 1 3 fun s =>
    if s = 1 then numCard .ro 1 (some f) 0
    else if s = 2 then numCard .wo 1 (some f) 0 (inRange 1 3)
    else numCard .ro 2 (some f) 0

/-- A law entry (Table 09-9): LAW 0x00, 0x01–0x04 or 0xFF, reserved bits zero. -/
def lawEntryOk (zeroOk : Bool) (v : Nat) : Bool :=
  let law := field v 15 8
  field v 7 1 == 0 && ((law == 0 && zeroOk) || inRange 1 4 law || law == 0xFF)

/-- Octet of the default Waystation table (Table 07-9, Table 07-10). -/
def wayDfltOctet (i : Nat) : Byte :=
  if i < 8 then 0#8
  else if i < 16 then
    numOctet ([1, 10, 100, 1000].getD ((i - 8) / 2) 0) ((i - 8) % 2)
  else numOctet 0xA077 (i % 2)

/-- Device, security, Ledger and pairing objects (0x1000–0x1CFF). The serial number and the part's keys stand in State. -/
def cardDevice (idx sub : Nat) : Lookup :=
  if idx = 0x1008 then only sub (strCard [0x43#8, 0x58#8, 0x39#8, 0x36#8, 0x31#8, 0x32#8])
  else if idx = 0x1009 then only sub (strCard [0x42#8, 0x30#8])
  else if idx = 0x100A then only sub (numCard .ro 4 none 0)
  else if idx = 0x1010 then subsOf sub 1 1 fun _ => numCard .wo 4 none 0 (fun v => v == 0x524F5453)
  else if idx = 0x1011 then subsOf sub 1 1 fun _ => numCard .wo 4 none 0 (fun v => v == 0x53464544)
  else if idx = 0x1012 then only sub (numCard .ro 1 none 0)
  else if idx = 0x1018 then subsOf sub 3 3 fun _ => numCard .const 8 none 0
  else if idx = 0x1020 then only sub (numCard .ro 4 none 1)
  else if idx = 0x1021 then only sub (numCard .wo 1 none 0 (inRange 1 2))
  else if idx = 0x1022 then only sub (numCard .rw 1 none 0 (inRange 0 3))
  else if idx = 0x1030 then subsOf sub 1 0x18 fun _ => numCard .ro 2 none 0
  else if idx = 0x1031 then subsOf sub 1 0x10 fun _ => numCard .ro 2 none 0
  else if idx = 0x1032 then only sub (numCard .rw 2 none 950 (inSigned 16 0 1100))
  else if idx = 0x1033 then only sub (numCard .ro 4 none 0)
  else if idx = 0x1040 then only sub (domUpTo .wo 786432 none)
  else if idx = 0x1041 then subsOf sub 1 2 fun _ => numCard .ro 8 none 0
  else if idx = 0x1042 then only sub (numCard .ro 1 none 0)
  else if idx = 0x1043 then only sub (numCard .wo 1 none 0 (inRange 1 3))
  else if idx = 0x1044 then only sub (numCard .ro 4 none 0)
  else if idx = 0x1800 then only sub (numCard .ro 1 none 0)
  else if idx = 0x1801 then only sub (domCard .wo 44 none)
  else if idx = 0x1802 then only sub (domCard .ro 32 none)
  else if idx = 0x1803 then only sub (domCard .wo 2824 none)
  else if idx = 0x1810 then subsOf sub 1 8 fun _ => domCard .wo 36 none
  else if idx = 0x1811 then subsOf sub 1 8 fun _ => numCard .ro 4 none 0xFF
  else if idx = 0x1820 then only sub (domCard .wo 32 none)
  else if idx = 0x1821 then only sub (numCard .ro 1 none 0)
  else if idx = 0x1822 then only sub (domCard .ro 9981 none)
  else if idx = 0x1823 then only sub (domCard .const 68 none)
  else if idx = 0x1824 then only sub (domCard .const 2824 none)
  else if idx = 0x1825 then only sub (numCard .ro 8 none 0)
  else if idx = 0x1830 then only sub (numCard .ro 4 none 0)
  else if idx = 0x1A01 then subsOf sub 1 2 fun _ => numCard .ro 8 none 0
  else if idx = 0x1A02 then only sub (numCard .rw 8 none 0)
  else if idx = 0x1A03 then only sub (domCard .ro 1024 none)
  else if idx = 0x1C01 then only sub (numCard .rws 4 (some .pairing) 0x00640011
      (fun v => inRange 10 6000 (field v 31 16) && field v 15 5 == 0 && field v 3 0 != 0))
  else if idx = 0x1C02 then only sub (numCard .ro 4 (some .pairing) 0)
  else if idx = 0x1C03 then only sub (numCard .wo 1 (some .pairing) 0 (inRange 1 1))
  else if idx = 0x1C04 then only sub (numCard .wo 1 (some .pairing) 0 (inRange 1 1))
  else if idx = 0x1C05 then only sub (numCard .ro 1 (some .pairing) 0)
  else if idx = 0x1C06 then only sub (numCard .ro 8 (some .pairing) 0)
  else .noIndex

/-- Waystation and loop-engine objects (0x2000–0x27FF). -/
def cardWaystation (idx sub : Nat) : Lookup :=
  if idx = 0x2010 then only sub
      { acc := .rws, ty := .domain 32784 true, owner := some .waystation, dfltLen := 1040, dfltOctet := wayDfltOctet,
        ok := fun _ => true }
  else if idx = 0x2020 then subsOf sub 1 0x10 fun _ => numCard .ro 4 (some .waystation) 0
  else if idx = 0x2021 then only sub (numCard .wo 2 (some .waystation) 0 (inRange 0 511))
  else if idx = 0x2022 then only sub (numCard .wo 2 (some .waystation) 0 (inRange 480 511))
  else if idx = 0x2030 then only sub (numCard .ro 4 (some .waystation) 0x80000000)
  else if idx = 0x2031 then only sub (numCard .wo 1 (some .waystation) 0 (inRange 0 0x3F))
  else if idx = 0x2032 then only sub (numCard .rw 2 (some .waystation) 0 (inRange 0 1023))
  else if idx = 0x2033 then only sub (numCard .ro 4 (some .waystation) 0)
  else if idx = 0x2401 then only sub (domCard .rws 32768 (some .loopEngines))
  else if idx = 0x2402 then only sub (domCard .rws 36864 (some .loopEngines))
  else if idx = 0x2403 then only sub (domCard .rws 46080 (some .loopEngines))
  else if idx = 0x2404 then only sub (domCard .rws 1024 (some .loopEngines))
  else if idx = 0x2405 then only sub (numCard .rws 2 (some .loopEngines) 4000 (inRange 16 65535))
  else if idx = 0x2406 then only sub (numCard .rws 1 (some .loopEngines) 0 (inRange 0 3))
  else if idx = 0x2407 then only sub (boolCard .rw (some .loopEngines))
  else if idx = 0x2408 then subsOf sub 1 0x10 fun _ => numCard .ro 4 (some .loopEngines) 0
  else .noIndex

/-- Solver, interpolator, planner and mailbox objects (0x2800–0x2BFF). -/
def cardPlanner (idx sub : Nat) : Lookup :=
  if idx = 0x2801 then subsOf sub 1 2 fun s =>
      if s = 1 then numCard .rws 2 (some .front) 64 (inRange 16 1024)
      else numCard .rws 1 (some .front) 16 (inRange 4 32)
  else if idx = 0x2803 then only sub (numCard .ro 8 (some .front) 0)
  else if idx = 0x2811 then subsOf sub 1 3 fun s =>
      if s = 1 then numCard .rws 4 (some .solver) 900000 (inRange 50000 10000000)
      else if s = 2 then numCard .rws 2 (some .solver) 24 (inRange 1 255)
      else numCard .rws 1 (some .solver) 4 (inRange 1 32)
  else if idx = 0x2812 then only sub (domCard .rws 1152 (some .solver))
  else if idx = 0x2813 then subsOf sub 1 0x0C fun _ => numCard .ro 4 (some .solver) 0
  else if idx = 0x2814 then only sub (numCard .ro 4 (some .solver) 0)
  else if idx = 0x2831 then subsOf sub 1 8 fun s =>
      let d := [200, 1500, 1024, 16384, 1000, 5000, 1500, 10000].getD (s - 1) 0
      if s ≤ 2 then numCard .rws 2 (some .planner) d (inRange 0 60000)
      else if s = 3 then numCard .rws 2 (some .planner) d (inRange 1 65535)
      else if s = 4 then numCard .rws 2 (some .planner) d (inRange 0 65535)
      else numCard .rws 4 (some .planner) d (inRange 1 4294967295)
  else if idx = 0x2840 then only sub (domCard .rws 768 (some .planner))
  else if idx = 0x2841 then subsOf sub 1 6 fun _ => boolCard .rw (some .planner)
  else if 0x2850 ≤ idx ∧ idx ≤ 0x2855 then only sub (domUpTo .rws 8192 (some .planner))
  else if idx = 0x2881 then subsOf sub 1 0x40 fun _ => numCard .ro 8 (some .planner) 0
  else .noIndex

/-- Octet of the default capsule table: Arm 0xFF in every entry (Table 11-6). -/
def capsuleDfltOctet (i : Nat) : Byte := if i % 32 = 0 then 0xFF#8 else 0#8

/-- Perception, fabric and trace objects (0x2C00–0x2FFF). -/
def cardPerception (idx sub : Nat) : Lookup :=
  if idx = 0x2C01 then subsOf sub 1 4 fun s =>
      if s = 4 then numCard .rws 1 (some .voxel) 2 (inRange 0 2) else numCard .rws 4 (some .voxel) 0
  else if idx = 0x2C02 then subsOf sub 1 3 fun s =>
      if s = 1 then numCard .rws 1 (some .voxel) 2 (inRange 1 16)
      else if s = 2 then numCard .rws 4 (some .voxel) 320 (inRange 0 100000)
      else numCard .rws 4 (some .voxel) 5000 (inRange 0 50000)
  else if idx = 0x2C03 then only sub (domCard .rws 2048 (some .voxel))
  else if idx = 0x2C04 then only sub (domCard .rws 10240 (some .voxel))
  else if idx = 0x2C05 then only sub { domCard .rws 6144 (some .voxel) with dfltOctet := capsuleDfltOctet }
  else if idx = 0x2C06 then subsOf sub 1 8 fun _ => numCard .ro 4 (some .voxel) 0
  else if idx = 0x2C07 then only sub (numCard .ro 8 (some .voxel) 0)
  else if idx = 0x2C08 then only sub (domCard .ro 163840 (some .voxel))
  else if idx = 0x2C09 then subsOf sub 1 0x20 fun _ => numCard .ro 4 (some .voxel) 0
  else if idx = 0x2C11 then only sub (numCard .rws 4 (some .separation) 32000000 (inRange 1000000 36000000))
  else if idx = 0x2C12 then only sub (numCard .ro 4 (some .separation) 0)
  else if idx = 0x2C20 then subsOf sub 1 0x0C fun _ => numCard .ro 8 (some .separation) 0
  else if idx = 0x2C21 then subsOf sub 1 0x0C fun _ => numCard .ro 4 (some .separation) 0xFFFFFFFF
  else if idx = 0x2C22 then only sub (numCard .ro 8 (some .separation) 0)
  else if idx = 0x2E01 then subsOf sub 1 0x11 fun s =>
      numCard .rws 1 (some .fabric)
        ([16, 16, 16, 16, 64, 4, 2, 2, 8, 8, 16, 32, 16, 32, 32, 8, 2].getD (s - 1) 1) (inRange 1 255)
  else if idx = 0x2E02 then only sub (numCard .rws 2 (some .fabric) 400 (inRange 10 10000))
  else if idx = 0x2E03 then only sub (domCard .rws 256 (some .fabric))
  else if idx = 0x2E04 then only sub (numCard .ro 4 (some .fabric) 0xFF000000)
  else if idx = 0x2E05 then only sub (numCard .wo 1 (some .fabric) 0 (inRange 0 0x0F))
  else if idx = 0x2E06 then only sub (numCard .ro 2 (some .fabric) 0)
  else if 0x2E20 ≤ idx ∧ idx ≤ 0x2E2F then only sub (domUpTo .rws 6291456 (some .fabric))
  else if idx = 0x2F01 then only sub (domCard .rws 64 (some .trace))
  else if idx = 0x2F02 then only sub (numCard .rws 8 (some .trace) 0x0001000000000000
      (fun v => inRange 1 65535 (field v 63 48) && field v 47 33 == 0))
  else if idx = 0x2F03 then only sub (numCard .rws 4 (some .trace) 0 (fun v => field v 29 14 == 0))
  else if idx = 0x2F04 then only sub (numCard .rws 4 (some .trace) 0 (inSigned 32 (-8388608) 8388607))
  else if idx = 0x2F05 then only sub (numCard .wo 1 (some .trace) 0 (inRange 1 1))
  else if idx = 0x2F06 then subsOf sub 1 2 fun _ => numCard .ro 4 (some .trace) 0
  else if idx = 0x2F07 then only sub (domCard .ro 2097152 (some .trace))
  else .noIndex

/-- Octet of the default pannier table: E = 0, limit 3, λ_0 = 800 ns (Table 05-4, Table 05-5). -/
def pannierDfltOctet (i : Nat) : Byte :=
  if i = 1 then 3#8 else if i = 4 then numOctet 800 0 else if i = 5 then numOctet 800 1 else 0#8

/-- Objects of ring `n`, at offset `off` from 0x3000 + 0x200 n. -/
def cardRing (n off sub : Nat) : Lookup :=
  let f := some (Fn.ring n)
  if off = 1 then only sub (numCard .rws 4 f 15625 (inRange 8000 1000000))
  else if off = 2 then only sub (numCard .rws 4 f (ofSigned 32 (-2000)) (inSigned 32 (-500000) 0))
  else if off = 3 then only sub (numCard .rws 4 f 6000 (inSigned 32 0 1000000))
  else if off = 0x10 then only sub
      { acc := .rws, ty := .domain 1094 true, owner := f, dfltLen := 70, dfltOctet := pannierDfltOctet, ok := fun _ => true }
  else if off = 0x20 then only sub (numCard .ro 4 f 0x00FFF000)
  else if off = 0x21 then subsOf sub 1 4 fun _ => numCard .ro 4 f 0
  else if off = 0x22 then only sub (numCard .rw 4 f 1000 (inRange 1 4294967295))
  else if off = 0x30 then subsOf sub 1 0x20 fun _ => numCard .ro 2 f 0
  else if off = 0x40 then only sub (numCard .wo 8 f 0 (fun v => inRange 1 3 (field v 63 56)))
  else if off = 0x41 then only sub (numCard .ro 8 f 0)
  else if off = 0x42 then only sub (numCard .wo 2 f 0 (inRange 1 65535))
  else if off = 0x43 then only sub (numCard .ro 8 f 0)
  else if off = 0x46 then only sub (domCard .ro 32784 f)
  else if off = 0x48 then only sub (numCard .wo 1 f 0 (inRange 1 1))
  else if off = 0x50 then subsOf sub 1 2 fun _ => numCard .rws 1 f 0 (inRange 0 3)
  else if off = 0x60 then subsOf sub 1 0x21 fun _ => numCard .ro 4 f 0
  else .noIndex

/-- Identifier field map (Table 03-15). -/
def canIdOk (v : Nat) : Bool := field v 30 29 == 0 && (bitAt v 31 || field v 28 11 == 0)

/-- Nominal bit timing: Table 15-3 and R642. -/
def nominalOk (v : Nat) : Bool :=
  let brp := field v 31 27 + 1
  let t1 := field v 26 19 + 1
  let t2 := field v 18 12 + 1
  let sjw := field v 11 5 + 1
  field v 4 0 == 0 && decide (2 ≤ t1) && decide (2 ≤ t2) && decide (sjw ≤ t2) && decide (80 ≤ brp * (1 + t1 + t2))

/-- Data-phase bit timing: Table 15-4 and R642. -/
def dataPhaseOk (v : Nat) : Bool :=
  let brp := field v 31 27 + 1
  let t1 := field v 26 22 + 1
  let t2 := field v 21 18 + 1
  let sjw := field v 17 14 + 1
  field v 13 0 == 0 && decide (t1 ≤ 32) && decide (sjw ≤ t2) && decide (10 ≤ brp * (1 + t1 + t2))

/-- Objects of CAN controller `n`, at offset `off` from 0x3800 + 0x100 n. -/
def cardCan (n off sub : Nat) : Lookup :=
  let f := some (Fn.can n)
  if off = 1 then subsOf sub 1 2 fun s =>
      if s = 1 then numCard .rws 4 f 0x09F0F1E0 nominalOk else numCard .rws 4 f 0x03510000 dataPhaseOk
  else if off = 2 then only sub (numCard .rws 4 f 0x03C000E0 (fun v => field v 31 29 ≤ 4 && field v 21 8 == 0))
  else if off = 3 then only sub (domCard .rws 2048 f)
  else if off = 5 then only sub (numCard .ro 4 f 0)
  else if off = 6 then only sub (numCard .wo 1 f 0 (inRange 1 1))
  else if off = 0x10 then subsOf sub 1 3 fun s =>
      if s = 1 then boolCard .rws f
      else if s = 2 then numCard .rws 4 f 0x6C0 canIdOk else numCard .rws 4 f 0x6C8 canIdOk
  else if off = 0x20 then subsOf sub 1 0x20 fun _ => domCard .ro 88 f
  else if off = 0x21 then only sub (numCard .ro 8 f 0)
  else if off = 0x30 then subsOf sub 1 0x10 fun _ => domCard .rw 80 f
  else if off = 0x31 then only sub (numCard .wo 2 f 0 (inRange 1 65535))
  else if off = 0x32 then only sub (numCard .ro 8 f 0)
  else .noIndex

/-- Objects of host port `n`, at offset `off` from 0x3C00 + 0x100 n. -/
def cardHostPort (n off sub : Nat) : Lookup :=
  let f := some (Fn.hostPort n)
  if off = 1 then subsOf sub 1 2 fun s =>
      if s = 1 then numCard .rws 1 f 0 (inRange 0 1) else numCard .rws 2 f 0 (inRange 0 4094)
  else if off = 2 then only sub (numCard .const 8 f 0)
  else if off = 3 then only sub (domCard .rws 48 f)
  else if off = 4 then only sub (domCard .rws 768 f)
  else if off = 5 then only sub (domCard .rws 20 f)
  else if off = 6 then subsOf sub 1 3 fun s =>
      if s = 1 then numCard .rws 1 f 0 (inRange 0 127)
      else if s = 2 then numCard .rws 1 f 1 (inRange 1 2) else numCard .rws 1 f 1 (inRange 0 2)
  else if off = 7 then only sub (numCard .rws 1 f 0 (inRange 0 3))
  else if off = 8 then only sub (numCard .ro 4 f 0)
  else if off = 9 then subsOf sub 1 8 fun _ => numCard .ro 4 f 0
  else .noIndex

/-- Time base objects (0x3E00–0x3EFF). -/
def cardTimeBase (idx sub : Nat) : Lookup :=
  let f := some Fn.timeBase
  if idx = 0x3E01 then subsOf sub 1 2 fun _ => timeCard .ro f
  else if idx = 0x3E02 then only sub (timeCard .wo f)
  else if idx = 0x3E03 then subsOf sub 1 2 fun s =>
      if s = 1 then numCard .ro 8 f 562949953421312
      else numCard .wo 8 f 562949953421312 (inRange 562668478444602 563231428398022)
  else if idx = 0x3E04 then only sub (numCard .rws 1 f 0 (inRange 0 3))
  else if idx = 0x3E05 then only sub (numCard .ro 8 f 0)
  else if idx = 0x3E06 then subsOf sub 1 2 fun s =>
      if s = 1 then numCard .rws 4 f 1000 (inRange 10 1000000) else numCard .rws 4 f 100000 (inRange 1000 1000000000)
  else if idx = 0x3E07 then subsOf sub 1 2 fun _ => timeCard .ro f
  else if idx = 0x3E08 then subsOf sub 1 4 fun _ => numCard .rws 4 f 0 (inSigned 32 (-1000000) 1000000)
  else .noIndex

/-- Objects of arm `a`, at offset `off` from 0x5000 + 0x40 a. -/
def cardArm (a off sub : Nat) : Lookup :=
  let f := some (Fn.arm a)
  if off = 1 then only sub { domCard .rws 16 f with dfltOctet := fun _ => 0xFF#8 }
  else if off = 2 then subsOf sub 1 2 fun s => if s = 1 then domUpTo .rws 32768 f else domUpTo .rws 8192 f
  else if off = 6 then only sub (domCard .rws 1600 f)
  else if off = 7 then only sub (numCard .ro 4 f 0)
  else .noIndex

/-- Octet of the default coefficient set: the b0 word of each notch is unity (Table 09-5). -/
def coefDfltOctet (i : Nat) : Byte := if i = 3 * 13 + 2 ∨ i = 3 * 18 + 2 then 0x40#8 else 0#8

/-- Objects of joint `j`, at offset `off` from 0x6000 + 0x20 j. -/
def cardJoint (j off sub : Nat) : Lookup :=
  let f := some (Fn.joint j)
  if off = 1 then only sub (numCard .rws 8 f 0x100
      (fun v => field v 15 0 != 0 && lawEntryOk true (field v 15 0) && lawEntryOk true (field v 31 16) &&
        lawEntryOk true (field v 47 32) && lawEntryOk true (field v 63 48)))
  else if off = 2 then only sub (numCard .wo 2 f 0 (lawEntryOk false))
  else if off = 3 then subsOf sub 1 2 fun _ => { domCard .rws 96 f with dfltOctet := coefDfltOctet }
  else if off = 4 then only sub (numCard .rws 4 f 0xFFFFFFFF
      (fun v => (List.range 4).all fun m =>
        let o := field v (8 * m + 7) (8 * m)
        o == 0xFF || (decide (o < 96) && o != j)))
  else if off = 5 then only sub (numCard .rws 4 f 0x02000006
      (fun v => field v 31 8 ≤ 0x7FFFFF && field v 7 4 == 0 && field v 3 0 ≤ 12))
  else if off = 6 then subsOf sub 1 2 fun s =>
      if s = 1 then numCard .rws 4 f 4096 (inRange 1 4294967295) else numCard .rws 2 f 64 (inRange 1 65535)
  else if off = 7 then only sub (numCard .rws 8 f 0x028005000000010A
      (fun v => field v 31 9 == 0 && field v 7 4 == 0 && field v 3 0 ≤ 12))
  else if off = 8 then only sub (numCard .rws 2 f 0 (inRange 0 6143))
  else if off = 9 then only sub (numCard .ro 4 f 0)
  else if off = 0xA then subsOf sub 1 6 fun s =>
      numCard .ro ([8, 8, 4, 4, 3, 2].getD (s - 1) 4) f 0
  else if off = 0xB then only sub (numCard .wo 8 f 0
      (fun v => inRange 1 0x7FFFFF (field v 63 40) && decide (1 ≤ field v 39 32) && decide (1 ≤ field v 31 16) &&
        field v 15 0 == 0))
  else if off = 0xC then subsOf sub 1 4 fun s => if s = 1 then numCard .ro 1 f 0 else numCard .ro 4 f 0
  else .noIndex

/-- Axis configuration (Table 14-7). -/
def axisCfgOk (v : Nat) : Bool :=
  field v 23 22 != 3 && field v 21 21 == 0 && (field v 20 17 ≤ 7 || field v 20 17 == 0xF) &&
  (field v 16 12 ≤ 15 || field v 16 12 == 0x1F) && field v 11 8 == 0 && field v 2 0 == 0

/-- Move command (Table 14-4). -/
def moveCmdOk (v : Nat) : Bool :=
  let k := field v 63 56
  inRange 1 7 k && field v 55 32 == 0 && (k ≤ 2 || field v 31 0 == 0)

/-- Octet of the default ramp set (Table 14-1). -/
def rampDfltOctet (i : Nat) : Byte :=
  numOctet ([100, 100, 2000, 10000, 50000, 20000, 50000, 20000].getD (i / 4) 0) (i % 4)

/-- Objects of axis `k`, at offset `off` from 0x7000 + 0x40 k. -/
def cardAxis (k off sub : Nat) : Lookup :=
  let f := some (Fn.axis k)
  if off = 1 then only sub (numCard .rws 4 f 0x001FF008 axisCfgOk)
  else if off = 2 then only sub { domCard .rw 32 f with dfltOctet := rampDfltOctet }
  else if off = 3 then subsOf sub 1 4 fun s =>
      if s = 1 then numCard .rws 1 f 40 (inRange 4 96) else if s = 2 then numCard .rws 1 f 2 (inRange 1 255)
      else numCard .rws 2 f 2000 (inRange 0 10000)
  else if off = 4 then subsOf sub 1 4 fun s =>
      if s = 1 then numCard .rws 1 f 3 (inRange 0 5) else if s = 2 then numCard .rws 4 f 2000 (inRange 1 2000000)
      else if s = 3 then numCard .rws 4 f 200 (inRange 1 2000000) else numCard .rws 4 f 0
  else if off = 5 then only sub (numCard .wo 8 f 0 moveCmdOk)
  else if off = 6 then subsOf sub 1 4 fun _ => numCard .ro 4 f 0
  else .noIndex

/-- Group configuration (Table 14-15). -/
def pwmCfgOk (v : Nat) : Bool :=
  inRange 40 65535 (field v 63 48) && decide (1 ≤ field v 23 16) && field v 15 8 == 0 && field v 4 3 == 0

/-- Objects of PWM group `g`, at offset `off` from 0x7800 + 0x10 g. -/
def cardPwm (g off sub : Nat) : Lookup :=
  let f := some (Fn.pwm g)
  if off = 1 then only sub (numCard .rws 8 f 0x4E20000000010000 pwmCfgOk)
  else if off = 2 then only sub (numCard .rws 2 f 25600)
  else if off = 3 then subsOf sub 1 3 fun _ => numCard .rw 4 f 0 (inRange 0 16777215)
  else if off = 4 then only sub (numCard .ro 4 f 0)
  else .noIndex

/-- Feedback configuration (Table 14-19). -/
def feedbackCfgOk (v : Nat) : Bool :=
  decide (1 ≤ field v 23 16) && field v 15 8 == 0 && field v 5 2 == 0 && inRange 1 2 (field v 1 0)

/-- Objects of feedback input `n`, at offset `off` from 0x7C00 + 0x10 n. -/
def cardFeedback (n off sub : Nat) : Lookup :=
  let f := some (Fn.feedback n)
  if off = 1 then only sub (numCard .rws 4 f 0x04640001 feedbackCfgOk)
  else if off = 2 then subsOf sub 1 3 fun s =>
      if s = 1 then numCard .rws 2 f 100 (inRange 1 1000) else if s = 2 then numCard .rws 1 f 8 (inRange 1 255)
      else numCard .rws 2 f 0 (inRange 0 65535)
  else if off = 3 then subsOf sub 1 4 fun _ => numCard .ro 4 f 0
  else .noIndex

/-- Octet of the default safety settings header (Table 12-10, Table 12-11). -/
def safSettingsOctet (i : Nat) : Byte :=
  if i < 2 then numOctet 20000 i else if i < 4 then numOctet 250 (i - 2) else if i < 6 then numOctet 4 (i - 4)
  else if 8 ≤ i ∧ i < 12 then numOctet 28800 (i - 8) else 0#8

/-- Brake test request (R545), apart from the members, which the owner checks. -/
def brakeReqOk (v : Nat) : Bool :=
  field v 31 28 == 0 && field v 27 24 ≤ 11 && decide (1 ≤ field v 23 16) && field v 15 0 != 0

/-- Safety objects (0xA000–0xAFFF). -/
def cardSafety (idx sub : Nat) : Lookup :=
  let f := some Fn.safety
  if idx = 0xA001 then only sub (numCard .ro 4 f 0)
  else if idx = 0xA002 then only sub (numCard .ro 4 f 0)
  else if idx = 0xA003 then only sub (numCard .safe 4 f 0)
  else if idx = 0xA004 then only sub (numCard .safe 1 f 0 (inRange 1 1))
  else if idx = 0xA005 then only sub (numCard .ro 1 f 0)
  else if idx = 0xA010 then only sub (numCard .ro 8 f 0)
  else if idx = 0xA011 then subsOf sub 1 0x0C fun _ => numCard .ro 4 f 0
  else if idx = 0xA013 then subsOf sub 1 0x60 fun _ => numCard .ro 4 f 0x3FFFFFFF
  else if idx = 0xA020 then subsOf sub 1 3 fun _ => numCard .ro 4 f 0
  else if idx = 0xA021 then subsOf sub 1 0x68 fun _ => numCard .ro 4 f 0
  else if idx = 0xA100 then only sub { domCard .safe 832 f with dfltOctet := safSettingsOctet }
  else if idx = 0xA102 then only sub (domCard .safe 4608 f)
  else if idx = 0xA110 then only sub (domCard .safe 19200 f)
  else if idx = 0xA111 then only sub { domCard .safe 3072 f with dfltOctet := capsuleDfltOctet }
  else if idx = 0xA120 then only sub (domCard .safe 512 f)
  else if idx = 0xA130 then only sub (domCard .safe 10448 f)
  else if idx = 0xA140 then only sub (domCard .safe 256 f)
  else if idx = 0xA150 then subsOf sub 1 0x0C fun _ => numCard .rw 1 f 0 (inRange 0 2)
  else if idx = 0xA151 then only sub (numCard .wo 2 f 0 (inRange 1 0x0FFF))
  else if idx = 0xA152 then only sub (numCard .wo 4 f 0 brakeReqOk)
  else if idx = 0xA160 then only sub (domCard .safe 1664 f)
  else if idx = 0xA170 then only sub (domCard .safe 128 f)
  else if idx = 0xA180 then only sub (domCard .safe 64 f)
  else .noIndex

/-- Instance and offset of an index in a range of repeated blocks. -/
def blockOf (idx base pitch : Nat) : Nat × Nat := ((idx - base) / pitch, (idx - base) % pitch)

/-- The dictionary (Table 03-1): the card at an index and subindex, or which of R94's two refusals applies. -/
def lookup (idx sub : Nat) : Lookup :=
  match Fn.ofBase idx with
  | some f => controlCard f sub
  | none =>
    if idx < 0x2000 then cardDevice idx sub
    else if idx < 0x2800 then cardWaystation idx sub
    else if idx < 0x2C00 then cardPlanner idx sub
    else if idx < 0x3000 then cardPerception idx sub
    else if idx < 0x3800 then let b := blockOf idx 0x3000 0x200; cardRing b.1 b.2 sub
    else if idx < 0x3C00 then let b := blockOf idx 0x3800 0x100; cardCan b.1 b.2 sub
    else if idx < 0x3E00 then let b := blockOf idx 0x3C00 0x100; cardHostPort b.1 b.2 sub
    else if idx < 0x3F00 then cardTimeBase idx sub
    else if idx < 0x5000 then .noIndex
    else if idx < 0x5300 then let b := blockOf idx 0x5000 0x40; cardArm b.1 b.2 sub
    else if idx < 0x6000 then .noIndex
    else if idx < 0x6C00 then let b := blockOf idx 0x6000 0x20; cardJoint b.1 b.2 sub
    else if idx < 0x7000 then .noIndex
    else if idx < 0x7400 then let b := blockOf idx 0x7000 0x40; cardAxis b.1 b.2 sub
    else if idx < 0x7800 then .noIndex
    else if idx < 0x7880 then let b := blockOf idx 0x7800 0x10; cardPwm b.1 b.2 sub
    else if 0x7880 ≤ idx ∧ idx ≤ 0x7887 then
      only sub (numCard .rws 4 none 4 (fun v => field v 31 17 == 0))
    else if idx = 0x7890 then subsOf sub 1 2 fun _ => numCard .ro 4 none 0
    else if idx < 0x7C00 then .noIndex
    else if idx < 0x7D00 then let b := blockOf idx 0x7C00 0x10; cardFeedback b.1 b.2 sub
    else if 0xA000 ≤ idx ∧ idx < 0xB000 then cardSafety idx sub
    else .noIndex

/-- The card at an index and subindex, if an object stands there. -/
def cardAt (idx sub : Nat) : Option Card :=
  match lookup idx sub with
  | .found c => some c
  | _ => none

/-- Default octets of an object, none where no object stands. -/
def dfltOctets (idx sub : Nat) : Octets :=
  match cardAt idx sub with
  | some c => c.dflt
  | none => []

end Sys2Proof.Machine
end

