-- ==== Sys2Proof/Machine/StateCore.lean ====
section
/-! DEFINITION. State of supplies and reset, time base, dictionary, Waystation and Ledger (spec chapters 02, 03, 06, 07, 18). -/

namespace Sys2Proof.Machine

/-- Supplies, resets and power modes (spec/02_package_power_clocks.md). -/
structure Power where
  /-- All companion rails are in tolerance (R60, R66). -/
  railsOk : Bool
  /-- The companion clock monitor accepts the 20 MHz clock (R60). -/
  clockOk : Bool
  /-- The companion die is in reset (R60). -/
  compReset : Bool
  /-- Level of MAIN_PWR_EN. -/
  pwrEn : Bool
  /-- Level of MAIN_PGOOD. -/
  pgood : Bool
  /-- Consecutive failed power-good attempts, 0–3 (R62, R68). -/
  pgFails : Nat
  /-- The 100 ms with MAIN_PWR_EN low before the next attempt are running (R62, R68). -/
  retry : Bool
  /-- The 1 ms before the main die reset release is running (R63). -/
  releasing : Bool
  /-- The main die is in reset (R63, R64). -/
  mainReset : Bool
  /-- A device reset is in progress (R70). -/
  deviceReset : Bool
  /-- The PLLs of the main die are locked (R79). -/
  pllLocked : Bool
  /-- SRAM is cleared and the management processor has left reset (R72). -/
  mgmtUp : Bool
  /-- RESET_OUT_L is released (high) (R75). -/
  resetOutHigh : Bool
  /-- XSPI_RESET_L is high (Table 02-6). -/
  xspiResetHigh : Bool
  /-- Reset cause object 0x1020:00 (Table 02-8). -/
  cause : Nat
  /-- Power mode, 0 RUN to 4 WAKING (Table 02-13). -/
  mode : Nat
  /-- The mode that WAKING ends in: 0 RUN or 1 DOZE (R83, R84). -/
  wakeTo : Nat
  /-- VDD_MRAM and the MRAM write supply allow new MRAM writes (R56, R735). -/
  mramOk : Bool
  /-- Level of TEST_MODE, which a board ties low (R92). -/
  testMode : Bool
  /-- Thermal shutdown flag kept by the companion die (R734). -/
  thermal : Bool
  /-- PWM groups whose SHORT state waits for the RC delay after a CM2 fault, and the main reset with them (R625, R80). -/
  cm2Short : List Nat
  /-- A reset request or MAIN_OFF carried by CAN controller `n`, which waits until `k` more dictionary responses have left it: the
  object's index, the value, n and k (R76, R82). -/
  resetAsked : Option (Nat × Nat × Nat × Nat)
  /-- The ring transmitters are in electrical idle by the action of CM5 (Table 02-12). -/
  ringPllIdle : Bool
deriving DecidableEq, Repr

/-- The time base (spec/06_regulator_time_base.md). -/
structure TimeBase where
  /-- The clocks tick: the main PLL has locked since the last main reset (R274). -/
  ticking : Bool
  /-- Ring time as its total nanosecond count (R273). -/
  ringNs : Nat
  /-- Regulator seconds, nanoseconds and the 48-bit sub-nanosecond field (R271). -/
  sec : Nat
  ns : Nat
  sub : Nat
  /-- Increment in force, units of 2⁻⁴⁸ ns (R272). -/
  inc : Nat
  /-- A step that takes effect at the next tick: seconds, nanoseconds, sub-nanosecond field (R277, R280). -/
  pendStep : Option (Nat × Nat × Nat)
  /-- An increment that applies from the next tick (R278). -/
  pendInc : Option Nat
  /-- Level of TB_PPS_OUT (R287). -/
  ppsOut : Bool
  /-- The latched pair: Regulator seconds and nanoseconds, and ring time (R284). -/
  pairSec : Nat
  pairNs : Nat
  pairRing : Nat
  /-- Discipline mode in force (R277). -/
  mode : Nat
  /-- Discipline state: 0 FREE, 1 ACQUIRING, 2 LOCKED, 3 HOLDOVER (Table 06-6). -/
  disc : Nat
  /-- The servo's y in units of 2⁻⁴⁹ (R280). -/
  y : Int
  /-- θ_last in 2⁻¹⁶ ns (R280). -/
  thetaLast : Int
  /-- Last accepted θ as 0x3E05:00 reports it (Table 06-8). -/
  offset : Int
  /-- Consecutive discarded samples (R280). -/
  discards : Nat
  /-- A sample was accepted since the entry to ACQUIRING (R280). -/
  accepted : Bool
  /-- Consecutive accepted samples with |θ| ≤ 100 ns (Table 06-6). -/
  lockRun : Nat
  /-- An Announce message was received since the entry to ACQUIRING (R823). -/
  announced : Bool
deriving DecidableEq, Repr

/-- An open segmented transfer (R127 to R134). -/
structure Transfer where
  /-- A write; else a read. -/
  write : Bool
  idx : Nat
  sub : Nat
  total : Nat
  /-- Octets already transferred. -/
  done : Nat
  /-- Content received so far, or the snapshot being read (R134). -/
  content : Octets
  /-- Sequence of the INIT request (R753). -/
  initSeq : Nat
  /-- The owning function has left STOPPED since the write was opened (R133). -/
  left : Bool
  /-- The final segment has been accepted and the content check is running (R127). -/
  checking : Bool
  /-- Sequence of the final segment, whose response is still to be sent. -/
  finalSeq : Nat
deriving DecidableEq, Repr

/-- An open session (spec/03_object_dictionary.md "Sessions"). -/
structure Session where
  id : Nat
  src : Endpoint
  slot : Nat
  role : Nat
  /-- It was opened with the empty key (R125, R765). -/
  emptyKey : Bool
  /-- Session key K_S (R119). -/
  key : Octets
  /-- Its first tagged request has arrived (R122). -/
  confirmed : Bool
  /-- Last consumed sequence number (R126). -/
  lastSeq : Nat
  /-- Octets of the last request that consumed its number (R126). -/
  lastReq : Octets
  /-- The stored response (R126). -/
  lastRsp : Octets
  tagFails : Nat
  /-- Ring times of its requests within the last second (R118). -/
  reqAt : List Nat
  xfer : Option Transfer
  /-- Times latched by the session's last request, a read of 0x3E01: its subindex, Regulator seconds and nanoseconds, and ring
  time (R276). -/
  latch : Option (Nat × Nat × Nat × Nat)
deriving DecidableEq, Repr

/-- A response that left a port. -/
structure Reply where
  dest : Endpoint
  msg : Octets
deriving DecidableEq, Repr

/-- One copy of the RWS image in MRAM and whether its CRC holds (R139). -/
structure RwsCopy where
  valid : Bool
  image : List ((Nat × Nat) × Octets)
deriving DecidableEq, Repr

/-- A mailbox slot (Table 03-23, Table 03-25). -/
structure MboxSlot where
  /-- STATE: 0 free to 5 rejected. -/
  st : Nat
  record : Octets
  /-- Order of acceptance (R152). -/
  order : Nat
  /-- Order in which it reached done, cancelled or rejected (R150). -/
  ended : Nat
  /-- Planning cycle at which the post takes effect (R151). -/
  effect : Nat
  /-- State in which its After command has ended, 0 before that (R431, R432). -/
  afterEnd : Nat
  /-- A CANCEL that names it has taken effect (R433). -/
  cancelled : Bool
deriving DecidableEq, Repr

/-- The dictionary (spec/03_object_dictionary.md). -/
structure Dict where
  /-- Values of RW, RWS and SAFE objects that differ from their default, by rising (index, subindex). -/
  store : List ((Nat × Nat) × Octets)
  sessions : List Session
  /-- Ring times of the requests the device accepted within the last second (R118). -/
  reqAt : List Nat
  copyA : RwsCopy
  copyB : RwsCopy
  /-- The marker word: copy A is current (R139). -/
  markerA : Bool
  /-- Snapshot of a store in progress (R140). -/
  storing : Option (List ((Nat × Nat) × Octets))
  /-- Store status (Table 03-18). -/
  storeStatus : Nat
  /-- The last response sent. -/
  lastReply : Option Reply
  /-- Mailbox slots 0–63 (R149). -/
  mbox : List MboxSlot
  /-- Number of posts accepted and of slots ended, which order them (R150, R152). -/
  mboxOrder : Nat
  /-- The parameter load at boot has ended (R141, R814). -/
  parametersLoaded : Bool
deriving DecidableEq, Repr

/-- An item (Table 07-1), with the octets of its buffer. -/
structure Item where
  flow : Nat
  origin : Nat
  /-- Bazaar byte offset; 0xFFFFFFFF for none. -/
  buffer : Nat
  len : Nat
  flags : Nat
  tag : Nat
  /-- Content of the buffer, which belongs to the item's consumer (R298). -/
  payload : Octets
  /-- Cycle number c of the item (R346). -/
  cyc : Nat
deriving DecidableEq, Repr

/-- An item in its flow's queue: the control cycle at which it became ready (R300, R301), the control cycle at which it was
posted and its place among the posts of that cycle (R294, R299, R313), and whether its wait for an engine has raised EV5
(R308). -/
structure Queued where
  item : Item
  ready : Option Nat
  cycle : Nat
  rank : Nat
  waited : Bool
deriving DecidableEq, Repr

/-- An item on a delay list: the list and the ticks left (R311). -/
structure Delayed where
  list : Nat
  ticks : Nat
  item : Item
deriving DecidableEq, Repr

/-- A gate: dependence counter, wait counter (none when stopped or unused), firing count, held item, wait timed out
(R314 to R319). -/
structure Gate where
  count : Nat
  wait : Option Nat
  fired : Nat
  held : Option Item
  late : Bool
deriving DecidableEq, Repr

/-- The Waystation (spec/07_waystation_scheduler.md). -/
structure Waystation where
  /-- Queued items in the order in which they were posted (R294). -/
  queue : List Queued
  delayed : List Delayed
  /-- Service positions 0–111 (Table 07-3). -/
  positions : List (Option Item)
  /-- Items whose engine has finished them and whose completion is still to be reported: position, item, error (R350). -/
  finished : List (Nat × Item × Bool)
  gates : List Gate
  /-- Items held by hardware sources, oldest first (R320, R321). -/
  held : List Item
  /-- Event pending bits EV0–EV511 (R324). -/
  pend : BitVec 512
  /-- Sticky status bits [5:0] (Table 07-16). -/
  sticky : Nat
  /-- The last control cycle in which an event was raised or a sticky bit set, and which were in it (R326, R333). -/
  recentCycle : Nat
  recentEvents : BitVec 512
  recentSticky : Nat
  /-- The Waystation table in force (R814). -/
  table : Octets
  /-- Ring time of each delay list's last tick, or of START (R312). -/
  ticks : List Nat
deriving DecidableEq, Repr

/-- What a Ledger record states, before it has a number (Table 18-5). -/
structure LedgerEntry where
  sec : Nat
  ns : Nat
  plan : Nat
  kind : Nat
  source : Nat
  payload : Octets
deriving DecidableEq, Repr

/-- The last record of an event: its planning cycle and the raises since (R739). -/
structure EventRepeat where
  event : Nat
  plan : Nat
  count : Nat
deriving DecidableEq, Repr

/-- The Ledger (R736 to R742). -/
structure Ledger where
  /-- Records written, by rising number, at most 131 072. -/
  records : List (Nat × Octets)
  next : Nat
  cursor : Nat
  /-- Chain tag of the last record (R738). -/
  chain : Octets
  queue : List LedgerEntry
  /-- Records dropped since the last record of kind 0x00FF (R740). -/
  lost : Nat
  repeats : List EventRepeat
deriving DecidableEq, Repr

/-- A firmware slot's state words (Table 18-9, Table 18-13). -/
structure FlashSlot where
  st : Nat
  trials : Nat
  version : Nat
deriving DecidableEq, Repr

/-- A key slot: role, ENABLED and key; `none` in `State` for an empty slot (Table 18-15). -/
structure KeySlot where
  role : Nat
  enabled : Bool
  key : Octets
deriving DecidableEq, Repr

/-- Sensors (R731 to R735). Each count runs the consecutive readings at least 5 K below the threshold. -/
structure Sensors where
  temps : List Int
  volts : List Nat
  tempWarn : Bool
  tempWarnCount : Nat
  voltWarn : Bool
  mainAlarm : Bool
  mainCount : Nat
  safaAlarm : Bool
  safaCount : Nat
  compAlarm : Bool
  compCount : Nat
  /-- Derating step set by the readings and its counts for steps 1 and 2 (R733). -/
  derate : Nat
  derate1Count : Nat
  derate2Count : Nat
  /-- Derating step in effect since a planning boundary (R733). -/
  derateInForce : Nat
deriving DecidableEq, Repr

/-- Firmware images and the boot ROM (R743 to R752, R804 to R806). -/
structure Firmware where
  /-- The xSPI flash; an unlisted octet reads 0xFF, the erased value. -/
  flash : List Host.Cell
  slots : List FlashSlot
  /-- Slot of the running image. -/
  running : Option Nat
  /-- The boot ROM holds (R751). -/
  hold : Bool
  /-- Version of the running image, 0x100A:00. -/
  version : Nat
  floor : Nat
  /-- Update status 0x1042:00. -/
  update : Nat
  /-- The image being programmed (R747). -/
  programming : Option Octets
  /-- Slots written under FLASH_PROG since they were last judged at boot. -/
  progWritten : List Nat
  /-- Sectors erased since the boot ROM began holding (R806). -/
  erased : List Nat
  /-- Functions that the firmware has still to start after a boot, in order, and the last one it started (R800). -/
  autoStart : List Fn
  autoLast : Option Fn
deriving DecidableEq, Repr

/-- The security subsystem (R753 to R771). -/
structure Security where
  /-- Key slots as the vault holds them. -/
  keys : List (Option KeySlot)
  /-- Key slots as MRAM holds them, wrapped (R762). -/
  stored : List (Option KeySlot)
  /-- Vault epoch E. -/
  epoch : Octets
  vaultReadable : Bool
  tampered : Bool
  /-- Tamper sensors latched since the last transition. -/
  sensors : Nat
  /-- Next XMSS^MT signature index. -/
  attIndex : Nat
  /-- Attestation status: 0 idle, 1 signing, 2 ready. -/
  attStatus : Nat
  challenge : Octets
  statement : Octets
  /-- Life-cycle state 0–4 (Table 18-20). -/
  lifeCycle : Nat
  returnChallenge : Octets
  /-- Target of the authorisation accepted since the last main reset (R768). -/
  authorised : Option Nat
  /-- Accepted transition that takes place after its response: target and slot-0 key (R770). -/
  transition : Option (Nat × Octets)
  /-- The transition happened and its event waits for the first boot in the new state (R770). -/
  changed : Bool
  secretDestroyed : Bool
deriving DecidableEq, Repr

/-- Pairing (spec/19_standby_pairing.md). -/
structure Pairing where
  actvO : Bool
  actvI : Bool
  /-- PAIR_SEL: false for the principal, true for the partner. -/
  pairSel : Bool
  acting : Bool
  armed : Bool
  mismatch : Bool
  /-- Pairing offset Θ in ps. -/
  theta : Int
  /-- Q of each ring in ps, once established (R786). -/
  q : List (Option Int)
  /-- Board reference cycle of the last mismatch (R789). -/
  lastMismatch : Option Nat
  /-- The unit stops acting at the next board cycle (Table 19-2). -/
  releasePending : Bool
  /-- The pending release is a switchover test (R794). -/
  testPending : Bool
  /-- The second after a test release is running (R795, R796). -/
  testRunning : Bool
  /-- The other unit has failed in that second (R796). -/
  testFailed : Bool
  /-- Last test result 0x1C05:00. -/
  testResult : Nat
  /-- The first board cycle b after acting began is still to come (R790). -/
  takeoverDue : Bool
  /-- Cycle b of the takeover in progress. -/
  takeover : Option Nat
deriving DecidableEq, Repr

/-- The test access port (R804 to R808). -/
structure Tap where
  /-- The instruction in effect: the last one loaded, or BYPASS where it acts as that. -/
  ir : Nat
  /-- The last instruction loaded was granted (R808). -/
  granted : Bool
  /-- Boundary register, 1 048 cells. -/
  boundary : BitVec 1048
  bypass : Bool
  /-- FLASH_PROG: current offset, word read, status 0 done, 1 busy, 2 refused (Table 20-3). -/
  offset : Nat
  word : Nat
  status : Nat
  /-- A flash operation is under way (R806). -/
  busy : Bool
deriving DecidableEq, Repr

end Sys2Proof.Machine
end

