-- ==== Sys2Proof/Machine/StateFabric.lean ====
section
/-! DEFINITION. State of the Bazaar and its fabric (spec/17_memory_fabric.md). -/

namespace Sys2Proof.Machine

/-- One port of a bank: losses in a row by requester (R711), and real-time wins in a row while bulk waits (R712). -/
structure FabPort where
  losses : List (Nat × Nat)
  rtRun : Nat
deriving DecidableEq, Repr

/-- One bank: its LFSR (R710) and its two ports (R703). -/
structure FabBank where
  lfsr : Nat
  a : FabPort
  b : FabPort
deriving DecidableEq, Repr

/-- A locked sequence: holder, lines, held words by rising word number, hold timer in fabric cycles (R716 to R719). -/
structure LockSeq where
  holder : Nat
  lines : List Nat
  held : List (Nat × Nat)
  timer : Nat
deriving DecidableEq, Repr

/-- A requester that waits for a locked line, with a lock request or with an access (R717). -/
structure LineWait where
  req : Nat
  line : Nat
  lock : Bool
deriving DecidableEq, Repr

/-- A write that port B makes, or has made, in a fabric cycle, with the word before it (R705). -/
structure FabMove where
  word : Nat
  cycle : Nat
  op : Nat
  mask : Nat
  data : Nat
  old : Nat
deriving DecidableEq, Repr

/-- The Bazaar. -/
structure Fabric where
  /-- 64-bit words by word number, octet offset / 8. -/
  mem : Words
  banks : List FabBank
  seqs : List LockSeq
  waits : List LineWait
  /-- Fabric cycle up to which LFSRs and hold timers have counted. -/
  cycle : Nat
  /-- Fabric status (Table 17-11): sticky bits [3:0], and LAST_CUT. -/
  sticky : Nat
  lastCut : Nat
  /-- Hold cut-off count 0x2E06:00. -/
  cuts : Nat
  /-- Words that the last read access read, with the word number and fabric cycle of each, and whether it was port B's. -/
  lastRead : List Nat
  readAt : List (Nat × Nat)
  readB : Bool
  /-- Port B's writes that a write of port A can still meet in their cycle (R705). -/
  moves : List FabMove
  /-- Sticky bits set in a fabric cycle, and which cycle (R726). -/
  recentCycle : Nat
  recentSticky : Nat
deriving DecidableEq, Repr

/-- The fabric after a main reset (R695, R710). -/
def Fabric.initial : Fabric :=
  { mem := [], banks := (List.range 48).map fun b => ⟨b + 1, ⟨[], 0⟩, ⟨[], 0⟩⟩, seqs := [], waits := [], cycle := 0,
    sticky := 0, lastCut := 0xFF, cuts := 0, lastRead := [], readAt := [], readB := false, moves := [], recentCycle := 0,
    recentSticky := 0 }

end Sys2Proof.Machine
end

