-- ==== Sys2Proof/Machine/StateHost.lean ====
section
/-! DEFINITION. State of the host ports (spec/16_host_ports.md). -/

namespace Sys2Proof.Machine

/-- A PTP clock heard through Announce messages: port identity, ranking fields in order of comparison, announce interval in ns
and ring times of the last two Announce messages. -/
structure PtpClock where
  ident : Nat
  rank : List Nat
  interval : Nat
  prev : Option Nat
  last : Nat
deriving DecidableEq, Repr

/-- The PTP instance of a port (R686, R687). Times are in units of 2⁻¹⁶ ns. -/
structure Ptp where
  clocks : List PtpClock
  /-- Port identity of the selected master. -/
  master : Option Nat
  /-- A two-step Sync that waits for its Follow_Up: sequence, receive time, correction, interval in ns. -/
  sync : Option (Nat × Int × Int × Nat)
  /-- t2 − t1 less corrections of the last complete Sync. -/
  down : Option Int
  /-- Mean path delay. -/
  delay : Option Int
  /-- Delay_Req or Pdelay_Req under way: sequence and transmit time. -/
  request : Option (Nat × Int)
  /-- A two-step Pdelay_Resp received for it: t2, t4, correction. -/
  response : Option (Int × Int × Int)
  /-- Sequence of the next request. -/
  nextSeq : Nat
  /-- Interval at which Delay_Req is sent, in ns. -/
  interval : Nat
deriving DecidableEq, Repr

/-- Kinds of frames that a port sends. -/
inductive TxKind where
  | gratuitousArp | unsolicitedAdvertisement | arpReply | advertisement | echoReply | delayReq | pdelayReq | pdelayResp
  | pdelayRespFollowUp | trace | response | loopTest
deriving DecidableEq, Repr

/-- A frame sent: kind, destination address and UDP port (0 for none), payload of its protocol without checksums, and the tag
control information of its IEEE 802.1Q tag, 0 for an untagged frame (R676). -/
structure HostTx where
  kind : TxKind
  addr : Nat
  udp : Nat
  payload : Octets
  vlan : Nat
deriving DecidableEq, Repr

/-- One host port. -/
structure HostPort where
  /-- HPn_MODABS high. -/
  absent : Bool
  /-- HPn_LOS high. -/
  los : Bool
  /-- PCS block lock, or auto-negotiation complete. -/
  pcs : Bool
  /-- Port counts :01–:08. -/
  counts : List Nat
  /-- Millisecond of ring time of the ingress counts, and frames of each class in it. -/
  ms : Nat
  ingress : List (Nat × Nat)
  /-- Last milliseconds with a frame discarded by R684, and with a packet discarded by R688. -/
  limitMs : Option Nat
  unboundMs : Option Nat
  ptp : Ptp
  /-- Test frames sent since START (R692). -/
  loopSent : Nat
  /-- Frames sent by the last command that sent any. -/
  sent : List HostTx
deriving DecidableEq, Repr

/-- No PTP master known. -/
def Ptp.initial : Ptp :=
  { clocks := [], master := none, sync := none, down := none, delay := none, request := none, response := none, nextSeq := 0,
    interval := 1000000000 }

/-- A port after a main reset, its status reading ABSENT and LOS clear (Table 16-13). -/
def HostPort.initial : HostPort :=
  { absent := false, los := false, pcs := false, counts := List.replicate 8 0, ms := 0, ingress := [], limitMs := none,
    unboundMs := none, ptp := Ptp.initial, loopSent := 0, sent := [] }

end Sys2Proof.Machine
end

