-- ==== Sys2Proof/Machine/StateLe.lean ====
section
/-! DEFINITION. State of the loop engines, the publication board, the joints and the trace unit (spec chapters 08, 09). -/

namespace Sys2Proof.Machine

/-- One entry of the loop stack: passes that remain, first and last instruction of the body (R371). -/
structure LoopEntry where
  passes : Nat
  start : Nat
  last : Nat
  /-- LEXIT has marked it. -/
  leaving : Bool
deriving DecidableEq, Repr

/-- One register bank (Table 08-1), with the values that the next instruction sees where Table 08-5 delays them. -/
structure RegBank where
  a : BitVec 56
  b : BitVec 56
  /-- A and B as the next instruction's moves see them. -/
  aMv : BitVec 56
  bMv : BitVec 56
  x0 : BitVec 24
  x1 : BitVec 24
  y0 : BitVec 24
  y1 : BitVec 24
  p : List (BitVec 14)
  n : List (BitVec 14)
  m : List (BitVec 14)
  /-- Pn, Nn and Mn as the next instruction's addressing sees them. -/
  pV : List (BitVec 14)
  nV : List (BitVec 14)
  mV : List (BitVec 14)
  sr : BitVec 24
  /-- SR as the next instruction sees it. -/
  srV : BitVec 24
  pc : Nat
  /-- Innermost first. -/
  loops : List LoopEntry
  rets : List Nat
  /-- Repetitions of the instruction at the PC that remain (R370). -/
  rep : Nat
  /-- Delay slots still to execute (R369), the target when the branch is taken, and the branch's address when it can leave a
  LOOP body. -/
  slots : Nat
  target : Option Nat
  from_ : Option Nat
  /-- The accumulator that the last instruction's ALU operation wrote: 1 A, 2 B, 0 none. -/
  aluAcc : Nat
  /-- The boundary after the last instruction is open (R372). -/
  boundary : Bool
  /-- Instruction cycles executed (R376). -/
  cycles : Nat
deriving DecidableEq, Repr

/-- A change of law: the entry (Table 09-9), the cycle in which it takes effect, and whether a MODE command made it. -/
structure LawChange where
  entry : Nat
  cycle : Nat
  mode : Bool
deriving DecidableEq, Repr

/-- An item in an engine, with its wagon bank (Table 08-4). -/
structure Exec where
  item : Item
  ctxLen : Nat
  /-- The flow is atomic, so it has a context (R348). -/
  atomic : Bool
  /-- The context window has been filled (R348, R349). -/
  filled : Bool
  ctx : List Nat
  /-- Words of the out image that the item has written. -/
  out : List (Nat × Nat)
  /-- Scratch words of X and Y memory that the item has written (Table 08-6). -/
  wroteX : List Nat
  wroteY : List Nat
  /-- Place of the free values that the other words of the out image hold (R347). -/
  outFree : Nat
  regs : RegBank
  /-- EV100 has been raised for it (R356). -/
  lagged : Bool
  /-- Law that the item of a joint runs (R390), 0 for any other item; and the change whose hand-over item it is. -/
  law : Nat
  hand : Option LawChange
deriving DecidableEq, Repr

/-- A write-back in progress (R351). -/
structure WriteBack where
  urgent : Bool
  flow : Nat
  ctxLen : Nat
  ctx : List Nat
  origin : Nat
  /-- Out-image groups 0 to G − 1 as octets. -/
  groups : Octets
deriving DecidableEq, Repr

/-- One loop engine, with its wagon banks for normal and urgent items and the local slot (R335). -/
structure Engine where
  slot : Option Exec
  normal : Option Exec
  urgent : Option Exec
  /-- The shadow bank issues (R373). -/
  inUrgent : Bool
  halted : Bool
  /-- A BKPT has issued at a closed boundary: the halt comes at the next open one (R372, R375). -/
  haltDue : Bool
  /-- Oldest first. -/
  wbs : List WriteBack
  scrX : Words
  scrY : Words
  memFault : Bool
deriving DecidableEq, Repr

/-- The loop engines and the publication board. -/
structure LoopEngines where
  engines : List Engine
  /-- Program, X and Y images in force; octets past the end read 0. -/
  prog : Octets
  xImg : Octets
  yImg : Octets
  /-- Context lengths and execution limit in force. -/
  lens : Octets
  limit : Nat
  /-- Board reference ring in force (R383). -/
  boardRing : Nat
  /-- The four banks of publications and of references. -/
  pubs : List Words
  refs : List Words
  /-- Publications of the last cycles: cycle, board address and the flow whose item wrote it (R41, R47). -/
  writers : List (Nat × Nat × Nat)
deriving DecidableEq, Repr

/-- Context of the vendor laws (R391, R404). The spec gives it no layout, so it stands beside the context block. -/
structure LawCtx where
  pPrev : Int
  vf : Int
  integ : Int
  sPrev : Int
  satHi : Bool
  satLo : Bool
  /-- Blend in progress: d and k (R400). -/
  blend : Option (Int × Nat)
  /-- x₁, x₂, y₁, y₂ of each notch. -/
  notch1 : List Int
  notch2 : List Int
deriving DecidableEq, Repr

/-- An identification run (R411 to R414). -/
structure TuneRun where
  amp : Nat
  hold : Nat
  fv : Nat
  /-- First cycle of the run. -/
  start : Nat
  /-- Items with usable feedback so far. -/
  count : Nat
  lfsr : Nat
  /-- Items in which SAT_HI or SAT_LO was set. -/
  sat : Nat
  /-- Sums n, Σu, Σv, Σuu, Σuv, Σvv, ΣΔ, ΣuΔ, ΣvΔ. -/
  sums : List Int
  /-- The run has ended and the fit is under way. -/
  fitting : Bool
deriving DecidableEq, Repr

/-- Where a joint stands in its start, stop or fault reaction (R404, R406, R410). -/
inductive JointPhase where
  | off | capture | soft | release | run | stop | stopNext | hold
deriving DecidableEq, Repr

/-- One joint. -/
structure Joint where
  phase : JointPhase
  /-- Items counted in the phase. -/
  count : Nat
  /-- Soft-start magnitude m (R404). -/
  m : Int
  /-- Law and set in force. -/
  law : Nat
  set : Nat
  /-- Changes that wait for their hand-over items, in the order in which they were made (R398 to R402). -/
  changes : List LawChange
  ctx : LawCtx
  /-- Hold position (R388), and the position held in a fault reaction (R410). -/
  holdPos : Int
  faultPos : Int
  feTimer : Nat
  /-- Consecutive items with INVALID or MISSING posted for it (R408). -/
  missing : Nat
  /-- Drive status word of the last item with usable feedback. -/
  drive : Nat
  /-- Joint flags [6:0] of the last item (Table 09-20). -/
  flags : Nat
  /-- Publication of the last item. -/
  pub : List Nat
  /-- Joint values 01–06 (Table 09-21). -/
  vals : List Int
  /-- Cycle, v and u_c of the last two items in which the cascade ran, newest first (R412). -/
  recent : List (Nat × Int × Int)
  tune : Option TuneRun
  tuneStatus : Nat
  /-- β, α, γ of the last fit. -/
  fit : List Int
deriving DecidableEq, Repr

/-- The trace unit (R415 to R422). -/
structure Trace where
  /-- Vectors delivered: joint, cycle, words. -/
  vectors : List (Nat × Nat × List Nat)
  /-- STATE of Table 09-32. -/
  state : Nat
  /-- Octets written since START; the write position is its value modulo 2²¹. -/
  written : Nat
  /-- Buffer content from offset 0 to the highest octet written. -/
  buffer : Octets
  /-- Records held and records still to come after the trigger. -/
  held : Nat
  toCome : Nat
  /-- The last record met the trigger condition. -/
  met : Bool
  /-- A manual trigger, or the trigger event, selects the next record. -/
  now : Bool
  triggerAt : Nat
  /-- Stream mode: records that wait to be posted. -/
  unposted : List Octets
  /-- Trace blocks posted since START: the next block number. -/
  sent : Nat
deriving DecidableEq, Repr

/-- Registers at the start of an item (Table 08-1). -/
def RegBank.start (entry : Nat) : RegBank :=
  { a := 0#56, b := 0#56, aMv := 0#56, bMv := 0#56, x0 := 0#24, x1 := 0#24, y0 := 0#24, y1 := 0#24,
    p := List.replicate 8 0#14, n := List.replicate 8 0#14, m := List.replicate 8 0#14, pV := List.replicate 8 0#14,
    nV := List.replicate 8 0#14, mV := List.replicate 8 0#14, sr := 0#24, srV := 0#24, pc := entry, loops := [],
    rets := [], rep := 0, slots := 0, target := none, from_ := none, aluAcc := 0, boundary := true, cycles := 0 }

/-- An engine after a main reset. -/
def Engine.initial : Engine :=
  { slot := none, normal := none, urgent := none, inUrgent := false, halted := false, haltDue := false, wbs := [], scrX := [], scrY := [],
    memFault := false }

/-- The loop engines after a main reset. -/
def LoopEngines.initial : LoopEngines :=
  { engines := List.replicate 16 Engine.initial, prog := [], xImg := [], yImg := [], lens := [], limit := 4000,
    boardRing := 0, pubs := [[], [], [], []], refs := [[], [], [], []],
    writers := [] }

/-- The vendor context with everything zero. -/
def LawCtx.initial : LawCtx := ⟨0, 0, 0, 0, false, false, none, [0, 0, 0, 0], [0, 0, 0, 0]⟩

/-- A joint after a main reset. -/
def Joint.initial : Joint :=
  { phase := .off, count := 0, m := 0, law := 0, set := 0, changes := [], ctx := LawCtx.initial, holdPos := 0,
    faultPos := 0, feTimer := 0, missing := 0, drive := 0, flags := 0, pub := List.replicate 16 0,
    vals := [0, 0, 0, 0, 0, 0], recent := [], tune := none, tuneStatus := 0, fit := [0, 0, 0] }

/-- The trace unit after a main reset. -/
def Trace.initial : Trace :=
  { vectors := [], state := 0, written := 0, buffer := [], held := 0, toCome := 0, met := false, now := false,
    triggerAt := 0, unposted := [], sent := 0 }

end Sys2Proof.Machine
end

