-- ==== Sys2Proof/Machine/StatePlan.lean ====
section
/-! DEFINITION. State of planning and of perception (spec/10_planning_solver.md, spec/11_perception_separation.md). -/

namespace Sys2Proof.Machine

/-- A motion command that has become active: slot, kind, arm mask, path from start to target (joint counts, or a pose as
position and quaternion), path parameter σ and path speed per planning cycle (R437). -/
structure Guide where
  slot : Nat
  kind : Nat
  mask : Nat
  start : List Rat
  target : List Rat
  sigma : Rat
  rate : Rat
deriving DecidableEq, Repr

/-- A planner's view of one arm. -/
structure ArmPlan where
  /-- Held by HOLD (R433). -/
  held : Bool
  /-- A safety channel's stop request in effect since a boundary (R519). -/
  safeStop : Bool
  /-- Speed scale s in 2⁻¹⁶ (R440). -/
  scale : Nat
  /-- Its target scale was below 1 in the last cycle, or it has had none yet (Table 10-23). -/
  slowed : Bool
  /-- Its target scale is limited by S_SAT. -/
  satSlow : Bool
  /-- The arm's guide point when no command is active: tool pose or joints, and the point; none before it has one. -/
  point : Option (Bool × List Rat)
deriving DecidableEq, Repr

/-- A segment for one planning cycle (R459): per joint of the problem positions in 2⁻¹⁶ count, velocities in 2⁻¹⁷ count per
planning cycle and Q23 currents at its two ends. -/
structure Segment where
  cycle : Nat
  q0 : List Int
  v0 : List Int
  i0 : List Int
  q1 : List Int
  v1 : List Int
  i1 : List Int
  fallback : Bool
deriving DecidableEq, Repr

/-- A problem as the front stage has written it (R444): dimension, warm-start knots 0 … H in 2⁻¹⁶ count, rows of the Hessian and of
the constraints as (column, mantissa), and vectors of mantissas. -/
structure Assembled where
  dim : Nat
  warm : List (List Int)
  hess : List (List (Nat × Int))
  grad : List Int
  rows : List (List (Nat × Int))
  bound : List Int
  slack : List Int
  dual : List Int
  /-- Mass matrix and bias of R442, for τ₁ (R459). -/
  mass : List (List Rat)
  bias : List Rat
  closed : Bool
  saturated : Bool
deriving DecidableEq, Repr

/-- A problem of R428, named by its lowest arm. -/
structure Problem where
  /-- It has an accepted plan (R453). -/
  solved : Bool
  /-- Knots 0 … H of the plan in use, one list of joints per knot, in 2⁻¹⁶ count. -/
  knots : List (List Int)
  /-- v_0 of that plan, in 2⁻¹⁷ count per planning cycle (R436). -/
  v0 : List Int
  /-- Knots and currents of the plan of the previous planning cycle, as they stood at the boundary (R441, R462). -/
  before : List (List Int)
  currentBefore : List Int
  dual : List Int
  asm : Option Assembled
  /-- To be solved in the current planning cycle and not yet ended. -/
  due : Bool
  /-- Solved in the last planning cycle. -/
  valid : Bool
  iter : Nat
  ending : Nat
  fallback : Bool
  rangeSat : Bool
  pivotReg : Bool
  closed : Bool
  /-- Consecutive fallbacks (R458). -/
  falls : Nat
  /-- τ₁ at the knots as currents, for the interpolator. -/
  current : List Int
  segs : List Segment
deriving DecidableEq, Repr

/-- What the front stage takes up at a boundary (R425): planning cycle, interval T in ns, and the tag of the item on flow 112 whose
buffer holds the joint positions. -/
structure Latched where
  cycle : Nat
  interval : Nat
  tag : Nat
deriving DecidableEq, Repr

/-- The planning stages. -/
structure Plan where
  /-- Planning cycle number 0x2803:00 (R423). -/
  cycle : Nat
  /-- Planning ratio N in force (R16, Table 10-1). -/
  ratio : Nat
  /-- Last boundary that has taken place. -/
  boundary : Option Nat
  latched : Option Latched
  /-- Groups engaged in the current planning cycle (R430). -/
  engaged : Nat
  guides : List Guide
  arms : List ArmPlan
  problems : List Problem
  /-- Solves under way in this planning cycle. -/
  solving : Bool
  /-- Fallback count 0x2814:00. -/
  fallbacks : Nat
  /-- Last cycle of each ring whose reference slots are written (R461). -/
  refDone : List Nat
  /-- Last board cycle whose start has taken place. -/
  boardDone : Option Nat
deriving DecidableEq, Repr

/-- A map window that collects points (R473 to R478): window, staged hits, points accepted per sensor, window counts :01–:08. -/
structure MapWindow where
  m : Nat
  hits : List Nat
  points : List (Nat × Nat)
  counts : List Nat
deriving DecidableEq, Repr

/-- An arm's separation result (Table 11-14): DIST, CAPSULE, flags and the witness voxel. -/
structure ArmSep where
  dist : Nat
  capsule : Nat
  flags : Nat
  witness : Nat
deriving DecidableEq, Repr

/-- A window's pose set as far as the Waystation has copied it: the window, the arms that are STARTING, RUNNING or STOPPING at its
end, a position per joint (R481, R482). -/
structure PoseSet where
  m : Nat
  arms : Nat
  positions : List (Option Int)
deriving DecidableEq, Repr

/-- A window that a stage works on: the tag of the item whose buffer holds its pose set, the arms whose capsules are used, and
whether it is SILENT (R481, R482, R487). -/
structure StageWindow where
  m : Nat
  tag : Nat
  arms : Nat
  silent : Bool
deriving DecidableEq, Repr

/-- The voxel builder and the separation engine. -/
structure Perception where
  /-- Voxel states by linear index; an unlisted voxel is free (R470). -/
  map : List (Nat × Nat)
  /-- Rotation matrices of the sensors, nine Q31 entries each (R476). -/
  rot : List (List Int)
  windows : List MapWindow
  /-- The window whose acceptance closes next; at first the one that opened when the builder passed to RUNNING (R496). -/
  first : Nat
  /-- Pose sets captured for windows whose acceptance is still open (R481). -/
  poses : List PoseSet
  /-- Window whose update is in progress. -/
  updating : Option StageWindow
  /-- Last window in which a packet of each sensor was accepted, by sensor, plus 1. -/
  lastAccepted : List (Nat × Nat)
  /-- Last window updated, its occupied count, silent sensors, points accepted per sensor and window counts. -/
  window : Nat
  occ : Nat
  silent : List Nat
  sensorPoints : List (Nat × Nat)
  counts : List Nat
  /-- Window that the separation engine works on. -/
  sep : Option StageWindow
  /-- Results of recent windows, newest first. -/
  results : List (Nat × List ArmSep)
  /-- The separation engine's START has come before the update of the window it works on (R497). -/
  sepFresh : Bool
  /-- Voxel saturation count 0x2C12:00. -/
  saturations : Nat
deriving DecidableEq, Repr

/-- An arm before its first plan. -/
def ArmPlan.initial : ArmPlan := { held := false, safeStop := false, scale := 0, slowed := true, satSlow := false, point := none }

/-- A problem not solved yet (Table 10-20). -/
def Problem.initial : Problem :=
  { solved := false, knots := [], v0 := [], before := [], currentBefore := [], dual := [], asm := none, due := false, valid := false, iter := 0, ending := 5,
    fallback := false, rangeSat := false, pivotReg := false, closed := false, falls := 0, current := [], segs := [] }

/-- The planning stages after a main reset. -/
def Plan.initial : Plan :=
  { cycle := 0, ratio := 64, boundary := none, latched := none, engaged := 0, guides := [], arms := List.replicate 12 ArmPlan.initial,
    problems := List.replicate 12 Problem.initial, solving := false, fallbacks := 0, refDone := [0, 0, 0, 0],
    boardDone := none }

/-- Perception after a main reset. -/
def Perception.initial : Perception :=
  { map := [], rot := [], windows := [], first := 0, poses := [], updating := none, lastAccepted := [], window := 0, occ := 0,
    silent := [], sensorPoints := [], counts := List.replicate 8 0, sep := none, results := [], sepFresh := false,
    saturations := 0 }

end Sys2Proof.Machine
end

