-- ==== Sys2Proof/Machine/StateRing.lean ====
section
/-! DEFINITION. State of an Isadal ring as its master or its tracking unit (spec chapters 04, 05, 19). -/

namespace Sys2Proof.Machine

/-- What the ring keeps of one pannier-table entry. -/
structure RingEntry where
  /-- Setpoint area as the law last wrote it back (R352, R821). -/
  setpoint : Octets
  /-- Setpoint area last sent. -/
  sent : Octets
  /-- A write-back has made the setpoint of the next caravan ready (R25, R27). -/
  fresh : Bool
  /-- The pannier of the last caravan has returned. -/
  got : Bool
  /-- It was posted, as received or MISSING (R291, R292). -/
  posted : Bool
  /-- Node flags of the last pannier of its owner that returned with a valid CRC (Table 04-5), and whether one has since START. -/
  flags : Nat
  seen : Bool
deriving DecidableEq, Repr

/-- The caravan last sent. -/
structure Caravan where
  cycle : Nat
  /-- 1 RUN, 2 BEACON, 3 MEASURE. -/
  kind : Nat
  folded : Bool
  /-- The master also carries out the effect of a global command with it: 1 SNAPSHOT, 2 OUTPUT_RESET, 3 MODE. -/
  effect : Nat
  /-- Its head has returned on PORTxE, on PORTxW. -/
  retE : Bool
  retW : Bool
  /-- The master discards its panniers (R232, R247). -/
  discarded : Bool
  /-- Its trailer has returned. -/
  trailer : Bool
  octets : Octets
deriving DecidableEq, Repr

/-- A SERVICE_REQ that waits for slot 0. -/
structure SvcReq where
  dest : Nat
  op : Nat
  param : Nat
  value : Octets
deriving DecidableEq, Repr

/-- An outstanding SERVICE_REQ (R207). -/
structure SvcOut where
  req : SvcReq
  msg : Nat
  /-- Cycle in which it was last sent. -/
  sentAt : Nat
  resends : Nat
  /-- It is to be sent again in the next slot 0. -/
  due : Bool
deriving DecidableEq, Repr

/-- The times a node reported in a MEASURE pannier (Table 04-7). -/
structure NodeTimes where
  addr : Nat
  r : Nat
  t : Nat
  r2prev : Nat
  t2prev : Nat
deriving DecidableEq, Repr

/-- A MEASURE caravan: T_tx, T_rx and the valid panniers returned (R228 to R230). -/
structure Measure where
  cycle : Nat
  tx : Nat
  rx : Option Nat
  nodes : List NodeTimes
deriving DecidableEq, Repr

/-- What the master knows of the delay of one address. -/
structure NodeDelay where
  /-- Computations so far and the sum of 2 D in ns (R230). -/
  count : Nat
  sum2 : Int
  /-- Committed delay in ps; 0 before the first commit. -/
  delay : Nat
  /-- Unfolded delay in ps, to return to after UNFOLD (R260). -/
  base : Nat
  /-- Measured forwarding delay f in ns (R244). -/
  fwd : Int
  /-- Offset O in ps, once measured (R231). -/
  offset : Option Int
  /-- r and T_tx of the last MEASURE caravan that gave a computation (R231). -/
  lastR : Nat
  lastTx : Nat
deriving DecidableEq, Repr

/-- A global command or UNFOLD that is pending (R259, R263). -/
structure GlobalCmd where
  cmd : Nat
  arg : Nat
  target : Nat
  /-- Command acknowledge of the last valid trailer (R264). -/
  ack : Nat
  /-- First cycle whose head carries it (R259, R263). -/
  first : Nat
deriving DecidableEq, Repr

/-- A join in progress (R240): 0, 1, 2 the pair of MEASURE caravans and the RUN between; 3, 4, 5 the steps of Table 05-11. -/
structure RingJoin where
  addr : Nat
  phase : Nat
  answered : Nat
deriving DecidableEq, Repr

/-- Tracking of a ring by a unit that does not act (R783 to R788). -/
structure Tracking where
  on : Bool
  /-- Cycle, receive time and FOLDED of the last valid head. -/
  lastHead : Option (Nat × Nat × Bool)
  /-- Last delay the master was seen to write to each address, ps. -/
  seen : List Nat
  /-- Type of the last valid head: 1 RUN, 2 BEACON, 3 MEASURE, and its Period. -/
  kind : Nat
  period : Nat
deriving DecidableEq, Repr

/-- One Isadal ring. -/
structure Ring where
  /-- Number of the cycle last started since the START. -/
  cycle : Option Nat
  /-- Start step 1–5 of Table 05-11, 0 outside STARTING. -/
  step : Nat
  /-- Cycles counted in step 1; answers counted in step 5. -/
  stepCount : Nat
  /-- The first caravan with SP_VALID is still to come (R821). -/
  firstSp : Bool
  entries : List RingEntry
  caravan : Option Caravan
  /-- Courier frame sent in slot 0 of the cycle (R192). -/
  slot0 : Option Octets
  /-- Error counts 01–04 (Table 05-28). -/
  errors : List Nat
  /-- Stray counts of addresses 1–32. -/
  strays : List Nat
  /-- Master's own cuts in the current gap; cut mask returned with the last caravan (R200). -/
  cuts : Nat
  retCut : Nat
  /-- Node count of the last valid trailer, at most 255. -/
  nodes : Nat
  unexpected : Bool
  /-- Caravans are sent with FOLDED set; the east side is taken as lost (R248, R249). -/
  folded : Bool
  eastLost : Bool
  /-- A fold detected in this cycle sets FOLDED from the next (R249). -/
  foldDue : Bool
  /-- Cycle b of the heal sequence in progress (Table 05-14). -/
  heal : Option Nat
  /-- The heal sequence is that of a takeover (R790). -/
  takeover : Bool
  /-- Looped nodes found (Table 05-26). -/
  loopNear : Nat
  loopFar : Nat
  /-- Receive sync of PORTxE and PORTxW (R159). -/
  rxE : Bool
  rxW : Bool
  /-- Addresses in the order of the ring from PORTxE, once measured. -/
  order : List Nat
  /-- Until the order is known: the time from first transmit to second receive of each address seen, and the pairs of MEASURE
  caravans that wait for it (R229, R230). -/
  turns : List (Nat × Int)
  undecided : List (Measure × Measure)
  delays : List NodeDelay
  /-- Current R in ps (Table 05-27). -/
  ringDelay : Nat
  measure : Option Measure
  lastMeasure : Option Measure
  /-- MEASURE caravans requested for pairing, as cycle numbers (R787). -/
  measureAt : List Nat
  command : Option GlobalCmd
  /-- Global command target object. -/
  cmdTarget : Nat
  /-- Target T of an UNFOLD under way, and whether the caravan of T + 1 has returned on PORTxW (R259, R260). -/
  unfold : Option (Nat × Bool)
  /-- Barrier identity in progress, the first cycle whose trailer carries it, and completion cycle (R17, R266). -/
  barrier : Nat
  barrierFrom : Nat
  barrierDone : Nat
  snapshot : Octets
  svcQueue : List SvcReq
  svcOut : List SvcOut
  msgNo : Nat
  joins : List RingJoin
  /-- Consecutive cycles without a returned caravan (R256). -/
  lost : Nat
  /-- Node flags of the last returned pannier of addresses 1–32 (R207). -/
  shown : List Nat
  /-- What this unit has sent out of the ports in the roles of PORTxE and PORTxW since the cycle started: runs of octets with their
  ring times in tenths of a nanosecond, of the first code group for a head or a frame of its own, else of the last one. -/
  outE : List (Nat × Octets)
  outW : List (Nat × Octets)
  tracking : Tracking
deriving DecidableEq, Repr

/-- An address not yet measured. -/
def NodeDelay.initial : NodeDelay := ⟨0, 0, 0, 0, 0, none, 0, 0⟩

/-- A ring after a main reset. -/
def Ring.initial : Ring :=
  { cycle := none, step := 0, stepCount := 0, firstSp := false, entries := [], caravan := none, slot0 := none,
    errors := [0, 0, 0, 0], strays := List.replicate 32 0, cuts := 0, retCut := 0, nodes := 0, unexpected := false,
    folded := false, eastLost := false, foldDue := false, heal := none, takeover := false, loopNear := 0x3F,
    loopFar := 0x3F, rxE := true, rxW := true, order := [], turns := [], undecided := [], delays := List.replicate 32 NodeDelay.initial,
    ringDelay := 0, measure := none, lastMeasure := none, measureAt := [], command := none, cmdTarget := 0,
    unfold := none, barrier := 0, barrierFrom := 0, barrierDone := 0, snapshot := zeros 32784, svcQueue := [], svcOut := [], msgNo := 0,
    joins := [], lost := 0, shown := List.replicate 32 0, outE := [], outW := [],
    tracking := ⟨false, none, List.replicate 32 0, 0, 0⟩ }

end Sys2Proof.Machine
end

