-- ==== Sys2Proof/Machine/StateSafety.lean ====
section
/-! DEFINITION. State of the safety function: channels, inputs and outputs, telegrams, configuration sets (spec chapters 12
and 13). -/

namespace Sys2Proof.Machine

/-- A telegram binding (R571 to R577, Table 13-13). -/
structure SafBinding where
  /-- 1 LOST, 2 CANDIDATE, 3 ESTABLISHED. -/
  st : Nat
  /-- Sequence and ring cycle of the last accepted telegram. -/
  seq : Nat
  cyc : Nat
  /-- Telegrams accepted while ESTABLISHED, oldest first: safety cycle and octets. -/
  tels : List (Nat × Octets)
  /-- A telegram was refused since the last collection closed, and in the cycle before. -/
  refused : Bool
  refusedLast : Bool
  /-- No telegram in the last safety cycle. -/
  missing : Bool
  /-- It passed from ESTABLISHED to LOST and has not been ESTABLISHED since (R578). -/
  lost : Bool
deriving DecidableEq, Repr

/-- Safe position of a joint in the last two safety cycles, and how many valid ones in a row (R523, R575). -/
structure SafPos where
  pos : Option Int
  prev : Option Int
  run : Nat
deriving DecidableEq, Repr

/-- An arm as one channel has decided it. -/
structure ArmSafe where
  /-- 0 STO, 1 SS1, 2 SS2, 3 SOS, 4 FREE (Table 12-19). -/
  st : Nat
  /-- Safety cycle of the entry to the state. -/
  entry : Nat
  /-- |v_j| of the members at entry to SS1 or SS2. -/
  speed : List Int
  /-- q_cap of the members at entry to SOS. -/
  cap : List Int
  /-- SSM demand, and cycles in a row at or above its clearing distance (R528). -/
  ssm : Bool
  ssmClear : Nat
  /-- d of R526, held at 0xFFFF in 10 mm; none when there is nothing to measure. -/
  dist : Option Nat
  /-- Results of the last cycle: Cartesian SLS, zone, joint SLS, joint limit, SOS violated. -/
  cart : Bool
  zone : Bool
  sls : Bool
  limit : Bool
  sos : Bool
  /-- The channel asks the planner for a stop (R519). -/
  stopReq : Bool
  /-- Parked in degraded mode (R535). -/
  parked : Bool
  /-- An SSM demand with SSM_SS2 set and AUTO clear that waits for an acknowledge (R528). -/
  ssmHold : Bool
deriving DecidableEq, Repr

/-- One channel: arms, and the safety cycle it has decided last. -/
structure SafChannel where
  arms : List ArmSafe
  decided : Option Nat
deriving DecidableEq, Repr

/-- A brake test in progress (R530): arm, joints still to test with the one under test first, phase 0 to 2, current in 1/256,
start position, ring time at which the phase began. -/
structure BrakeTest where
  arm : Nat
  joints : List Nat
  phase : Nat
  current : Nat
  start : Option Int
  at_ : Nat
deriving DecidableEq, Repr

/-- Brake test result of a joint (Table 12-21): 0 never, 1 passed, 2 failed, 3 running; age in s at a ring time in ns; BRAKE_DUE. -/
structure BrakeAge where
  result : Nat
  age : Nat
  at_ : Nat
  due : Bool
deriving DecidableEq, Repr

/-- A copy of the SAFE objects in the MRAM safety area with its check value (R588). -/
structure SafCopy where
  store : List ((Nat × Nat) × Octets)
  check : Nat
deriving DecidableEq, Repr

/-- Safety inputs and outputs (spec/13_safety_io_black_channel.md). Input channels 0–15 are SIn_A, 16–31 SIn_B, 32–39 EDn;
output k is 2n for SOn_A and 2n + 1 for SOn_B. -/
structure SafIo where
  /-- Last samples and how many equal ones in a row. -/
  raw : Nat
  runs : List Nat
  /-- Filtered levels, and as frozen at the last boundary (R551, R552). -/
  filt : Nat
  frozen : Nat
  /-- Discrepancy counts, latched faults, logical values of the last cycle and of the one before (R554 to R557). -/
  disc : List Nat
  fault : Nat
  logical : Nat
  logicalPrev : Nat
  /-- Input channels whose pulse check has failed in the running cycle, and in the last one (R558). -/
  pulseFail : Nat
  pulseLast : Nat
  /-- Read-backs SOn_RBA and SOn_RBB. -/
  rba : Nat
  rbb : Nat
  /-- Read-backs, filtered EDM levels and pairs that are on, as they stood at the last boundary (R113, Table 13-12 :03). -/
  shown : Nat
  /-- Outputs in their test pulse; ring time of each output's last switching or pulse end; low samples in a row (R560, R561). -/
  pulse : Nat
  since : List Nat
  lows : List Nat
  /-- Ring time of each pair's last switching on or off (R566). -/
  pairSince : List Nat
  /-- Ring time in ns of the safety function's START (R551). -/
  started : Nat
  /-- Pairs whose EDM input has gone low since they switched on (R566), and pairs that switch on without its check (R791). -/
  edmLow : Nat
  edmWaive : Nat
deriving DecidableEq, Repr

/-- The safety configuration (R582 to R590). -/
structure SafSet where
  /-- Stored check value of the set in force. -/
  force : Option Nat
  /-- Pending set: session and values. -/
  pending : Option (Nat × List ((Nat × Nat) × Octets))
  /-- A commit in progress. -/
  commit : Option SafCopy
  /-- Commission state 0xA005:00. -/
  state : Nat
  /-- The MRAM safety area and its marker: copy A is current. -/
  copyA : Option SafCopy
  copyB : Option SafCopy
  markerA : Bool
deriving DecidableEq, Repr

/-- The safety function. -/
structure Safety where
  /-- Outputs SOn_A and SOn_B that are on. -/
  soA : BitVec 8
  soB : BitVec 8
  io : SafIo
  set : SafSet
  bindings : List SafBinding
  /-- Safety cycle under evaluation, and whether its telegrams are closed (Table 12-3). -/
  cycle : Option Nat
  closed : Bool
  joints : List SafPos
  /-- Occupied bricks of the cycle under evaluation: their number and, up to 2 048 of them, which (R524, R525). -/
  occCount : Nat
  occ : List Nat
  chA : SafChannel
  chB : SafChannel
  /-- Per arm: a safety telegram of a member was missing (R523). -/
  posLost : List Bool
  /-- Host stop requests as frozen for the cycle; acknowledges accepted, and as frozen (R546). -/
  hostStop : List Nat
  acks : Nat
  acksNow : Nat
  /-- Cycles in a row with a tolerant difference, per arm and field (R509). -/
  disagree : List Nat
  /-- Per arm: its channels' states differ after a tolerant difference. -/
  tolerated : List Bool
  /-- Degraded mode: first cause, and ring time of its entry. -/
  degraded : Option (Nat × Nat)
  /-- The degraded timer has expired (R536). -/
  degExpired : Bool
  /-- Events already raised for an arm in the cycle under evaluation. -/
  raised : List (Nat × Nat)
  brake : Option BrakeTest
  /-- Per arm: BRAKE_FAIL, and the joints that have passed since. -/
  brakeFail : List Bool
  brakePassed : List (List Nat)
  ages : List BrakeAge
  /-- Ages in MRAM (R532). -/
  agesStored : List Nat
  /-- A channel has found a fault of its own and stopped its wave; a cross line shows no edge (R503 to R505). -/
  faultA : Bool
  faultB : Bool
  lostXA : Bool
  lostXB : Bool
deriving DecidableEq, Repr

/-- A binding that is LOST. -/
def SafBinding.initial : SafBinding := ⟨1, 0, 0, [], false, false, false, false⟩

/-- An arm in STO. -/
def ArmSafe.initial : ArmSafe :=
  { st := 0, entry := 0, speed := [], cap := [], ssm := false, ssmClear := 0, dist := none, cart := false, zone := false,
    sls := false, limit := false, sos := false, stopReq := false, parked := false, ssmHold := false }

/-- A channel with every arm in STO. -/
def SafChannel.initial : SafChannel := ⟨List.replicate 12 ArmSafe.initial, none⟩

/-- No position known. -/
def SafPos.initial : SafPos := ⟨none, none, 0⟩

/-- Age of a joint that has never passed a brake test (R532). -/
def neverPassed : Nat := 0x3FFFFFFF

/-- Inputs and outputs with everything low and off. -/
def SafIo.initial : SafIo :=
  { raw := 0, runs := List.replicate 40 0, filt := 0, frozen := 0, disc := List.replicate 16 0, fault := 0, logical := 0,
    logicalPrev := 0, pulseFail := 0, pulseLast := 0, rba := 0, rbb := 0, shown := 0, pulse := 0, since := List.replicate 16 0, pairSince := List.replicate 8 0,
    lows := List.replicate 16 0, started := 0, edmLow := 0, edmWaive := 0 }

/-- A part that has never been commissioned (R589). -/
def SafSet.initial : SafSet :=
  { force := none, pending := none, commit := none, state := 0, copyA := none, copyB := none, markerA := true }

/-- The safety function after a reset. -/
def Safety.initial : Safety :=
  { soA := 0#8, soB := 0#8, io := SafIo.initial, set := SafSet.initial, bindings := List.replicate 104 SafBinding.initial,
    cycle := none, closed := false, joints := List.replicate 96 SafPos.initial, occCount := 0, occ := [],
    chA := SafChannel.initial, chB := SafChannel.initial, posLost := List.replicate 12 false,
    hostStop := List.replicate 12 0, acks := 0, acksNow := 0, disagree := List.replicate 36 0,
    tolerated := List.replicate 12 false, degraded := none, degExpired := false, raised := [], brake := none,
    brakeFail := List.replicate 12 false, brakePassed := List.replicate 12 [],
    ages := List.replicate 96 ⟨0, neverPassed, 0, false⟩, agesStored := List.replicate 96 neverPassed, faultA := false,
    faultB := false, lostXA := false, lostXB := false }

end Sys2Proof.Machine
end

