-- ==== Sys2Proof/Machine/State.lean ====
section
/-! DEFINITION. The state of the CX9612 as a block, the reasons a step can stop, and the state right after reset. -/

namespace Sys2Proof.Machine

/-- The CX9612. Plain data: the queue of waiting commands and every piece of state the spec names. -/
structure State where
  /-- Commands that wait, first in first out (the model's own queue). -/
  pending : List Instr
  power : Power
  time : TimeBase
  /-- Function states and fault codes, at `Fn.slot` (Tables 03-5, 03-7). -/
  fns : List FnRec
  dict : Dict
  way : Waystation
  ledger : Ledger
  sensors : Sensors
  fw : Firmware
  sec : Security
  pair : Pairing
  tap : Tap
  rings : List Ring
  le : LoopEngines
  joints : List Joint
  trace : Trace
  aux : AuxUnit
  plan : Plan
  per : Perception
  saf : Safety
  ports : List HostPort
  cans : List Can
  fab : Fabric
  /-- Draws of free values so far: the model's own counter, not the spec's (assumption log 1). -/
  free : Nat
deriving DecidableEq, Repr

/-- No command of this block stops the machine with a fault: the spec gives every command an effect or none. -/
inductive Fault where
deriving DecidableEq, Repr

/-- Why a command is refused by the model. -/
inductive Refusal where
  /-- Raised by `exec` for a command that has no meaning yet; safe. -/
  | notModelled (mnemonic : String)
deriving DecidableEq, Repr

/-- Supplies at power-on: the companion die in reset (R60, R66). -/
def Power.initial : Power :=
  { railsOk := true, clockOk := true, compReset := true, pwrEn := false, pgood := false, pgFails := 0, retry := false,
    releasing := false, mainReset := true, deviceReset := true, pllLocked := false, mgmtUp := false,
    resetOutHigh := false, xspiResetHigh := false, cause := 1, mode := 0, wakeTo := 0, mramOk := true, testMode := false, thermal := false,
    cm2Short := [], resetAsked := none, ringPllIdle := false }

/-- The time base after a main reset (R274). -/
def TimeBase.initial : TimeBase :=
  { ticking := false, ringNs := 0, sec := 0, ns := 0, sub := 0, inc := 2 ^ 49, pendStep := none, pendInc := none,
    ppsOut := false, pairSec := 0, pairNs := 0, pairRing := 0, mode := 0, disc := 0, y := 0, thetaLast := 0, offset := 0,
    discards := 0, accepted := false, lockRun := 0, announced := false }

/-- A free mailbox slot. -/
def MboxSlot.initial : MboxSlot := ⟨0, [], 0, 0, 0, 0, false⟩

/-- The dictionary at power-on. -/
def Dict.initial : Dict :=
  { store := [], sessions := [], reqAt := [], copyA := ⟨false, []⟩, copyB := ⟨false, []⟩, markerA := true,
    storing := none, storeStatus := 0, lastReply := none, mbox := List.replicate 64 MboxSlot.initial, mboxOrder := 0,
    parametersLoaded := false }

/-- The Waystation with no item and the default table (R330, Table 07-9, R814). -/
def Waystation.initial : Waystation :=
  { queue := [], delayed := [], positions := List.replicate 112 none, finished := [], gates := [], held := [], pend := 0#512,
    sticky := 0, recentCycle := 0, recentEvents := 0#512, recentSticky := 0, table := (List.range 1040).map wayDfltOctet, ticks := [0, 0, 0, 0] }

/-- An empty Ledger (R738). -/
def Ledger.initial : Ledger :=
  { records := [], next := 0, cursor := 0, chain := zeros 8, queue := [], lost := 0, repeats := [] }

/-- Sensors before the first reading. -/
def Sensors.initial : Sensors :=
  { temps := List.replicate 24 0, volts := List.replicate 16 0, tempWarn := false, tempWarnCount := 0, voltWarn := false,
    mainAlarm := false, mainCount := 0, safaAlarm := false, safaCount := 0, compAlarm := false, compCount := 0,
    derate := 0, derate1Count := 0, derate2Count := 0, derateInForce := 0 }

/-- Flash with both slots EMPTY (assumption log 15). -/
def Firmware.initial : Firmware :=
  { flash := [], slots := [⟨0, 0, 0⟩, ⟨0, 0, 0⟩], running := none, hold := false, version := 0, floor := 0, update := 0,
    programming := none, progWritten := [], erased := [], autoStart := [], autoLast := none }

/-- The security subsystem of a part in BLANK (R125). -/
def Security.initial : Security :=
  { keys := List.replicate 8 none, stored := some ⟨2, true, []⟩ :: List.replicate 7 none, epoch := zeros 32,
    vaultReadable := true, tampered := false, sensors := 0, attIndex := 0, attStatus := 0, challenge := zeros 32,
    statement := zeros 9981, lifeCycle := 0, returnChallenge := zeros 32, authorised := none, transition := none,
    changed := false, secretDestroyed := false }

/-- Pairing after a device reset (R785, Table 19-7). -/
def Pairing.initial : Pairing :=
  { actvO := false, actvI := false, pairSel := false, acting := false, armed := false, mismatch := false, theta := 0,
    q := [none, none, none, none], lastMismatch := none, releasePending := false, testPending := false,
    testRunning := false, testFailed := false, testResult := 0, takeoverDue := false, takeover := none }

/-- The test access port after its reset: IDCODE (IEEE 1149.1). -/
def Tap.initial : Tap :=
  { ir := 1, granted := true, boundary := 0#1048, bypass := false, offset := 0, word := 0, status := 0, busy := false }

/-- The machine right after reset: a power-on device reset is asserted, the companion die in reset, the main die held in
reset with MAIN_PWR_EN low, cause 0x00000001, every function STOPPED and no command waiting. -/
def State.reset : State :=
  { pending := [], power := Power.initial, time := TimeBase.initial, fns := List.replicate Fn.count ⟨.stopped, 0⟩,
    dict := Dict.initial, way := Waystation.initial, ledger := Ledger.initial, sensors := Sensors.initial,
    fw := Firmware.initial, sec := Security.initial, pair := Pairing.initial, tap := Tap.initial,
    rings := List.replicate 4 Ring.initial, le := LoopEngines.initial,
    joints := List.replicate 96 Joint.initial, trace := Trace.initial, aux := AuxUnit.initial, plan := Plan.initial, per := Perception.initial, saf := Safety.initial,
    ports := List.replicate 2 HostPort.initial, cans := List.replicate 4 Can.initial, fab := Fabric.initial,
    free := 0 }

end Sys2Proof.Machine
end

