-- ==== Sys2Proof/Machine/Ops.lean ====
section
/-! DEFINITION. Operations every chapter shares: values in force, functions, events, the Ledger, items, time. -/

namespace Sys2Proof.Machine

/-! ### Parts of the state -/

def State.onPower (s : State) (f : Power → Power) : State := { s with power := f s.power }
def State.onTime (s : State) (f : TimeBase → TimeBase) : State := { s with time := f s.time }
def State.onDict (s : State) (f : Dict → Dict) : State := { s with dict := f s.dict }
def State.onWay (s : State) (f : Waystation → Waystation) : State := { s with way := f s.way }
def State.onLedger (s : State) (f : Ledger → Ledger) : State := { s with ledger := f s.ledger }
def State.onSensors (s : State) (f : Sensors → Sensors) : State := { s with sensors := f s.sensors }
def State.onFw (s : State) (f : Firmware → Firmware) : State := { s with fw := f s.fw }
def State.onSec (s : State) (f : Security → Security) : State := { s with sec := f s.sec }
def State.onPair (s : State) (f : Pairing → Pairing) : State := { s with pair := f s.pair }
def State.onTap (s : State) (f : Tap → Tap) : State := { s with tap := f s.tap }
def State.onPlan (s : State) (f : Plan → Plan) : State := { s with plan := f s.plan }
def State.onPer (s : State) (f : Perception → Perception) : State := { s with per := f s.per }
def State.onSaf (s : State) (f : Safety → Safety) : State := { s with saf := f s.saf }
def State.onRing (s : State) (n : Nat) (f : Ring → Ring) : State := { s with rings := upd s.rings n f }

def State.onLe (s : State) (f : LoopEngines → LoopEngines) : State := { s with le := f s.le }
def State.onEngine (s : State) (k : Nat) (f : Engine → Engine) : State :=
  s.onLe fun l => { l with engines := upd l.engines k f }
def State.onJoint (s : State) (j : Nat) (f : Joint → Joint) : State := { s with joints := upd s.joints j f }
def State.onTrace (s : State) (f : Trace → Trace) : State := { s with trace := f s.trace }

def State.onAux (s : State) (f : AuxUnit → AuxUnit) : State := { s with aux := f s.aux }
def State.onAxis (s : State) (k : Nat) (f : Axis → Axis) : State :=
  s.onAux fun u => { u with axes := upd u.axes k f }
def State.onGroup (s : State) (g : Nat) (f : PwmGroup → PwmGroup) : State :=
  s.onAux fun u => { u with groups := upd u.groups g f }
def State.onFeedback (s : State) (n : Nat) (f : Feedback → Feedback) : State :=
  s.onAux fun u => { u with feedbacks := upd u.feedbacks n f }

def State.onPort (s : State) (n : Nat) (f : HostPort → HostPort) : State := { s with ports := upd s.ports n f }

def State.onCan (s : State) (n : Nat) (f : Can → Can) : State := { s with cans := upd s.cans n f }

/-- CAN controller CAN`n`. -/
def State.can (s : State) (n : Nat) : Can := nth s.cans n Can.initial

/-- Host port HP`n`. -/
def State.port (s : State) (n : Nat) : HostPort := nth s.ports n HostPort.initial

/-- Auxiliary axis AX`k`. -/
def State.axis (s : State) (k : Nat) : Axis := nth s.aux.axes k Axis.initial

/-- PWM group G`g`. -/
def State.group (s : State) (g : Nat) : PwmGroup := nth s.aux.groups g PwmGroup.initial

/-- Feedback input FB`n`. -/
def State.feedback (s : State) (n : Nat) : Feedback := nth s.aux.feedbacks n Feedback.initial

/-- Engine LE`k`. -/
def State.engine (s : State) (k : Nat) : Engine := nth s.le.engines k Engine.initial

/-- Joint J`j`. -/
def State.joint (s : State) (j : Nat) : Joint := nth s.joints j Joint.initial

/-- Ring `n`. -/
def State.ring (s : State) (n : Nat) : Ring := nth s.rings n Ring.initial

/-! ### Values of objects -/

/-- A value in a sorted store, if listed. -/
def storeGet (st : List ((Nat × Nat) × Octets)) (k : Nat × Nat) : Option Octets :=
  match st with
  | [] => none
  | e :: r => if e.1 = k then some e.2 else storeGet r k

/-- Order of object names. -/
def keyLt (a b : Nat × Nat) : Bool := a.1 < b.1 || (a.1 == b.1 && a.2 < b.2)

/-- A store with the name removed. -/
def storeErase (st : List ((Nat × Nat) × Octets)) (k : Nat × Nat) : List ((Nat × Nat) × Octets) :=
  st.filter (fun e => e.1 != k)

/-- A store with a value put at its place in rising order. -/
def storeInsert (st : List ((Nat × Nat) × Octets)) (k : Nat × Nat) (v : Octets) : List ((Nat × Nat) × Octets) :=
  match st with
  | [] => [(k, v)]
  | e :: r => if keyLt k e.1 then (k, v) :: e :: r else if e.1 = k then (k, v) :: r else e :: storeInsert r k v

/-- A store with the value of an object written: a value equal to the default leaves no entry. -/
def storePut (st : List ((Nat × Nat) × Octets)) (k : Nat × Nat) (v : Octets) : List ((Nat × Nat) × Octets) :=
  if v = dfltOctets k.1 k.2 then storeErase st k else storeInsert st k v

/-- Value of a stored object: what was last written, else its default (Default row). -/
def State.obj (s : State) (idx sub : Nat) : Octets :=
  match storeGet s.dict.store (idx, sub) with
  | some v => v
  | none => dfltOctets idx sub

/-- One octet of a stored object. -/
def State.objOctet (s : State) (idx sub i : Nat) : Nat :=
  match storeGet s.dict.store (idx, sub) with
  | some v => u8At v i
  | none =>
    match cardAt idx sub with
    | some c => if i < c.dfltLen then (c.dfltOctet i).toNat else 0
    | none => 0

/-- Unsigned number of `n` octets at an offset of a stored object. -/
def State.objNat (s : State) (idx sub off n : Nat) : Nat :=
  (List.range n).foldr (fun i acc => s.objOctet idx sub (off + i) + 256 * acc) 0

/-- A stored object's value as an unsigned number. -/
def State.cfg (s : State) (idx sub : Nat) : Nat := leNat (s.obj idx sub)

/-- A stored object's value as a `w`-bit signed number. -/
def State.cfgInt (s : State) (w idx sub : Nat) : Int := toSigned w (s.cfg idx sub)

/-- Write a stored object. -/
def State.putObj (s : State) (idx sub : Nat) (v : Octets) : State :=
  s.onDict fun d => { d with store := storePut d.store (idx, sub) v }

/-! ### Free values -/

/-- A fresh free value (assumption log 1). -/
def State.draw (s : State) : Nat × State := (Config.freeNat s.free, { s with free := s.free + 1 })

/-- `n` fresh free octets, as the entropy source gives them (assumption log 1). -/
def State.drawOctets (s : State) (n : Nat) : Octets × State :=
  ((List.range n).map fun i => BitVec.ofNat 8 (Config.freeNat (s.free + i)), { s with free := s.free + n })

/-! ### The Bazaar -/

def State.onFab (s : State) (f : Fabric → Fabric) : State := { s with fab := f s.fab }

/-- Octets written into words from an octet offset on. -/
def bazWrite (m : Words) (off : Nat) (o : Octets) : Words :=
  (o.zipIdx).foldl (fun m x =>
    let a := off + x.2
    let sh := 8 * (a % 8)
    let w := wordAt m (a / 8)
    wordPut m (a / 8) (w - field w (sh + 7) sh * 2 ^ sh + x.1.toNat * 2 ^ sh)) m

/-- Word `i` of the context block of a flow (Table 17-2). -/
def State.ctxWord (s : State) (flow i : Nat) : Nat :=
  let a := 0x080000 + 0x100 * flow + 4 * i
  (wordAt s.fab.mem (a / 8) >>> (8 * (a % 8))) % 2 ^ 24

/-- Words written to the context block of a flow (Table 17-2). -/
def State.putCtx (s : State) (flow : Nat) (w : List Nat) : State :=
  s.onFab fun f => { f with mem := bazWrite f.mem (0x080000 + 0x100 * flow) (w.flatMap fun x => toLE 3 x ++ [0#8]) }

/-- Every context block cleared (R381). -/
def State.clearCtx (s : State) : State :=
  s.onFab fun f => { f with mem := f.mem.filter fun e => !(decide (0x10000 ≤ e.1) && decide (e.1 < 0x18000)) }

/-- Receive buffer of pannier-table entry `e` of ring `n` in cycle `c` (Table 17-2). -/
def ringSlot (n e c : Nat) : Nat := 0x20000 * n + 0x400 * e + 0x100 * (c % 4)

/-- Entry `w` of the window table is used and holds an octet offset (Table 17-8, R701). -/
def State.inWindow (s : State) (a : Nat) : Bool :=
  let t := s.obj 0x2E03 0
  (List.range 16).any fun w =>
    let b := u32At t (16 * w)
    bitAt (u8At t (16 * w + 8)) 0 && decide (b ≤ a) && decide (a < b + u32At t (16 * w + 4))

/-! ### Functions -/

/-- Record of a function. -/
def State.fn (s : State) (f : Fn) : FnRec := nth s.fns f.slot ⟨.stopped, 0⟩

/-- State of a function (Table 03-5). -/
def State.fnSt (s : State) (f : Fn) : FnState := (s.fn f).st

/-- The function is RUNNING. -/
def State.isRunning (s : State) (f : Fn) : Bool := s.fnSt f == .running

/-- The function is STOPPED. -/
def State.isStopped (s : State) (f : Fn) : Bool := s.fnSt f == .stopped

/-- The function is STARTING or RUNNING. -/
def State.isActive (s : State) (f : Fn) : Bool := (s.fnSt f).active

/-- A function's state changed, its fault code kept (R811). -/
def State.setFn (s : State) (f : Fn) (st : FnState) : State :=
  { s with fns := upd s.fns f.slot fun r => { r with st := st } }

/-- A function's record replaced. -/
def State.setFnRec (s : State) (f : Fn) (r : FnRec) : State := { s with fns := upd s.fns f.slot fun _ => r }

/-- What a read of the word at word number `w` returns (R699, R701). -/
def State.bazRead (s : State) (w : Nat) : Nat :=
  if 0x180000 ≤ w then 0
  else if 0xC0000 ≤ w ∧ !(s.isRunning .fabric && s.inWindow (8 * w)) then 0
  else wordAt s.fab.mem w

/-- `len` octets that reads from an octet offset on return. -/
def State.bazOctets (s : State) (off len : Nat) : Octets :=
  (List.range len).map fun i => numOctet (s.bazRead ((off + i) / 8)) ((off + i) % 8)

/-! ### Ring tables -/

/-- Number of entries E of ring `n`'s pannier table (Table 05-5). -/
def State.ringEntries (s : State) (n : Nat) : Nat := s.objOctet (0x3010 + 0x200 * n) 0 0

/-- Entry `e` of ring `n`'s pannier table (Table 05-6). -/
structure PanEntry where
  addr : Nat
  sub : Nat
  len : Nat
  split : Nat
  profile : Nat
  flags : Nat
  bind : Nat
deriving DecidableEq, Repr

/-- The entry that stands in the pannier table at position `e`. -/
def State.panEntry (s : State) (n e : Nat) : PanEntry :=
  let g := fun i => s.objOctet (0x3010 + 0x200 * n) 0 (4 + 8 * e + i)
  ⟨g 0, g 1, 8 * g 2, g 3, g 4, g 5, g 6 + 256 * g 7⟩

/-- All entries of ring `n`'s pannier table, in caravan order (R224). -/
def State.panTable (s : State) (n : Nat) : List PanEntry :=
  (List.range (s.ringEntries n)).map fun e => s.panEntry n e

/-- The addresses of a pannier table, each once, in the order of the table. -/
def addressesOf (t : List PanEntry) : List Nat :=
  t.foldl (fun acc e => if acc.contains e.addr then acc else acc ++ [e.addr]) []

/-- Courier slot length λ_a of ring `n` in ns. -/
def State.slotLen (s : State) (n a : Nat) : Nat :=
  s.objNat (0x3010 + 0x200 * n) 0 (4 + 8 * s.ringEntries n + 2 * a) 2

/-- Cycle period P of ring `n` in ns. -/
def State.period (s : State) (n : Nat) : Nat := s.cfg (0x3001 + 0x200 * n) 0

/-- Ring and position of the Profile 1 entry bound to joint `j`. -/
def State.jointEntry (s : State) (j : Nat) : Option (Nat × Nat) :=
  (List.range 4).findSome? fun n =>
    ((s.panTable n).zipIdx.find? fun x => x.1.profile == 1 && x.1.bind == j).map fun x => (n, x.2)

/-- Members of arm `a` (Table 09-1): the joints of its chain. -/
def State.members (s : State) (a : Nat) : List Nat :=
  ((s.obj (0x5001 + 0x40 * a) 0).map (·.toNat)).filter (· != 0xFF)

/-- The functions that must be RUNNING before START (Table 03-4). -/
def State.prereqs (s : State) : Fn → List Fn
  | .waystation => [.timeBase]
  | .loopEngines => [.waystation]
  | .front => [.waystation]
  | .solver => [.front]
  | .interp => [.solver, .loopEngines]
  | .planner => [.interp, .separation]
  | .voxel => [.timeBase]
  | .separation => [.voxel]
  | .trace => [.waystation]
  | .ring _ => [.timeBase, .waystation]
  | .pairing => (bitsOf 4 (field (s.cfg 0x1C01 0) 3 0)).map .ring
  | .arm a => (s.members a).map .joint ++ [.planner]
  | .joint j =>
    match s.jointEntry j with
    | some x => [.ring x.1, .loopEngines]
    | none => [.loopEngines]
  | .axis k =>
    let fb := field (s.cfg (0x7001 + 0x40 * k) 0) 16 12
    if fb ≤ 15 then [.feedback fb] else []
  | .pwm _ => [.loopEngines]
  | _ => []

/-- The functions that list `f` as a prerequisite (R103, R104). -/
def State.dependents (s : State) (f : Fn) : List Fn := Fn.all.filter fun g => (s.prereqs g).contains f

/-! ### Cycle numbers -/

/-- Ring time at the start of cycle `c` with period `p` (R221). -/
def cycleStart (p c : Nat) : Nat := 8 * (c * p / 8)

/-- The cycle that runs at ring time `t` with period `p` (R221). -/
def cycleAt (p t : Nat) : Nat :=
  if p = 0 then 0 else
  let c := t / p
  if cycleStart p (c + 1) ≤ t then c + 1 else c

/-- The pairing offset in ns by which the board's ring time runs ahead of the unit's own: on an acting unit, and on one whose
pairing function is RUNNING (R785). -/
def State.thetaNs (s : State) : Int := if s.pair.acting || s.isRunning .pairing then s.pair.theta / 1000 else 0

/-- Ring time, or paired time on a paired unit (R785), in ns. -/
def State.now (s : State) : Nat := ((s.time.ringNs : Int) + s.thetaNs).toNat

/-- Control clock cycle at the present instant: 400 MHz from the same PLL (Table 02-11). -/
def State.controlCycle (s : State) : Nat := s.time.ringNs * 2 / 5

/-- The board reference ring in force (0x2406:00). -/
def State.boardRing (s : State) : Nat := s.le.boardRing

/-- Number of the current cycle of the board reference ring (R383). -/
def State.boardCycle (s : State) : Nat := cycleAt (s.period s.boardRing) s.now

/-! ### The Ledger -/

/-- A record formed for a planning cycle: it waits in the queue, or is dropped and counted when the queue is full (R138, R740). -/
def State.recordAt (s : State) (cycle kind source : Nat) (payload : Octets) : State :=
  s.onLedger fun l =>
    if l.queue.length < 4096 then
      { l with queue := l.queue ++ [⟨s.time.sec, s.time.ns, cycle, kind, source, padTo 24 payload⟩] }
    else { l with lost := l.lost + 1 }

/-- A record formed for the present planning cycle. -/
def State.record (s : State) (kind source : Nat) (payload : Octets) : State := s.recordAt s.plan.cycle kind source payload

/-- The record of an event with LEDGER set (R739). -/
def State.recordEvent (s : State) (ev : Nat) : State :=
  match s.ledger.repeats.find? (·.event == ev) with
  | some r =>
    if r.plan = s.plan.cycle then
      s.onLedger fun l =>
        { l with repeats := l.repeats.map fun x => if x.event == ev then { x with count := x.count + 1 } else x }
    else
      let s1 := s.record 0x0002 ev (toLE 4 s.boardCycle ++ toLE 4 r.count)
      s1.onLedger fun l =>
        { l with repeats := l.repeats.map fun x => if x.event == ev then ⟨ev, s.plan.cycle, 0⟩ else x }
  | none =>
    let s1 := s.record 0x0002 ev (toLE 4 s.boardCycle ++ toLE 4 0)
    s1.onLedger fun l => { l with repeats := l.repeats ++ [⟨ev, s.plan.cycle, 0⟩] }

/-! ### Flows and items -/

/-- Consumer classes in the order of Table 07-3. -/
inductive Consumer where
  | loopEngine | front | solver | interp | voxel | separation | management | trace
deriving DecidableEq, Repr

/-- What a flow is (Tables 07-2 and 07-11). -/
structure FlowInfo where
  cls : Consumer
  atomic : Bool
  priority : Nat
  capacity : Nat
  entry : Nat
deriving DecidableEq, Repr

/-- F, G and E of the Waystation table in force (Table 07-10). -/
def wayF (t : Octets) : Nat := u16At t 0
def wayG (t : Octets) : Nat := u16At t 2
def wayE (t : Octets) : Nat := u16At t 4

/-- Offset of flow entry `i` (Table 07-10). -/
def flowOff (i : Nat) : Nat := 1040 + 8 * i

/-- Offset of gate entry `g`. -/
def gateOff (t : Octets) (g : Nat) : Nat := 1040 + 8 * wayF t + 8 * g

/-- Offset of edge `e`. -/
def edgeOff (t : Octets) (e : Nat) : Nat := 1040 + 8 * wayF t + 8 * wayG t + 4 * e

/-- A fixed flow of Table 07-2. -/
def fixedFlow (f : Nat) : Option FlowInfo :=
  if f ≤ 95 then some ⟨.loopEngine, true, 6, 4, 0⟩
  else if f ≤ 103 then some ⟨.loopEngine, true, 6, 4, 0⟩
  else if f = 112 then some ⟨.front, true, 5, 2, 0⟩
  else if f = 113 then some ⟨.solver, false, 5, 32, 0⟩
  else if f = 114 then some ⟨.interp, true, 5, 2, 0⟩
  else if f = 115 then some ⟨.voxel, true, 5, 2, 0⟩
  else if f = 116 then some ⟨.separation, false, 5, 8, 0⟩
  else if f = 117 then some ⟨.front, true, 5, 2, 0⟩
  else if f = 118 then some ⟨.management, true, 3, 16, 0⟩
  else if f = 119 then some ⟨.management, true, 4, 64, 0⟩
  else if f = 120 then some ⟨.trace, false, 2, 16, 0⟩
  else none

/-- Position of a configured flow in a Waystation table. -/
def flowIndex (t : Octets) (f : Nat) : Option Nat :=
  (List.range (wayF t)).find? fun i => u16At t (flowOff i) == f

/-- A flow that exists: fixed, or configured by the table (R293). -/
def flowInfo (t : Octets) (f : Nat) : Option FlowInfo :=
  if f < 128 then fixedFlow f
  else (flowIndex t f).map fun i =>
    let k := u8At t (flowOff i + 2)
    ⟨.loopEngine, bitAt k 7, field k 2 0, u16At t (flowOff i + 4), u16At t (flowOff i + 6)⟩

/-- Items of a flow in service. -/
def Waystation.inService (w : Waystation) (f : Nat) : Nat :=
  (w.positions.filter fun p => match p with | some i => i.flow == f | none => false).length +
  (w.finished.filter fun x => x.2.1.flow == f).length

/-- Items of a flow that are queued or on a delay list. -/
def Waystation.waiting (w : Waystation) (f : Nat) : Nat :=
  (w.queue.filter fun q => q.item.flow == f).length + (w.delayed.filter fun d => d.item.flow == f).length

/-- Items of a flow that count against its capacity (R296). -/
def Waystation.load (w : Waystation) (f : Nat) : Nat := w.waiting f + w.inService f

/-- The flow exists and has room (R296). -/
def Waystation.hasRoom (w : Waystation) (f : Nat) : Bool :=
  match flowInfo w.table f with
  | some i => w.load f < i.capacity
  | none => false

/-- Mark the head of each flow's queue that has become ready in control cycle `now` (R300). `seen` lists flows whose head
came earlier in the queue. -/
def markReady (w : Waystation) (now : Nat) : List Nat → List Queued → List Queued
  | _, [] => []
  | seen, q :: r =>
    let f := q.item.flow
    if seen.contains f then { q with ready := none } :: markReady w now seen r
    else
      let ok := match flowInfo w.table f with
        | some i => !i.atomic || w.inService f == 0
        | none => false
      let q' := if ok then { q with ready := some (q.ready.getD now) } else { q with ready := none }
      q' :: markReady w now (f :: seen) r

/-- First service position of a class and how many it has (R297, Table 07-3). -/
def Consumer.places : Consumer → Nat × Nat
  | .loopEngine => (0, 48) | .front => (48, 8) | .solver => (56, 32) | .interp => (88, 8) | .voxel => (96, 4)
  | .separation => (100, 8) | .management => (108, 2) | .trace => (110, 2)

/-- The ready marks brought up to date after a change of queue or positions (R295, R300). -/
def State.refreshReady (s : State) : State :=
  s.onWay fun w => { w with queue := markReady w s.controlCycle [] w.queue }

/-- A queued item comes before another of its flow: posted in an earlier control cycle, or of lower rank in the same one. -/
def Queued.before (a b : Queued) : Bool :=
  a.item.flow == b.item.flow && (decide (a.cycle < b.cycle) || (a.cycle == b.cycle && decide (a.rank < b.rank)))

/-- An item put into the queue behind every item of its flow that does not come after it (R294). -/
def insertQueued (q : Queued) : List Queued → List Queued
  | [] => [q]
  | x :: r => if q.before x then q :: x :: r else x :: insertQueued q r

/-- An item posted in a control cycle with a rank among the posts of that cycle (R294, R299). It counts as posted then: an item
that no pannier made takes its cycle number from the board reference ring (R346). -/
def State.enqueueAt (s : State) (cycle rank : Nat) (it : Item) : State :=
  let it := if 0x800 ≤ it.origin ∧ it.origin < 0xA00 then it else { it with cyc := s.boardCycle }
  (s.onWay fun w => { w with queue := insertQueued ⟨it, none, cycle, rank, false⟩ w.queue }).refreshReady

/-- An item posted now. The four delay lists come first in a control cycle, then the posts in ascending Origin (R299). -/
def State.enqueue (s : State) (it : Item) : State := s.enqueueAt s.controlCycle (4 + it.origin) it

/-- Events raised and sticky bits set in a control cycle, noted for R326 and R333. -/
def Waystation.note (w : Waystation) (cycle : Nat) (ev : BitVec 512) (m : Nat) : Waystation :=
  if w.recentCycle = cycle then
    { w with recentEvents := w.recentEvents ||| ev, recentSticky := setBits w.recentSticky m }
  else { w with recentCycle := cycle, recentEvents := ev, recentSticky := m }

/-- Sticky bits of the Waystation status set (Table 07-16). -/
def State.setSticky (s : State) (m : Nat) : State :=
  s.onWay fun w => ({ w with sticky := setBits w.sticky m }).note s.controlCycle 0#512 m

/-- Route entry of an event in the table in force (R814). -/
def Waystation.route (w : Waystation) (ev : Nat) : Nat := u16At w.table (16 + 2 * ev)

/-- Item of an event (Table 07-1). -/
def eventItem (flow ev cyc : Nat) : Item := ⟨flow, ev, 0xFFFFFFFF, 0, 0, cyc % 2 ^ 32, [], cyc⟩

/-- The trigger event of an armed trace selects the next record (R418, Table 09-30). -/
def State.traceEvent (s : State) (ev : Nat) : State :=
  if s.trace.state = 2 ∧ field (s.cfg 0x2F03 0) 31 30 = 1 ∧ field (s.cfg 0x2F03 0) 8 0 = ev then
    s.onTrace fun t => { t with now := true }
  else s

/-- An event raised: pending bit, Ledger, and an item when POST is set and the Waystation runs (R322 to R325, R739). -/
def State.raiseOne (s : State) (ev : Nat) : State × Bool :=
  let bit := BitVec.ofNat 512 (1 <<< ev)
  let s1 := (s.onWay fun w => ({ w with pend := w.pend ||| bit }).note s.controlCycle bit 0).traceEvent ev
  let r := s.way.route ev
  let s2 := if bitAt r 15 then s1.recordEvent ev else s1
  if bitAt r 13 && s.isRunning .waystation then
    if s2.way.hasRoom (field r 9 0) then (s2.enqueue (eventItem (field r 9 0) ev s.boardCycle), false)
    else (s2, true)
  else (s2, false)

/-- An event raised; one that finds its route flow full also raises EV4, and EV4 itself never does (R322). -/
def State.raise (s : State) (ev : Nat) : State :=
  let r := s.raiseOne ev
  if r.2 && ev != 4 then ((r.1.setSticky 0x20).raiseOne 4).1 else r.1

/-- Several events raised in order. -/
def State.raiseAll (s : State) (l : List Nat) : State := l.foldl State.raise s

/-- The level of MGMT_ALERT_L: driven low while an event with ALERT is pending, or while the boot ROM holds (R730, R751). -/
def State.alertLow (s : State) : Bool :=
  s.fw.hold || (List.range 512).any fun ev => s.way.pend.getLsbD ev && bitAt (s.way.route ev) 14

/-- A buffer offset for an item: a free multiple of 8 in the region of Table 17-2 that starts at `base` and is `size` octets
long, since the spec names no place in it (assumption log 1). -/
def State.drawBuffer (s : State) (base size : Nat) : Nat × State := (base + 8 * (s.draw.1 % (size / 8)), s.draw.2)

/-- A buffer among the control-plane buffers: PWM period records, CAN frames, trace blocks. -/
def State.controlBuffer (s : State) : Nat × State := s.drawBuffer 0x0C0000 0x40000

/-- A buffer of at most 768 octets among the planning buffers. -/
def State.planningBuffer (s : State) : Nat × State := s.drawBuffer 0x200000 (0x300000 - 768)

/-- The content of an item's buffer written into the Bazaar, where the item names one (R22). -/
def State.handOver (s : State) (it : Item) : State :=
  s.onFab fun f => { f with mem := if it.buffer = 0xFFFFFFFF then f.mem else bazWrite f.mem it.buffer it.payload }

/-- An item of a hardware source: its buffer is written, and it enters its flow, or is held with EV0 when the flow is full
(R320). -/
def State.post (s : State) (it : Item) : State :=
  if !s.isRunning .waystation then s
  else
    let s := s.handOver it
    if s.way.hasRoom it.flow && !(s.way.held.any fun h => h.origin == it.origin) then s.enqueue it
    else ((s.onWay fun w => { w with held := w.held ++ [it] }).setSticky 0x04).raise 0

/-- An item of a ring: one still held for the same entry is replaced, with REPLACED and EV3 (R321). -/
def State.postRing (s : State) (it : Item) : State :=
  if !s.isRunning .waystation then s
  else if s.way.held.any fun h => h.origin == it.origin then
    (((s.handOver it).onWay fun w =>
      { w with held := w.held.map fun h => if h.origin == it.origin then it else h }).setSticky 0x08).raise 3
  else s.post it

/-! ### Time -/

/-- One tick that carries a step or an increment write into effect (R275, R277, R278). -/
def TimeBase.firstTick (t : TimeBase) : TimeBase :=
  match t.pendStep with
  | some st =>
    { t with sec := st.1, ns := st.2.1, sub := st.2.2, pendStep := none, ringNs := t.ringNs + 2,
             inc := t.pendInc.getD t.inc, pendInc := none,
             pairSec := st.1, pairNs := st.2.1, pairRing := t.ringNs + 2 }
  | none =>
    let inc := t.pendInc.getD t.inc
    let v := t.ns * 2 ^ 48 + t.sub + inc
    let c := v / (1000000000 * 2 ^ 48)
    let v' := v % (1000000000 * 2 ^ 48)
    { t with inc := inc, pendInc := none, ringNs := t.ringNs + 2, sec := t.sec + c, ns := v' / 2 ^ 48, sub := v' % 2 ^ 48,
             ppsOut := t.ppsOut || c != 0 }

/-- `n` ticks with nothing pending (R271, R273, R287). -/
def TimeBase.plainTicks (t : TimeBase) (n : Nat) : TimeBase :=
  let v := t.ns * 2 ^ 48 + t.sub + n * t.inc
  let c := v / (1000000000 * 2 ^ 48)
  let v' := v % (1000000000 * 2 ^ 48)
  { t with ringNs := t.ringNs + 2 * n, sec := t.sec + c, ns := v' / 2 ^ 48, sub := v' % 2 ^ 48,
           ppsOut := t.ppsOut || c != 0 }

/-- `n` ticks. -/
def TimeBase.ticks (t : TimeBase) (n : Nat) : TimeBase :=
  match n with
  | 0 => t
  | k + 1 => t.firstTick.plainTicks k

/-- The pair latched at this tick (R284). -/
def TimeBase.latchPair (t : TimeBase) : TimeBase :=
  { t with pairSec := t.sec, pairNs := t.ns, pairRing := t.ringNs }

/-- The clocks moved on to the last tick at or before ring time `t`, with the pair latched at the last whole millisecond passed
(R284); never back. -/
def TimeBase.advance (b : TimeBase) (t : Nat) : TimeBase :=
  if !b.ticking then b
  else
    let m := t / 1000000 * 1000000
    let b1 := if m > b.ringNs then (b.ticks ((m - b.ringNs) / 2)).latchPair else b
    b1.ticks ((t - b1.ringNs) / 2)

/-- The machine at ring time `t`, or where it stands when that has passed. A step that takes effect raises EV18. -/
def State.advanceTo (s : State) (t : Nat) : State :=
  let stepped := s.time.pendStep.isSome && s.time.ticking && decide (s.time.ringNs + 2 ≤ t)
  let s1 := s.onTime fun b => b.advance t
  if stepped then s1.raise 18 else s1

/-- The machine at the first tick at or after an instant of ring time as the board counts it, which on a paired unit is paired
time (R785). -/
def State.advanceNow (s : State) (t : Nat) : State := s.advanceTo (((t : Int) - s.thetaNs).toNat + 1)

/-- The Regulator's value in units of 2⁻⁴⁸ ns (R271). -/
def TimeBase.fine (t : TimeBase) : Nat := (t.sec * 1000000000 + t.ns) * 2 ^ 48 + t.sub

/-- Regulator time in ns. -/
def TimeBase.regNs (t : TimeBase) : Nat := t.sec * 1000000000 + t.ns

/-- A Regulator time in ns converted to ring time with the latest pair (R285). -/
def State.toRing (s : State) (x : Nat) : Int :=
  (s.time.pairRing : Int) + ((x : Int) - ((s.time.pairSec * 1000000000 + s.time.pairNs : Nat) : Int))

end Sys2Proof.Machine
end

