-- ==== Sys2Proof/Machine/AuxOps.lean ====
section
/-! DEFINITION. Operations of the auxiliary motion unit: profiles, homing, PWM groups, feedback inputs
(spec/14_auxiliary_axes_pwm.md). -/

namespace Sys2Proof.Machine

/-! ### Settings -/

/-- Axis configuration (Table 14-7). -/
def State.axisCfg (s : State) (k : Nat) : Nat := s.cfg (0x7001 + 0x40 * k) 0
/-- Stage group of an axis, none for 0xF. -/
def State.stageOf (s : State) (k : Nat) : Option Nat :=
  let g := field (s.axisCfg k) 20 17; if g < 8 then some g else none
/-- Feedback input of an axis, none for 0x1F. -/
def State.feedbackOf (s : State) (k : Nat) : Option Nat :=
  let n := field (s.axisCfg k) 16 12; if n < 16 then some n else none
/-- Group configuration (Table 14-15). -/
def State.groupCfg (s : State) (g : Nat) : Nat := s.cfg (0x7801 + 0x10 * g) 0
/-- Axes that name a feedback input. -/
def State.axesOfFeedback (s : State) (n : Nat) : List Nat := (List.range 16).filter fun k => s.feedbackOf k == some n
/-- Axes that name a stage group. -/
def State.axesOfStage (s : State) (g : Nat) : List Nat := (List.range 16).filter fun k => s.stageOf k == some g

/-! ### Profile (R594 to R599) -/

/-- A speed and an acceleration converted (R594). -/
def convSpeed (v : Nat) : Nat := (roundEven (v * 2 ^ 48) 1000000).toNat
def convAccel (a : Nat) : Nat := (roundEven (a * 2 ^ 48) 1000000000000).toNat

/-- The ramp set in force, latched and converted (R594, R596). -/
def State.rampOf (s : State) (k : Nat) : Ramp :=
  let o := s.obj (0x7002 + 0x40 * k) 0
  ⟨convSpeed (u32At o 0), convSpeed (u32At o 4), convSpeed (u32At o 8), convSpeed (u32At o 12), convAccel (u32At o 16),
   convAccel (u32At o 20), convAccel (u32At o 24), convAccel (u32At o 28)⟩

/-- Content check of a ramp set (R595). -/
def rampOk (o : Octets) : Bool :=
  let w := fun i => u32At o (4 * i)
  o.length == 32 && decide (1 ≤ w 0) && decide (w 0 ≤ w 2) && decide (w 2 ≤ w 3) && decide (w 3 ≤ 2000000) &&
  decide (1 ≤ w 1) && decide (w 1 ≤ w 2) && (List.range 4).all fun i => inRange 1 1000000000 (w (4 + i))

/-- ⌈n / d⌉ (`d` positive). -/
def ceilDiv (n d : Nat) : Nat := (n + d - 1) / d

/-- Ground that a deceleration from `v` to `w` covers (R597). -/
def brake (r : Ramp) (w v : Nat) : Nat :=
  if v ≤ w then 0
  else if v ≤ r.vBreak then ceilDiv (v * v - w * w) (2 * r.d1)
  else ceilDiv (v * v - r.vBreak * r.vBreak) (2 * r.d2) + ceilDiv (r.vBreak * r.vBreak - w * w) (2 * r.d1)

/-- One step. -/
def stepUnit : Nat := 2 ^ 48

/-- What a tick did: the move after it, the steps emitted as control cycles of the tick (R598), and how it ended: 0 it runs,
1 at its target, 2 stopped. -/
structure TickOut where
  move : AxisMove
  steps : List Nat
  ended : Nat

/-- One profile tick of a move (R597). -/
def AxisMove.tick (m : AxisMove) : TickOut :=
  let r := m.ramp
  let w := min r.vStop m.top
  let v0 := if m.begun then m.v else min r.vStart m.top
  let ph0 := if m.begun then m.phase else 0
  let decel := m.decel || (match m.rem with
    | some n => decide (n * stepUnit ≤ brake r w v0 + v0 + ph0)
    | none => false)
  let v := if decel || m.stopping then max w (v0 - (if v0 > r.vBreak then r.d2 else r.d1))
    else min m.top (v0 + (if v0 ≥ r.vBreak then r.a2 else r.a1))
  if m.stopping ∧ v = w then
    ⟨{ m with begun := true, v := 0, phase := ph0, decel := decel }, [], 2⟩
  else
    let ph := ph0 + v
    let due := (List.range 2).filter fun n => decide ((n + 1) * stepUnit ≤ ph)
    let emitted := match m.rem with | some n => due.take n | none => due
    let at_ := emitted.map fun n => min 399 (400 * ((n + 1) * stepUnit - ph0) / v)
    let rem := m.rem.map fun n => n - emitted.length
    let fin := rem == some 0
    ⟨{ m with begun := true, v := if fin then 0 else v, phase := ph % stepUnit, decel := decel, rem := rem }, at_,
     if fin then 1 else 0⟩

/-- STEP_W of R598 in control cycles. Its largest value, 96, is below half the shortest interval between steps at the largest V_MAX
(R595, Table 14-8), so no setting breaks R600. -/
def State.stepWidth (s : State) (k : Nat) : Nat := s.cfg (0x7003 + 0x40 * k) 1

/-- Level of AXk_STEP at a control cycle of the last tick (R598). -/
def State.stepHigh (s : State) (k c : Nat) : Bool := (s.axis k).steps.any fun r => decide (r ≤ c) && decide (c < r + s.stepWidth k)

/-- Rises of STEP to remember after a tick at microsecond `us` that emitted steps (R598): the tick's own, and those whose pulse can
last into it. -/
def stepRises (old : List Nat) (us : Nat) (new : List Nat) : List Nat :=
  (old.filter fun c => decide (400 * us < c + 96)) ++ new.map fun c => 400 * us + c

/-- Position moved by steps, 32 bits wrapping (R598, R638). -/
def stepPos (p : Nat) (up : Bool) (n : Nat) : Nat := (if up then p + n else p + 2 ^ 32 - n % 2 ^ 32) % 2 ^ 32

/-! ### Ends of moves and homing -/

/-- The move of an axis is over with a status (Table 14-10, EV224 + k). -/
def State.axisEnd (s : State) (k st : Nat) : State :=
  (s.onAxis k fun a => { a with move := none, status := st }).raise (224 + k)

/-- Homing method with the directions and switches of method 1 or 3: (method, exchanged). -/
def homeMethod (m : Nat) : Nat × Bool :=
  if m = 2 then (1, true) else if m = 4 then (3, true) else if m = 5 then (3, false) else (m, false)

/-- Direction of a homing phase before exchange: positive in phase 2 of method 1, phases 1, 3 and 4 of method 3. -/
def homeDirPos (base phase : Nat) : Bool := if base = 1 then phase == 2 else phase == 1 || phase == 3 || phase == 4

/-- The phase runs at the slow speed. -/
def homeSlow (base phase : Nat) : Bool := if base = 1 then phase == 2 else phase == 3 || phase == 4

/-- The direction of travel of a phase of a method. -/
def homeDir (method phase : Nat) : Bool :=
  let b := homeMethod method
  homeDirPos b.1 phase != b.2

/-- A homing phase started as a jog (R606). -/
def State.homePhase (s : State) (k : Nat) (m : AxisMove) (h : Homing) (phase readyAt : Nat) : State :=
  let b := homeMethod h.method
  let dir := homeDir h.method phase
  let sp := s.cfg (0x7004 + 0x40 * k) (if homeSlow b.1 phase then 3 else 2)
  let cfg := s.axisCfg k
  let mv : AxisMove :=
    { m with pos := dir, top := convSpeed sp, rem := none, v := 0, phase := 0, decel := false, stopping := false,
             stopStatus := 7, begun := false, readyAt := readyAt, homing := some { h with phase := phase } }
  s.onAxis k fun a => { a with move := some mv, status := 5, dir := dir == bitAt cfg 3 }

/-- The home position is set and homing ends with status 6 (R608). -/
def State.homed (s : State) (k : Nat) (edge : Nat) : State :=
  let off := s.cfg (0x7004 + 0x40 * k) 4
  let s1 := s.onAxis k fun a =>
    { a with position := (a.position + 2 ^ 32 - edge % 2 ^ 32 + off) % 2 ^ 32, homed := true }
  s1.axisEnd k 6

/-- The phase after one that came to rest at its end condition; none when it was the last (Table 14-5). -/
def nextPhase (method phase : Nat) : Option Nat :=
  let b := (homeMethod method).1
  if b = 1 then (if phase = 1 then some 2 else none)
  else if phase = 1 ∨ phase = 15 then some 2
  else if phase = 2 then some 3
  else if phase = 3 ∧ method = 5 then some 4
  else none

/-- A move has come to rest by stopping: a homing goes on with its next phase, anything else ends (R597, R606 to R608). -/
def State.axisRest (s : State) (k : Nat) (m : AxisMove) : State :=
  match m.homing with
  | none => s.axisEnd k m.stopStatus
  | some h =>
    if h.failed then s.axisEnd k 7
    else
      -- phase 1 left through LIMP: the reversal 1R follows
      if m.stopStatus = 15 then s.homePhase k m h 15 0
      else
        match nextPhase h.method h.phase with
        | some p => s.homePhase k m h p 0
        | none => s.homed k (h.edge.getD 0)

/-- The running move is told to stop, ending with a status (R602, R603). -/
def State.axisStop (s : State) (k st : Nat) : State :=
  match (s.axis k).move with
  | none => s
  | some m =>
    let h := m.homing.map fun h => { h with failed := true }
    if m.begun then
      s.onAxis k fun a => { a with move := some { m with stopping := true, stopStatus := st, homing := h } }
    else s.axisEnd k (if m.homing.isSome then 7 else st)

/-- The running move ends at once without a further step (R602, R603, R610). -/
def State.axisHalt (s : State) (k st : Nat) : State :=
  match (s.axis k).move with
  | none => s
  | some m => s.axisEnd k (if m.homing.isSome then 7 else st)

/-- The limit switch of the direction of travel ends the move (R603, R607). -/
def State.axisLimit (s : State) (k : Nat) : State :=
  if bitAt (s.axisCfg k) 7 then s.axisStop k 3 else s.axisHalt k 3

/-- A homing phase met its end condition: it proceeds as for STOP (R606); `st` 15 leads to the reversal. -/
def State.phaseEnd (s : State) (k st : Nat) (edge : Option Nat) : State :=
  match (s.axis k).move with
  | none => s
  | some m =>
    let mv : AxisMove := { m with stopping := true, stopStatus := st,
                                  homing := m.homing.map fun h => { h with edge := edge.or h.edge } }
    if m.begun then s.onAxis k fun a => { a with move := some mv }
    else s.axisRest k mv

/-- A filtered switch changed while a homing runs: which switch (0 LIMP, 1 LIMN, 2 HOME), its new state, the edge position
(Table 14-5, R607, R608). -/
def State.homeSwitch (s : State) (k : Nat) (m : AxisMove) (h : Homing) (sw : Nat) (on : Bool) (edge : Nat) : State :=
  let b := homeMethod h.method
  -- the switch in the terms of methods 1 and 3
  let x := if b.2 ∧ sw < 2 then 1 - sw else sw
  if m.stopping then
    -- the phase comes to rest: a limit switch in its direction of travel still counts (R607)
    if h.failed ∨ !on ∨ 2 ≤ x ∨ homeDirPos b.1 h.phase ≠ (x == 0) ∨ (b.1 = 1 ∧ h.phase = 1) then s
    else if b.1 = 3 ∧ h.phase = 1 then s.phaseEnd k 15 none
    else s.axisLimit k
  else if b.1 = 1 then
    if h.phase = 1 ∧ x = 1 ∧ on then s.phaseEnd k 0 none
    else if h.phase = 2 ∧ x = 1 ∧ !on then s.phaseEnd k 0 (some edge)
    else if on ∧ ((h.phase = 2 ∧ x = 0)) then s.axisLimit k
    else s
  else
    if x = 2 then
      if (h.phase = 1 ∨ h.phase = 15) ∧ on then s.phaseEnd k 0 none
      else if h.phase = 2 ∧ !on then s.phaseEnd k 0 none
      else if h.phase = 3 ∧ on then s.phaseEnd k 0 (some edge)
      else s
    else if !on then s
    else if h.phase = 1 ∧ x = 0 then s.phaseEnd k 15 none
    else if (homeDirPos b.1 h.phase) = (x == 0) then s.axisLimit k
    else s

/-! ### PWM groups -/

/-- What a group's outputs do now (R623, R626, R609 and their precedence; R625 after a CM2 fault). -/
def State.pwmDrive (s : State) (g : Nat) : PwmDrive :=
  let short := bitAt (s.groupCfg g) 6
  if s.power.mainReset then .low
  else if s.power.cm2Short ≠ [] then (if s.power.cm2Short.contains g then .shortRising else .low)
  else if s.fnSt (.pwm g) = .fault then (if short then .short else .low)
  else if s.fnSt (.pwm g) = .running ∨ s.fnSt (.pwm g) = .stopping then
    (if (s.group g).standstill = 1 then .low else if (s.group g).standstill = 2 then .short else .normal)
  else .low

/-- Fine ticks of a period (R612). -/
def State.periodTicks (s : State) (g : Nat) : Nat :=
  let c := s.groupCfg g
  (if bitAt c 5 then 128 else 64) * field c 63 48

/-- The interval of a period in which S is high with a compare value (R614). -/
def highInterval (centre : Bool) (tf c : Nat) : Nat × Nat :=
  if centre then (tf / 2 - c / 2, min tf ((tf / 2 + c) - c / 2))
  else (0, min tf c)

/-- S at a fine tick of the period (R614); with a calibration out of range the edges fall on whole control cycles (R622). -/
def State.pwmS (s : State) (g p x : Nat) : Bool :=
  let iv := highInterval (bitAt (s.groupCfg g) 5) (s.periodTicks g) (nth (s.group g).active p 0)
  let q := fun e => if (s.group g).coarse then e / 64 * 64 else e
  decide (q iv.1 ≤ x) && decide (x < q iv.2)

/-- Levels of PWMn_H and PWMn_L at a fine tick of the current period (R615, R616). `before` is S in the period before and how long
it has held its last level at the period's start; `idle` is for how many fine ticks H and L have been low so far. -/
def State.pwmLevels (s : State) (g p x : Nat) (before : Bool × Nat) (idle : Nat × Nat) : Bool × Bool :=
  let dt := (s.group g).dead
  match s.pwmDrive g with
  | .low => (false, false)
  | .short => (false, decide (dt ≤ idle.1))
  | .shortRising => (false, false)
  | .normal =>
    if !bitAt (s.groupCfg g) p then (false, false)
    else
      let lvl := s.pwmS g p x
      let run := ((List.range (min (dt + 1) (x + 1))).takeWhile fun i => s.pwmS g p (x - i) == lvl).length
      let held := if run = x + 1 then run + (if before.1 == lvl then before.2 else 0) else run
      (lvl && decide (dt < held) && decide (dt ≤ idle.2), !lvl && decide (dt < held) && decide (dt ≤ idle.1))

/-- Group status (Table 14-16). -/
def State.groupStatus (s : State) (g : Nat) : Nat :=
  let x := s.group g
  let safe := s.fnSt (.pwm g) == .fault
  (field (s.groupCfg g) 31 24 &&& s.aux.trips) <<< 8 ||| b2n (x.standstill != 0) <<< 6 ||| b2n safe <<< 5 |||
  b2n x.coarse <<< 4 ||| b2n x.late <<< 3

/-- Speed of an axis in steps/s (Table 14-9). -/
def Axis.speed (a : Axis) : Nat :=
  match a.move with
  | some m => (roundEven (m.v * 1000000) (2 ^ 48)).toNat
  | none => 0

/-- The period record (Table 14-12). -/
def State.periodRecord (s : State) (g n : Nat) : Octets :=
  let ax := (s.axesOfStage g).head?
  let fb := ax.bind s.feedbackOf
  toLE 4 n ++ toLE 4 (s.groupStatus g) ++
  toLE 4 (match ax with | some k => (s.axis k).position | none => 0) ++
  toLE 4 (match ax with | some k => (s.axis k).speed | none => 0) ++
  toLE 4 (match fb with | some i => (s.feedback i).position | none => 0) ++
  toLE 4 (match fb with | some i => ofSigned 32 (s.feedback i).speed | none => 0) ++ zeros 8

/-- COARSE or LATE of a group set, with the group's event (Table 14-21). -/
def State.setCoarse (s : State) (g : Nat) (on : Bool) : State :=
  let s1 := s.onGroup g fun x => { x with coarse := on }
  if on && !(s.group g).coarse then s1.raise (240 + g) else s1
def State.setLate (s : State) (g : Nat) : State :=
  let s1 := s.onGroup g fun x => { x with late := true }
  if (s.group g).late then s1 else s1.raise (240 + g)

/-- Dead time in force: DT, or a whole number of control cycles while the calibration is invalid (R622). -/
def State.deadTime (s : State) (g : Nat) : Nat :=
  let d := s.cfg (0x7802 + 0x10 * g) 0
  if s.aux.calibrated then d else ceilDiv d 64 * 64

/-- The reload at the start of a period: shadow to active, calibration, standstill actions that end (R609, R617, R622). -/
def State.pwmReload (s : State) (g : Nat) : State :=
  let woken := (s.axesOfStage g).filter fun k => (s.axis k).waking
  let s1 := woken.foldl (fun s k => s.onAxis k fun a => { a with standstill := false, waking := false }) s
  let s2 := s1.onGroup g fun x =>
    { x with active := x.shadow, dead := s.deadTime g, standstill := if woken.isEmpty then x.standstill else 0 }
  s2.setCoarse g (!s.aux.calibrated)

/-- Control cycles of a period (R612). -/
def State.periodCycles (s : State) (g : Nat) : Nat := s.periodTicks g / 64

/-- The machine at the control cycle at which a group's next period starts (R613). -/
def State.toPeriod (s : State) (g : Nat) : State := s.advanceTo (((s.group g).next * 5 + 1) / 2)

/-- The period item of a group (R619, R620). -/
def State.pwmItem (s : State) (g n : Nat) : State :=
  let c := s.groupCfg g
  if bitAt c 7 && n % field c 23 16 == 0 then
    let s1 := if (s.group g).itemOpen then s.setLate g else s
    let b := s1.controlBuffer
    (b.2.onGroup g fun x => { x with itemOpen := true }).post
      ⟨96 + g, 0x10000 + g, b.1, 32, 0, n % 2 ^ 32, b.2.periodRecord g n, 0⟩
  else s

/-- A period item of group `g` has completed: the shadows take the group's words of bank c mod 4 (R618). -/
def State.pwmItemDone (s : State) (g c : Nat) : State :=
  s.onGroup g fun x =>
    { x with itemOpen := false,
             shadow := (List.range 3).map fun p => wordAt (nth s.le.pubs (c % 4) []) (0x700 + 16 * g + p) }

/-! ### Feedback inputs -/

/-- A position moved by a signed count, 32 bits wrapping (R638). -/
def addPos (p : Nat) (d : Int) : Nat := ofSigned 32 ((p : Int) + d)

/-- A count in a tick (R630, R632): position, direction, window and intervals. -/
def Feedback.count (x : Feedback) (d : Int) (cycle tick : Nat) : Feedback :=
  { x with position := addPos x.position d, up := decide (0 < d), window := x.window + d,
           interval := x.last.map fun l => cycle - l, last := some cycle,
           tick := tick, tickCounts := (if x.tick = tick then x.tickCounts else 0) + 1 }

/-- Speed at the end of a window (R635). -/
def Feedback.endWindow (x : Feedback) (w co cycle : Nat) : Feedback :=
  let n := x.window.natAbs
  let counting := if n < co then false else if n > 2 * co then true else x.counting
  let t : Option Nat := x.last.map fun l => max (x.interval.getD 0) (cycle - l)
  let period : Int := match t with
    | some t => if t = 0 then Config.speedAtOnce x.up else (if x.up then 1 else -1) * roundEven 102400000 t
    | none => 0
  { x with speed := if counting then roundEven (x.window * 256000) w else period, counting := counting, window := 0 }

end Sys2Proof.Machine
end

