-- ==== Sys2Proof/Machine/JointBase.lean ====
section
/-! DEFINITION. A joint's objects, the end of an identification run and the reaction to a fault
(spec/09_joint_control.md R410, R414). -/

namespace Sys2Proof.Machine

/-- Index of a joint's object. -/
def jointIdx (j off : Nat) : Nat := 0x6000 + 0x20 * j + off

/-- A run ended with a status that changes no set (R414). -/
def State.tuneEnd (s : State) (j st : Nat) : State :=
  match (s.joint j).tune with
  | none => s
  | some _ =>
    (s.onJoint j fun x => { x with tune := none, tuneStatus := st, law := if x.law = 5 then 1 else x.law }).raise (128 + j)

/-- The reaction of a joint to its entry into FAULT (R410); the item under way counts as item 0 of the hold. -/
def State.jointReact (s : State) (j code : Nat) : State :=
  let x := s.joint j
  let hold := bitAt (s.cfg (jointIdx j 7) 0) 8 && code != 0x0102 && code != 0x0103 &&
    (x.phase == .soft || x.phase == .release || x.phase == .run || x.phase == .stop)
  let s1 := s.onJoint j fun x =>
    { x with phase := if hold then .hold else .off, faultPos := nth x.vals 0 0, count := 0 }
  (s1.tuneEnd j 5).raise (128 + j)

end Sys2Proof.Machine
end

