-- ==== Sys2Proof/Machine/LeBase.lean ====
section
/-! DEFINITION. Service positions of the loop engines, and their end in a fault (spec/08_loop_engine.md R350, R376, R815). -/

namespace Sys2Proof.Machine

/-- A service position set. -/
def State.setPos (s : State) (p : Nat) (x : Option Item) : State :=
  s.onWay fun w => { w with positions := upd w.positions p fun _ => x }

/-- The item of a position is finished: its completion is still to be reported (R350, R376). -/
def State.finishPos (s : State) (p : Nat) (err : Bool) : State :=
  match nth s.way.positions p none with
  | none => s
  | some it => (s.onWay fun w => { w with finished := w.finished ++ [(p, it, err)] }).setPos p none

/-- Every item in service in the engines completes with status error and is not written back (R815). -/
def State.enginesFault (s : State) : State :=
  let s1 := (List.range 48).foldl (fun s p => s.finishPos p true) s
  s1.onLe fun l => { l with engines := l.engines.map fun e =>
    { e with slot := none, normal := none, urgent := none, inUrgent := false, halted := false, haltDue := false } }

end Sys2Proof.Machine
end

