-- ==== Sys2Proof/Machine/PlanBase.lean ====
section
/-! DEFINITION. Mailbox slots, problems and plans that other chapters use (spec/03_object_dictionary.md R146 to R152,
spec/10_planning_solver.md R428, R435, R436). -/

namespace Sys2Proof.Machine

/-! ### Mailbox slots -/

/-- Mailbox slot `i`. -/
def State.mslot (s : State) (i : Nat) : MboxSlot := nth s.dict.mbox i MboxSlot.initial

/-- Slot `i` changed. -/
def State.onSlotM (s : State) (i : Nat) (f : MboxSlot → MboxSlot) : State :=
  s.onDict fun d => { d with mbox := upd d.mbox i f }

/-- Fields of the command record of a slot (Table 03-23). -/
def MboxSlot.kind (m : MboxSlot) : Nat := u8At m.record 0
def MboxSlot.mask (m : MboxSlot) : Nat := u16At m.record 2
def MboxSlot.ident (m : MboxSlot) : Nat := u32At m.record 4
def MboxSlot.target (m : MboxSlot) : Nat := u16At m.record 8
def MboxSlot.after (m : MboxSlot) : Nat := u32At m.record 24

/-- Queued or active. -/
def MboxSlot.open (m : MboxSlot) : Bool := m.st == 1 || m.st == 2

/-- A motion command (kinds 0x01–0x03). -/
def MboxSlot.motion (m : MboxSlot) : Bool := inRange 1 3 m.kind

/-- A waiting command learns how the command that it names in After has ended (R431, R432). -/
def MboxSlot.learn (m : MboxSlot) (ident st : Nat) : MboxSlot :=
  if m.open && m.after == ident && m.afterEnd == 0 then { m with afterEnd := st } else m

/-- Slot `i` enters done 3, cancelled 4 or rejected 5 (R150, Table 10-23). -/
def State.slotEnd (s : State) (i st : Nat) : State :=
  let n := s.dict.mboxOrder + 1
  let ident := (s.mslot i).ident
  let s1 := (s.onDict fun d => { d with mboxOrder := n, mbox := d.mbox.map fun m => m.learn ident st }).onSlotM i
    fun m => { m with st := st, ended := n }
  let s2 := s1.onPlan fun p => { p with guides := p.guides.filter fun g => g.slot != i }
  let s3 := s2.raise 293
  if st = 5 then s3.raise 294 else s3

/-- Slots in the order in which their commands were accepted (R152). -/
def State.slotsInOrder (s : State) : List Nat :=
  (List.range 64).foldr (fun i l => insertSlot s i l) []
where
  /-- A slot put at its place. -/
  insertSlot (s : State) (i : Nat) : List Nat → List Nat
    | [] => [i]
    | j :: r => if (s.mslot i).order ≤ (s.mslot j).order then i :: j :: r else j :: insertSlot s i r

/-- The slot that holds a command identity: a queued or active one before one that has ended. -/
def State.slotOf (s : State) (ident : Nat) : Option Nat :=
  match (List.range 64).find? fun i => (s.mslot i).open && (s.mslot i).ident == ident with
  | some i => some i
  | none => (List.range 64).find? fun i => (s.mslot i).st != 0 && (s.mslot i).ident == ident

/-- Every queued or active command of an arm is cancelled (R435). -/
def State.cancelArm (s : State) (a : Nat) : State :=
  (List.range 64).foldl (fun s i =>
    if (s.mslot i).open && bitAt (s.mslot i).mask a then s.slotEnd i 4 else s) s

/-! ### Problems (R428) -/

/-- Record of group `g` (Table 10-6). -/
def State.groupRec (s : State) (g : Nat) : Octets := slice (s.obj 0x2840 0) (128 * g) 128

/-- Arm mask of group `g`. -/
def State.groupMask (s : State) (g : Nat) : Nat := field (u16At (s.groupRec g) 0) 11 0

/-- The group that an arm belongs to. -/
def State.groupOf (s : State) (a : Nat) : Option Nat := (List.range 6).find? fun g => bitAt (s.groupMask g) a

/-- Arms of the problem that is named by arm `a`; none when no problem has that name. -/
def State.problemArms (s : State) (a : Nat) : List Nat :=
  match s.groupOf a with
  | some g => let l := bitsOf 12 (s.groupMask g); if l.head? = some a then l else []
  | none => if (s.members a).isEmpty then [] else [a]

/-- Name of the problem of an arm. -/
def State.problemOf (s : State) (a : Nat) : Nat :=
  match s.groupOf a with
  | some g => (bitsOf 12 (s.groupMask g)).headD a
  | none => a

/-- Joints of a problem, arm by arm in member-list order. -/
def State.problemJoints (s : State) (a : Nat) : List Nat := (s.problemArms a).flatMap s.members

/-- Problem named by arm `a`. -/
def State.problem (s : State) (a : Nat) : Problem := nth s.plan.problems a Problem.initial

/-- Problem changed. -/
def State.onProblem (s : State) (a : Nat) (f : Problem → Problem) : State :=
  s.onPlan fun p => { p with problems := upd p.problems a f }

/-- Planner's view of arm `a`. -/
def State.armPlan (s : State) (a : Nat) : ArmPlan := nth s.plan.arms a ArmPlan.initial

/-- It changed. -/
def State.onArmPlan (s : State) (a : Nat) (f : ArmPlan → ArmPlan) : State :=
  s.onPlan fun p => { p with arms := upd p.arms a f }

/-- Place of the joints of an arm among those of its problem, and how many. -/
def State.armSlice (s : State) (a : Nat) : Nat × Nat :=
  let before := (s.problemArms (s.problemOf a)).takeWhile (· != a)
  ((before.flatMap s.members).length, (s.members a).length)

/-- The arm's problem has an accepted plan. -/
def State.hasPlan (s : State) (a : Nat) : Bool := !(s.problem (s.problemOf a)).knots.isEmpty

/-- The arm is at standstill by its last accepted plan (R436); an arm without a plan has not begun to move. -/
def State.atStandstill (s : State) (a : Nat) : Bool :=
  let p := s.problem (s.problemOf a)
  let r := s.armSlice a
  let cut := fun (l : List Int) => (l.drop r.1).take r.2
  match p.knots with
  | [] => true
  | k0 :: ks =>
    ks.all (fun k => ((cut k).zip (cut k0)).all fun x => decide ((x.1 - x.2).natAbs ≤ 65536)) &&
      (cut p.v0).all (· == 0)

/-- An arm enters FAULT: its commands are cancelled at once (R435). -/
def State.armFault (s : State) (a : Nat) : State := s.cancelArm a

end Sys2Proof.Machine
end

