-- ==== Sys2Proof/Machine/FnOps.lean ====
section
/-! DEFINITION. Entry into FAULT with its reactions and its spread to dependent functions, and the end of acting
(spec/03_object_dictionary.md R104, R811, R812; spec/19_standby_pairing.md R781, R782). -/

namespace Sys2Proof.Machine

/-- The outputs of a channel take new levels; what has switched notes the time (R560, R561). -/
def State.setSo (s : State) (chB : Bool) (level : BitVec 8) : State :=
  let v := if s.power.testMode then 0#8 else level
  let old := if chB then s.saf.soB else s.saf.soA
  let other := if chB then s.saf.soA else s.saf.soB
  let changed := fun n => v.getLsbD n != old.getLsbD n
  s.onSaf fun f =>
    let io := { f.io with
      since := f.io.since.zipIdx.map fun x => if (x.2 % 2 == 1) == chB && changed (x.2 / 2) then s.time.ringNs else x.1
      lows := f.io.lows.zipIdx.map fun x => if (x.2 % 2 == 1) == chB && changed (x.2 / 2) then 0 else x.1
      pulse := clearBits f.io.pulse (maskOf ((List.range 8).filterMap fun n => if changed n then some (2 * n + b2n chB) else none))
      pairSince := f.io.pairSince.zipIdx.map fun x => if changed x.2 && other.getLsbD x.2 then s.time.ringNs else x.1
      edmLow := clearBits f.io.edmLow (maskOf ((List.range 8).filter changed)) }
    if chB then { f with soB := v, io := io } else { f with soA := v, io := io }

/-- Every SO output off (R69, R782). -/
def State.soOff (s : State) : State := (s.setSo false 0#8).setSo true 0#8

/-- The ring stops sending and goes idle, its start and service work dropped (R243). -/
def Ring.goIdle (r : Ring) : Ring :=
  { r with caravan := none, slot0 := none, step := 0, stepCount := 0, svcQueue := [], svcOut := [], joins := [],
           command := none, unfold := none, heal := none, foldDue := false, measure := none, lastMeasure := none,
           measureAt := [] }

/-- A master ring becomes a tracking ring (R783). -/
def Ring.track (r : Ring) : Ring :=
  let tr : Tracking := { r.tracking with on := true }
  { r with caravan := none, slot0 := none, takeover := false, tracking := tr }

/-- An acting unit stops acting: no code group as master, SO outputs off, ACTV_O low; its rings track (R782, R783). -/
def State.release (s : State) : State :=
  if s.pair.acting then
    let s1 := State.onPair s.soOff fun p =>
      { p with acting := false, actvO := false, releasePending := false, takeoverDue := false, takeover := none, testPending := false }
    State.raise { s1 with rings := s1.rings.map Ring.track } 417
  else s

/-- Rings the pairing configuration names. -/
def State.namedRings (s : State) : List Nat := bitsOf 4 (field (s.cfg 0x1C01 0) 3 0)

/-- The conditions of R789 other than the one on ACTV_I. -/
def State.armConditions (s : State) : Bool :=
  s.isRunning .pairing && !s.pair.acting &&
  (s.namedRings.all fun n =>
    s.isRunning (.ring n) && (s.ring n).tracking.on && (nth s.pair.q n none).isSome &&
    (match (s.ring n).tracking.lastHead with | some h => !h.2.2 | none => false)) &&
  s.isRunning .safety &&
  (match s.pair.lastMismatch with | some c => decide (c + 1024 ≤ s.boardCycle) | none => true)

/-- ARMED brought up to date (R789, R792), with its events. -/
def State.updateArmed (s : State) : State :=
  if s.pair.acting then s
  else if s.pair.armed then
    if s.armConditions || (!s.pair.pairSel && s.pair.actvO) then s
    else (s.onPair fun p => { p with armed := false }).raise 419
  else if s.armConditions && s.pair.actvI then (s.onPair fun p => { p with armed := true }).raise 418
  else s

/-- The pairing function is RUNNING and names ring `n`. -/
def State.namesRing (s : State) (n : Nat) : Bool :=
  s.isRunning .pairing && bitAt (field (s.cfg 0x1C01 0) 3 0) n

/-- It leaves RUNNING: idle. -/
def State.traceLeft (s : State) : State := s.onTrace fun t => { t with state := 0, now := false }

/-- It leaves RUNNING: FREE (Table 06-6). -/
def State.timeBaseLeft (s : State) : State := s.onTime fun t => { t with disc := 0, lockRun := 0 }

/-- First event of port `n` (Table 16-16). -/
def portEvent (n k : Nat) : Nat := 272 + 8 * n + k

/-- A change of the selected master forgets its exchanges and raises its event. -/
def State.setMaster (s : State) (n : Nat) (m : Option Nat) : State :=
  if (s.port n).ptp.master = m then s
  else (s.onPort n fun p => { p with ptp := { p.ptp with
          master := m, sync := none, down := none, delay := none, request := none, response := none } }).raise (portEvent n 4)

/-- The port leaves RUNNING: its PTP instance ends (R686, R691). -/
def State.portLeft (s : State) (n : Nat) : State := (s.setMaster n none).onPort n fun p => { p with ptp := Ptp.initial }

/-- The reaction of a function to its own entry into FAULT. -/
def State.react (s : State) (f : Fn) (code : Nat) : State :=
  match f with
  | .ring n =>
    let s1 := s.onRing n Ring.goIdle
    (if s.namesRing n then s1.release else s1).updateArmed
  | .safety =>
    let s0 := s.soOff.onSaf fun f => { f with brake := none }
    let s1 := s0.raise 443
    (if code = 0x0101 ∨ code = 0x0102 ∨ code = 0x0105 then s1.release else s1).updateArmed
  | .pairing => s.updateArmed
  | .loopEngines => s.enginesFault.refreshReady
  | .joint j => s.jointReact j code
  | .arm a => s.armFault a
  | .axis k => (s.axisHalt k 4).raise (224 + k)
  | .pwm g => s.raise (240 + g)
  | .feedback n => s.raiseAll ((s.axesOfFeedback n).map fun k => 224 + k)
  | .trace => s.traceLeft
  | .timeBase => s.timeBaseLeft
  | .hostPort n => s.portLeft n
  | _ => s

/-- Open writes to the RWS objects of a function that leaves STOPPED are marked (R133). -/
def State.markLeft (s : State) (f : Fn) : State :=
  let mark := fun (t : Transfer) =>
    if t.write && (match cardAt t.idx t.sub with | some c => c.acc == .rws && c.owner == some f | none => false) then
      { t with left := true } else t
  s.onDict fun d => { d with sessions := d.sessions.map fun x => { x with xfer := x.xfer.map mark } }

/-- One function into FAULT, unless it is there already (R812). -/
def State.faultOne (s : State) (f : Fn) (code : Nat) : State :=
  if s.fnSt f = .fault then s
  else
    let s1 := if s.fnSt f = .stopped then s.markLeft f else s
    (s1.setFnRec f ⟨.fault, code⟩).react f code

/-- The functions of a work list into FAULT, each with the active functions that list it as a prerequisite (R104). -/
def State.faultList : Nat → List (Fn × Nat) → State → State
  | 0, _, s => s
  | _, [], s => s
  | n + 1, (f, code) :: r, s =>
    if s.fnSt f = .fault then State.faultList n r s
    else
      let deps := (s.dependents f).filter fun g => s.isActive g
      State.faultList n (r ++ deps.map fun g => (g, 0x0001)) (s.faultOne f code)

/-- A function enters FAULT with a code, and its active dependents with 0x0001 (R104). -/
def State.fault (s : State) (f : Fn) (code : Nat) : State := State.faultList 30000 [(f, code)] s

/-- A function that is STARTING or RUNNING enters FAULT; in any other state nothing happens. -/
def State.faultActive (s : State) (f : Fn) (code : Nat) : State := if s.isActive f then s.fault f code else s

/-- Fault of every group that meets a condition, whatever its state (R624). -/
def State.groupsFault (s : State) (p : Nat → Bool) (code : Nat) : State :=
  (List.range 8).foldl (fun s g => if p g then s.fault (.pwm g) code else s) s

/-- A debug halt puts every PWM group into its safe state (R375, R624). -/
def State.groupsHalted (s : State) : State := s.groupsFault (fun _ => true) 0x0102

end Sys2Proof.Machine
end

