-- ==== Sys2Proof/Machine/AuxUnit.lean ====
section
/-! DEFINITION. The auxiliary motion unit's steps, its functions' hooks and its objects
(spec/14_auxiliary_axes_pwm.md). -/

namespace Sys2Proof.Machine

/-! ### Move commands (R601 to R603) -/

/-- Signed distance of a MOVE_ABS or MOVE_REL (Table 14-4). -/
def State.moveDistance (s : State) (k kind target : Nat) : Int :=
  if kind = 1 then toSigned 32 ((target + 2 ^ 32 - (s.axis k).position % 2 ^ 32) % 2 ^ 32) else toSigned 32 target

/-- First phase of a homing that is not skipped (Table 14-5). -/
def State.homeFirst (s : State) (k method : Nat) : Nat :=
  let b := homeMethod method
  let a := s.axis k
  if b.1 = 1 then (if (if b.2 then a.limp else a.limn) then 2 else 1) else if a.home then 2 else 1

/-- The direction in which a command sets out: positive or not, or none. -/
def State.moveDir (s : State) (k kind target : Nat) : Option Bool :=
  if kind ≤ 2 then
    let d := s.moveDistance k kind target
    if d = 0 then none else some (decide (0 < d))
  else if kind = 3 then some true
  else if kind = 4 then some false
  else if kind = 6 then
    let m := s.cfg (0x7004 + 0x40 * k) 1
    if m = 0 then none else some (homeDir m (s.homeFirst k m))
  else none

/-- Refusal of a move command (R601). -/
def State.moveRefused (s : State) (k v : Nat) : Option Nat :=
  let kind := field v 63 56
  let a := s.axis k
  let limit := match s.moveDir k kind (field v 31 0) with
    | some true => a.limp
    | some false => a.limn
    | none => false
  if !s.isRunning (.axis k) then some abState
  else if kind != 5 && kind != 7 && a.move.isSome then some abState
  else if limit then some abState
  else if kind = 6 ∧ s.cfg (0x7004 + 0x40 * k) 1 = 5 ∧ (s.feedbackOf k).isNone then some abState
  else none

/-- A move as it stands before its first tick (R596, R599, R609). -/
def State.newMove (s : State) (k : Nat) (pos : Bool) (rem : Option Nat) : AxisMove :=
  let r := s.rampOf k
  { ramp := r, pos := pos, top := r.vMax, rem := rem, v := 0, phase := 0, decel := false, stopping := false, stopStatus := 4,
    begun := false, readyAt := s.time.ringNs + 1000 * s.cfg (0x7003 + 0x40 * k) 2, homing := none }

/-- A move or jog starts (R596, R597, R599). -/
def State.moveStart (s : State) (k : Nat) (pos : Bool) (rem : Option Nat) : State :=
  let mv := s.newMove k pos rem
  s.onAxis k fun a => { a with move := some mv, status := 1, dir := pos == bitAt (s.axisCfg k) 3 }

/-- HOME (R606, R608): HOMED clears; method 0 sets the position at once, the others start their first phase. -/
def State.homeStart (s : State) (k : Nat) : State :=
  let s1 := s.onAxis k fun a => { a with homed := false }
  let m := s.cfg (0x7004 + 0x40 * k) 1
  if m = 0 then s1.homed k (s1.axis k).position
  else
    let ph := s1.homeFirst k m
    let mv := s1.newMove k (homeDir m ph) none
    s1.homePhase k mv ⟨m, ph, none, false⟩ ph mv.readyAt

/-- A move, jog or homing command accepted in a standstill action: the action lasts until the next reload of the group (R609). -/
def State.wake (s : State) (k : Nat) : State := s.onAxis k fun a => { a with waking := a.waking || a.standstill }

/-- An accepted move command (Table 14-4). -/
def State.applyMove (s0 : State) (k v : Nat) : State :=
  let kind := field v 63 56
  let s := if kind = 5 ∨ kind = 7 then s0 else s0.wake k
  if kind ≤ 2 then
    let d := s.moveDistance k kind (field v 31 0)
    if d = 0 then s.axisEnd k 2 else s.moveStart k (decide (0 < d)) (some d.natAbs)
  else if kind = 3 then s.moveStart k true none
  else if kind = 4 then s.moveStart k false none
  else if kind = 5 then s.axisStop k 4
  else if kind = 6 then s.homeStart k
  else s.axisHalt k 4

/-! ### Axes -/

/-- Steps emitted without a count drive the named feedback input into FAULT (R633). -/
def State.feedbackLoss (s : State) (k : Nat) : State :=
  match s.feedbackOf k with
  | none => s
  | some n =>
    let l := s.cfg (0x7C02 + 0x10 * n) 3
    if l ≠ 0 ∧ l ≤ (s.axis k).unseen ∧ s.isRunning (.feedback n) = true then s.fault (.feedback n) 0x0103 else s

/-- One profile tick of an axis at ring time `t` (R593, R597 to R599). -/
def State.profileTick (s : State) (k t : Nat) : State :=
  match (s.axis k).move with
  | none => s.onAxis k fun a => { a with steps := stepRises a.steps (t / 1000) [] }
  | some m =>
    if t < m.readyAt ∨ (s.axis k).waking = true then s.onAxis k fun a => { a with steps := stepRises a.steps (t / 1000) [] }
    else
      let r := m.tick
      let n := r.steps.length
      let s1 := s.onAxis k fun a =>
        { a with move := some r.move, position := stepPos a.position m.pos n,
                 steps := stepRises a.steps (t / 1000) r.steps, unseen := a.unseen + n }
      let s2 := if r.ended = 1 then s1.axisEnd k 2 else if r.ended = 2 then s1.axisRest k r.move else s1
      if n = 0 then s2 else s2.feedbackLoss k

/-- Both limit switches active in RUNNING (R610). -/
def State.bothLimits (s : State) (k : Nat) : State :=
  let a := s.axis k
  if s.isRunning (.axis k) && a.limp && a.limn then s.fault (.axis k) 0x0101 else s

/-- A filtered switch of an axis takes a new value (R603 to R608): 0 LIMP, 1 LIMN, 2 HOME; `edge` is the axis position at the
first sample of the accepted run (R605). -/
def State.switchChange (s : State) (k which : Nat) (on : Bool) (edge : Nat) : State :=
  let s1 := s.onAxis k fun a =>
    if which = 0 then { a with limp := on, edge := edge % 2 ^ 32 }
    else if which = 1 then { a with limn := on, edge := edge % 2 ^ 32 }
    else { a with home := on, edge := edge % 2 ^ 32 }
  let s2 := match (s1.axis k).move with
    | none => s1
    | some m =>
      match m.homing with
      | some h => s1.homeSwitch k m h which on (edge % 2 ^ 32)
      | none => if on && which ≤ 1 && (m.pos == (which == 0)) then s1.axisLimit k else s1
  s2.bothLimits k

/-- The standstill delay has run out without a step (R609). -/
def State.standstillAction (s : State) (k : Nat) : State :=
  let c := s.axisCfg k
  let act := field c 23 22
  match s.stageOf k with
  | none => s
  | some g =>
    if s.isRunning (.axis k) && field c 31 24 != 0 && (act == 1 || act == 2) then
      (s.onAxis k fun a => { a with standstill := true }).onGroup g fun x => { x with standstill := act }
    else s

/-- The stage group of an axis is named by another axis that is not STOPPED (R610). -/
def State.stageShared (s : State) (k : Nat) : Bool :=
  match s.stageOf k with
  | none => false
  | some g => (s.axesOfStage g).any fun x => x != k && !s.isStopped (.axis x)

/-! ### PWM groups -/

/-- Trip inputs that a group names and that are active. -/
def State.tripsOf (s : State) (g : Nat) : Nat := field (s.groupCfg g) 31 24 &&& s.aux.trips

/-- Any loop engine is in debug halt (R624). -/
def State.anyHalted (s : State) : Bool := s.le.engines.any (·.halted)

/-- A trip input becomes active: its event, and FAULT of the groups that name it (R624, R627). -/
def State.tripActive (s : State) (t : Nat) : State :=
  if bitAt s.aux.trips t then s
  else
    let s1 := (s.onAux fun u => { u with trips := setBits u.trips (1 <<< t) }).raise (248 + t)
    s1.groupsFault (fun g => bitAt (field (s1.groupCfg g) 31 24) t) 0x0101

/-- A trip input is no longer active (R624). -/
def State.tripInactive (s : State) (t : Nat) : State := s.onAux fun u => { u with trips := clearBits u.trips (1 <<< t) }

/-- The trip settings take effect as a group passes to RUNNING: a polarity that changes turns its input's active state over (R16,
Table 14-17). -/
def State.tripsRestart (s : State) : State :=
  (List.range 8).foldl (fun s t =>
    let pol := bitAt (s.cfg (0x7880 + t) 0) 16
    if bitAt s.aux.tripPol t == pol then s
    else
      let s1 := s.onAux fun u =>
        { u with tripPol := if pol then setBits u.tripPol (1 <<< t) else clearBits u.tripPol (1 <<< t) }
      if bitAt s.aux.trips t then s1.tripInactive t else s1.tripActive t) s

/-- A period of a group starts (R613, R617 to R620, R622, R629): the first one only with a valid calibration. -/
def State.periodStart (s : State) (g : Nat) : State :=
  if s.fnSt (.pwm g) = .starting then
    if (s.group g).armed && s.aux.calibrated then
      let s1 := (s.onGroup g fun x => { x with period := some 0, next := x.next + s.periodCycles g }).setFn (.pwm g) .running
      ((s1.pwmReload g).pwmItem g 0).tripsRestart
    else s
  else if s.isRunning (.pwm g) then
    let n := match (s.group g).period with | some n => n + 1 | none => 0
    ((s.onGroup g fun x => { x with period := some n, next := x.next + s.periodCycles g }).pwmReload g).pwmItem g n
  else s

/-- START of a group (R613, R620, Table 14-16): LATE clears and the next period is number 0. -/
def State.pwmStart (s : State) (g : Nat) : State :=
  let f := 96 + g
  let open_ := s.way.load f != 0 || s.way.held.any (fun i => i.flow == f)
  let s1 := s.onGroup g fun x => { x with armed := false, period := none, late := false, itemOpen := open_ }
  if s1.tripsOf g != 0 then s1.fault (.pwm g) 0x0101
  else if s1.anyHalted then s1.fault (.pwm g) 0x0102
  else s1

/-! ### Feedback inputs -/

/-- START of a feedback input (R634 to R636): nothing counted or latched yet, the position kept. -/
def State.feedbackStart (s : State) (n : Nat) : State :=
  s.onFeedback n fun x =>
    { x with latched := false, counting := false, window := 0, last := none, interval := none, tickCounts := 0 }

/-- The signed count of a change of the filtered levels, or none for an illegal one (R630, R631). -/
def State.feedbackCount (s : State) (n : Nat) (x : Feedback) (a b : Bool) : Option Int :=
  let c := s.cfg (0x7C01 + 0x10 * n) 0
  let sign : Int := if bitAt c 7 then -1 else 1
  if field c 1 0 = 1 then
    if a != x.a && b != x.b then none
    else if a == x.a && b == x.b then some 0
    else some (sign * (if (a != x.b) == Config.quadratureUp then 1 else -1))
  else if a && !x.a then some (sign * (if b then 1 else -1))
  else some 0

/-- Filtered A and B of a feedback input take new levels (R630 to R633). -/
def State.feedbackEdge (s : State) (n : Nat) (a b : Bool) (t : Nat) : State :=
  let x := s.feedback n
  let s1 := s.onFeedback n fun x => { x with a := a, b := b }
  if !s.isRunning (.feedback n) then s1
  else
    match s.feedbackCount n x a b with
    | none => s1.fault (.feedback n) 0x0101
    | some d =>
      if d = 0 then s1
      else
        let s2 := s1.onFeedback n fun x => x.count d s.controlCycle (t / 1000)
        let s3 := (s.axesOfFeedback n).foldl (fun s k => s.onAxis k fun y => { y with unseen := 0 }) s2
        if (s3.feedback n).tickCounts > field (s.cfg (0x7C01 + 0x10 * n) 0) 23 16 then s3.fault (.feedback n) 0x0102 else s3

/-- An index edge latches positions; the last phase of method 5 meets its end condition (R634, R606, Table 14-5). -/
def State.indexEdge (s : State) (n : Nat) : State :=
  if !s.isRunning (.feedback n) then s
  else
    let s1 := s.onFeedback n fun x => { x with indexLatch := x.position, latched := true }
    (s.axesOfFeedback n).foldl (fun s k =>
      let s2 := s.onAxis k fun a => { a with indexPos := a.position }
      match (s2.axis k).move with
      | some m =>
        match m.homing with
        | some h => if h.phase = 4 ∧ m.stopping = false then s2.phaseEnd k 0 (some (s2.axis k).position) else s2
        | none => s2
      | none => s2) s1

/-- A speed window ends (R635). -/
def State.speedWindow (s : State) (n : Nat) : State :=
  if s.isRunning (.feedback n) then
    let i := 0x7C02 + 0x10 * n
    s.onFeedback n fun x => x.endWindow (s.cfg i 1) (s.cfg i 2) s.controlCycle
  else s

/-! ### Objects -/

/-- Axis status (Table 14-10). -/
def Axis.statusWord (a : Axis) : Nat :=
  let ph := match a.move with | some m => (match m.homing with | some h => h.phase | none => 0) | none => 0
  let decel := match a.move with | some m => m.decel || m.stopping | none => false
  let moving := match a.move with | some m => m.v != 0 | none => false
  a.status <<< 28 ||| ph <<< 24 ||| b2n a.homed <<< 7 ||| b2n a.standstill <<< 6 ||| b2n a.dir <<< 5 ||| b2n a.home <<< 4 |||
    b2n a.limn <<< 3 ||| b2n a.limp <<< 2 ||| b2n decel <<< 1 ||| b2n moving

/-- Raw levels and active states of the trip inputs (0x7890:01). -/
def State.tripStates (s : State) : Nat :=
  let raw := (List.range 8).filter fun t => bitAt s.aux.trips t == bitAt s.aux.tripPol t
  maskOf raw <<< 8 ||| s.aux.trips

/-- Values of the unit that State computes (Tables 14-9, 14-16, 14-17, 14-20). -/
def State.readAux (s : State) (idx sub : Nat) : Option Octets :=
  if idx = 0x7890 then
    some (toLE 4 (if sub = 1 then s.tripStates else b2n s.aux.calibrated <<< 31))
  else
    match instOf idx 0x7006 0x40 16, instOf idx 0x7804 0x10 8, instOf idx 0x7C03 0x10 16 with
    | some k, _, _ =>
      let a := s.axis k
      some (toLE 4 (if sub = 1 then a.statusWord else if sub = 2 then a.position else if sub = 3 then a.speed else a.edge))
    | _, some g, _ => some (toLE 4 (s.groupStatus g))
    | _, _, some n =>
      let x := s.feedback n
      some (toLE 4 (if sub = 1 then x.position else if sub = 2 then ofSigned 32 x.speed else if sub = 3 then x.indexLatch
        else b2n x.counting <<< 2 ||| b2n x.latched <<< 1 ||| b2n x.up))
    | _, _, _ => none

/-- State checks of writes (R601, R618, R628). -/
def State.auxRefused (s : State) (idx v : Nat) : Option Nat :=
  match instOf idx 0x7005 0x40 16, instOf idx 0x7803 0x10 8 with
  | some k, _ => s.moveRefused k v
  | _, some g => if bitAt (s.groupCfg g) 7 then some abState else none
  | _, _ =>
    if 0x7880 ≤ idx ∧ idx ≤ 0x7887 ∧ ((List.range 8).any fun g => !s.isStopped (.pwm g)) = true then some abState else none

/-- Writes that act on the unit. -/
def State.applyAux (s : State) (idx sub v : Nat) : State :=
  match instOf idx 0x7005 0x40 16, instOf idx 0x7803 0x10 8 with
  | some k, _ => s.applyMove k v
  | _, some g => s.onGroup g fun x => { x with shadow := upd x.shadow (sub - 1) fun _ => v }
  | _, _ => s

/-! ### Steps -/

/-- PROFILE_TICK (R593, R597): the profile tick at microsecond `us` of ring time, for one axis. -/
def execProfileTick (k : Fin 16) (us : Nat) (s : State) : Host.Outcome State Fault Refusal :=
  .next ((s.advanceTo (1000 * us)).profileTick k.val (1000 * us))

/-- SWITCH_FILTER_CHANGE (R604). -/
def execSwitchFilterChange (k : Fin 16) (which : Fin 3) (active : Bool) (edge : Nat) (s : State) :
    Host.Outcome State Fault Refusal :=
  .next (s.switchChange k.val which.val active edge)

/-- STANDSTILL_DELAY_EXPIRY (R609). -/
def execStandstillDelayExpiry (k : Fin 16) (s : State) : Host.Outcome State Fault Refusal := .next (s.standstillAction k.val)

/-- PWM_PERIOD_START (R613): a group's next period starts at its control cycle. -/
def execPwmPeriodStart (g : Fin 8) (s : State) : Host.Outcome State Fault Refusal :=
  .next ((if (s.group g.val).armed then s.toPeriod g.val else s).periodStart g.val)

/-- TRIP_INPUT_ACTIVE (R624, R627). -/
def execTripInputActive (t : Fin 8) (s : State) : Host.Outcome State Fault Refusal := .next (s.tripActive t.val)

/-- TRIP_INPUT_INACTIVE (R624, R627). -/
def execTripInputInactive (t : Fin 8) (s : State) : Host.Outcome State Fault Refusal := .next (s.tripInactive t.val)

/-- CALIBRATION_MEASURE (R621, R622): the reference line spans a control cycle or not. -/
def execCalibrationMeasure (ok : Bool) (s : State) : Host.Outcome State Fault Refusal :=
  if s.power.pllLocked then .next (s.onAux fun u => { u with calibrated := ok }) else .next s

/-- FEEDBACK_EDGE (R630): the filtered levels of A and B after it, at ring time `at_`. -/
def execFeedbackEdge (n : Fin 16) (a b : Bool) (at_ : Nat) (s : State) : Host.Outcome State Fault Refusal :=
  .next ((s.advanceTo at_).feedbackEdge n.val a b at_)

/-- INDEX_EDGE (R634). -/
def execIndexEdge (n : Fin 16) (s : State) : Host.Outcome State Fault Refusal := .next (s.indexEdge n.val)

/-- SPEED_WINDOW_END (R635). -/
def execSpeedWindowEnd (n : Fin 16) (s : State) : Host.Outcome State Fault Refusal := .next (s.speedWindow n.val)

end Sys2Proof.Machine
end

