-- ==== Sys2Proof/Machine/Arrival.lean ====
section
/-! DEFINITION. Which commands bring something to a host port or a CAN controller, and when (spec/03_object_dictionary.md R137). -/

namespace Sys2Proof

/-- Instant and port (0, 1 for HP0, HP1 and 2 + n for CANn) at which a command's message arrives; none for a command that brings no
message. -/
def Instr.arrival (i : Instr) : Option (Nat × Nat) :=
  match i with
  | .openSession h _ _ _ => some (h.at_, h.src.port)
  | .close h => some (h.at_, h.src.port)
  | .read h _ _ => some (h.at_, h.src.port)
  | .write h _ _ _ => some (h.at_, h.src.port)
  | .segReadInit h _ _ => some (h.at_, h.src.port)
  | .segRead h _ => some (h.at_, h.src.port)
  | .segWriteInit h _ _ _ => some (h.at_, h.src.port)
  | .segWrite h _ _ => some (h.at_, h.src.port)
  | .segAbort h => some (h.at_, h.src.port)
  | .start _ h => some (h.at_, h.src.port)
  | .stop _ h => some (h.at_, h.src.port)
  | .clear _ h => some (h.at_, h.src.port)
  | .store h => some (h.at_, h.src.port)
  | .restoreDefaults h => some (h.at_, h.src.port)
  | .mainResetRequest h => some (h.at_, h.src.port)
  | .deviceResetRequest h => some (h.at_, h.src.port)
  | .powerModeRun h => some (h.at_, h.src.port)
  | .powerModeDoze h => some (h.at_, h.src.port)
  | .powerModeComputeOff h => some (h.at_, h.src.port)
  | .powerModeMainOff h => some (h.at_, h.src.port)
  | .unfoldRequest _ h => some (h.at_, h.src.port)
  | .snapshot _ _ _ h => some (h.at_, h.src.port)
  | .outputReset _ _ _ h => some (h.at_, h.src.port)
  | .mode _ _ _ h => some (h.at_, h.src.port)
  | .barrierRequest _ _ h => some (h.at_, h.src.port)
  | .regulatorStep _ _ h => some (h.at_, h.src.port)
  | .incrementWrite _ h => some (h.at_, h.src.port)
  | .eventRaise _ h => some (h.at_, h.src.port)
  | .eventClear _ h => some (h.at_, h.src.port)
  | .waystationStatusClear _ h => some (h.at_, h.src.port)
  | .debugEnableWrite _ h => some (h.at_, h.src.port)
  | .lawSelectRequest _ _ h => some (h.at_, h.src.port)
  | .tuneRequest _ _ h => some (h.at_, h.src.port)
  | .traceTriggerNow h => some (h.at_, h.src.port)
  | .moveJoint _ h => some (h.at_, h.src.port)
  | .moveLinear _ h => some (h.at_, h.src.port)
  | .coopMove _ h => some (h.at_, h.src.port)
  | .hold _ h => some (h.at_, h.src.port)
  | .resume _ h => some (h.at_, h.src.port)
  | .cancel _ h => some (h.at_, h.src.port)
  | .groupEngage _ _ h => some (h.at_, h.src.port)
  | .hostStopRequest _ _ h => some (h.at_, h.src.port)
  | .armAcknowledge _ h => some (h.at_, h.src.port)
  | .brakeTestRequest _ h => some (h.at_, h.src.port)
  | .safetyConfirm _ h => some (h.at_, h.src.port)
  | .discardPending h => some (h.at_, h.src.port)
  | .moveAbs _ _ h => some (h.at_, h.src.port)
  | .moveRel _ _ h => some (h.at_, h.src.port)
  | .jogPos _ h => some (h.at_, h.src.port)
  | .jogNeg _ h => some (h.at_, h.src.port)
  | .axisStop _ h => some (h.at_, h.src.port)
  | .home _ h => some (h.at_, h.src.port)
  | .halt _ h => some (h.at_, h.src.port)
  | .dutyWrite _ _ _ h => some (h.at_, h.src.port)
  | .canFrameReceived n _ at_ => some (at_, 2 + n.val)
  | .transmitRequest _ _ h => some (h.at_, h.src.port)
  | .recoveryRequest _ h => some (h.at_, h.src.port)
  | .fabricStatusClear _ h => some (h.at_, h.src.port)
  | .activate h => some (h.at_, h.src.port)
  | .confirm h => some (h.at_, h.src.port)
  | .reject h => some (h.at_, h.src.port)
  | .measureRequest h => some (h.at_, h.src.port)
  | .switchoverTestRequest h => some (h.at_, h.src.port)
  | _ => none

end Sys2Proof
end

