-- ==== Sys2Proof/Machine/CanOps.lean ====
section
/-! DEFINITION. CAN FD controllers: filters, mailboxes, transmission, fault confinement (spec/15_can_fd.md). The counting rules of
ISO 11898-1:2015 that R663 names are taken from that standard (assumption log 30). -/

namespace Sys2Proof.Machine

/-- Index of an object of controller `n`. -/
def canIdx (n off : Nat) : Nat := 0x3800 + 0x100 * n + off

/-- First event of controller `n` (R671, Table 15-25). -/
def canEvent (n k : Nat) : Nat := 256 + 4 * n + k

/-- Controller configuration in force (Table 15-7). -/
def State.canCfg (s : State) (n : Nat) : Nat := s.cfg (canIdx n 2) 0

/-- MODE (R645, Table 15-8). -/
def State.canMode (s : State) (n : Nat) : Nat := field (s.canCfg n) 31 29

/-- Data octets of a frame (after Table 15-11). -/
def canLength (fdf rtr : Bool) (dlc : Nat) : Nat :=
  if rtr then 0
  else if dlc ≤ 8 then dlc
  else if fdf then [12, 16, 20, 24, 32, 48, 64].getD (dlc - 9) 0 else 8

/-- Smallest DLC of an FD frame for a number of octets (R136). -/
def canDlc (n : Nat) : Nat :=
  if n ≤ 8 then n else 9 + ([12, 16, 20, 24, 32, 48].filter fun m => decide (m < n)).length

/-- A frame's data octets, cut or filled with zeros to its data length. -/
def canOctets (f : CanFrame) : Octets := padTo (canLength f.fdf f.rtr f.dlc) f.data

/-- Priority key in arbitration, the lower first: base identifier, RTR or RRS, IDE, identifier extension, RTR or RRS. -/
def canKey (f : CanFrame) : Nat :=
  if bitAt f.ident 31 then
    ((field f.ident 28 18 * 2 + 1) * 2 + 1) * 2 ^ 19 + field f.ident 17 0 * 2 + b2n f.rtr
  else ((field f.ident 10 0 * 2 + b2n f.rtr) * 2) * 2 ^ 19

/-! ### Receiving -/

/-- A filter element holds for a frame (R651). -/
def filterHolds (e : Octets) (f : CanFrame) : Bool :=
  let ext := bitAt f.ident 31
  let w := if ext then 29 else 11
  let mask := u32At e 8
  let ident := field f.ident 28 0
  let u := ((ident &&& mask) + 2 ^ w - (u32At e 4 &&& mask) % 2 ^ w) % 2 ^ w
  bitAt (u8At e 0) 0 && (bitAt (u8At e 0) 2 == ext) && decide (u < u32At e 12) &&
    (!bitAt (u8At e 0) 3 ||
      (!(canOctets f).isEmpty && (u8At (canOctets f) 0 &&& u8At e 3) == (u8At e 2 &&& u8At e 3)))

/-- The element that decides a frame. -/
def State.filterFor (s : State) (n : Nat) (f : CanFrame) : Option (Nat × Octets) :=
  let es := chunks 16 128 (s.obj (canIdx n 3) 0)
  (es.zipIdx.find? fun x => filterHolds x.1 f).map fun x => (x.2, x.1)

/-- Regulator time rounded to the quantum of a CAN timestamp (Table 06-10). -/
def State.canStamp (s : State) : Octets :=
  let q := roundEven (2 * (s.time.fine : Int)) (25 * 2 ^ 48)
  let ns := (q * 25 / 2).toNat
  toLE 8 (ns / 1000000000) ++ toLE 4 (ns % 1000000000)

/-- The receive record of a frame (Table 15-11). -/
def receiveRecord (f : CanFrame) (element : Nat) (stamp : Octets) : Octets :=
  let flags := b2n f.fdf <<< 7 ||| b2n f.brs <<< 6 ||| b2n f.rtr <<< 5 ||| b2n f.esi <<< 4 ||| 0x08
  toLE 4 f.ident ++ toLE 1 flags ++ toLE 1 f.dlc ++ toLE 1 element ++ toLE 1 0 ++ stamp ++ zeros 4 ++ padTo 64 (canOctets f)

/-- CAN clock cycle at the present instant: 80 MHz (R641). -/
def State.canClock (s : State) : Nat := s.time.ringNs * 2 / 25

/-- A mailbox stores a record and locks (R652, R653). -/
def Can.lockBox (c : Can) (b : Nat) (r : Octets) : Can :=
  { c with boxes := (b, r) :: c.boxes.filter (fun x => x.1 != b), locked := setBits c.locked (1 <<< b) }

/-- A frame for a mailbox is stored and locks it, or is lost (R652 to R654). -/
def State.canStore (s : State) (n b element : Nat) (f : CanFrame) (stamp : Octets) : State :=
  let r := receiveRecord f element stamp
  if bitAt (s.can n).locked b then
    let quiet := !s.way.pend.getLsbD (canEvent n 3)
    (s.onCan n fun c =>
      { c with lost := setBits c.lost (1 <<< b), missed := some (s.canClock, b, r, quiet) }).raise (canEvent n 3)
  else s.onCan n fun c => c.lockBox b r

/-- A frame brings a message to the enabled dictionary endpoint (R135, R648). -/
def State.isRequest (s : State) (n : Nat) (f : CanFrame) : Bool :=
  s.cfg (canIdx n 0x10) 1 == 1 && f.ident % 2 ^ 32 == s.cfg (canIdx n 0x10) 2

/-- A received frame that is no dictionary message goes to a mailbox or nowhere (R648, R651). -/
def State.canPlace (s : State) (n : Nat) (f : CanFrame) (stamp : Octets) : State :=
  if s.isRequest n f then s
  else if f.rtr && bitAt (s.canCfg n) 1 then s
  else
    match s.filterFor n f with
    | some e => if bitAt (u8At e.2 0) 1 then s.canStore n (u8At e.2 1) e.1 f stamp else s
    | none => if bitAt (s.canCfg n) 0 then s.canStore n 31 0xFF f stamp else s

/-- Mailbox `b` released: NEW and LOST clear (R653). -/
def Can.freeBox (c : Can) (b : Nat) : Can :=
  { c with
    boxes := c.boxes.map fun x => if x.1 = b then (b, x.2.modify 4 fun y => y &&& 0xF7#8) else x
    locked := clearBits c.locked (1 <<< b), lost := clearBits c.lost (1 <<< b), missed := none }

/-- The lock of mailbox `b` is released. A frame that the lock turned away in this CAN clock cycle is stored after all, and the
frame-lost event it raised is taken back (R653, R655). -/
def State.canRelease (s : State) (n b : Nat) : State :=
  let s1 := s.onCan n fun c => c.freeBox b
  match (s.can n).missed with
  | some (t, m, r, quiet) =>
    if t = s.canClock ∧ m = b then
      let s2 := s1.onCan n fun c => c.lockBox b r
      if quiet then s2.onWay fun w => { w with pend := w.pend &&& ~~~BitVec.ofNat 512 (1 <<< canEvent n 3) } else s2
    else s1
  | none => s1

/-! ### Fault confinement (R663 to R667) -/

/-- Errors are counted in the controller's mode (Table 15-8). -/
def State.canCounts (s : State) (n : Nat) : Bool := s.canMode n != 1 && s.canMode n != 2

/-- WARN. -/
def Can.warn (c : Can) : Bool := decide (96 ≤ c.tec) || decide (96 ≤ c.rec_)

/-- Entry to bus-off: pending transmissions are abandoned, and recovery starts by itself only in NORMAL (R664, R667). -/
def Can.busOff (c : Can) : Can :=
  { c with conf := 2, failed := setBits c.failed c.pending, pending := 0, responses := [], sending := none,
           awaitSw := c.service != 1 }

/-- Error counts changed, with the state they lead to and its events (R663, R671). -/
def State.canErrors (s : State) (n tec rec_ : Nat) : State :=
  let old := s.can n
  let s1 := s.onCan n fun c => { c with tec := min tec 511, rec_ := min rec_ 255 }
  let c := s1.can n
  let s2 := if c.warn && !old.warn then s1.raise (canEvent n 0) else s1
  if old.conf = 2 then s2
  else if 256 ≤ tec then (s2.onCan n Can.busOff).raise (canEvent n 2)
  else if 128 ≤ tec ∨ 128 ≤ rec_ then
    (if old.conf = 1 then s2 else (s2.onCan n fun c => { c with conf := 1 }).raise (canEvent n 1))
  else s2.onCan n fun c => { c with conf := 0 }

/-- A frame sent or received without error leaves START-UP and RECOVERY (Table 15-20). -/
def Can.cleanFrame (c : Can) : Can := if c.service = 0 ∨ c.service = 2 then { c with service := 1 } else c

/-- A frame received without error: the receive error count falls; above 127 it takes a value from 119 to 127 that the standard
leaves open. -/
def State.canReceived (s : State) (n : Nat) : State :=
  let s1 := s.onCan n Can.cleanFrame
  let c := s1.can n
  if !s.canCounts n || c.rec_ == 0 then s1
  else if c.rec_ ≤ 127 then s1.canErrors n c.tec (c.rec_ - 1)
  else let d := s1.draw; d.2.canErrors n c.tec (119 + d.1 % 9)

/-- The controller takes part in the traffic of its bus. -/
def State.canOn (s : State) (n : Nat) : Bool :=
  s.isRunning (.can n) && (s.can n).conf != 2 && !(s.can n).integrating

/-- The controller follows the traffic of its bus; after STOP it finishes the frame that it receives (R670, Table 15-8). -/
def State.canHears (s : State) (n : Nat) : Bool :=
  (s.isRunning (.can n) || s.fnSt (.can n) == .stopping) && (s.can n).conf != 2 && !(s.can n).integrating && s.canMode n != 3

/-- The controller sends and receives this kind of frame (Table 15-7). -/
def State.canCarries (s : State) (n : Nat) (f : CanFrame) : Bool := !f.fdf || bitAt (s.canCfg n) 7

/-- The controller takes a frame from the bus (R646, Table 15-7). -/
def State.canTakes (s : State) (n : Nat) (f : CanFrame) : Bool := s.canHears n && s.canCarries n f

/-- A detected error while receiving: last error, count, and in restricted operation the wait for bus integration. -/
def State.canFault (s : State) (n lec : Nat) (heavy : Bool) : State :=
  let s1 := s.onCan n fun c => { c with lec := lec, integrating := c.integrating || s.canMode n == 1 }
  let c := s1.can n
  if s.canCounts n then s1.canErrors n c.tec (c.rec_ + if heavy then 8 else 1) else s1

/-- An error in a frame being received: `lec` 1 to 6, or 7 for a protocol exception; `heavy` where the standard counts 8 (R663,
Table 15-7, Table 15-8). -/
def State.canReceiveError (s : State) (n lec : Nat) (heavy : Bool) : State :=
  if !s.canHears n then s
  else if lec = 7 then
    if bitAt (s.canCfg n) 2 then s.onCan n fun c => { c with pex := true, integrating := true }
    else s.canFault n 2 heavy
  else s.canFault n lec heavy

/-- A frame is received from the bus (R646, R648); one with a recessive FDF is a form error where FD_EN is clear (Table 15-7). -/
def State.canFrame (s : State) (n : Nat) (f : CanFrame) : State :=
  if s.canTakes n f then (s.canReceived n).canPlace n f s.canStamp
  else if s.canHears n then s.canFault n 2 false
  else s

/-! ### Transmitting -/

/-- Transmit buffer `b` as it stands (Table 15-16). -/
def State.txBuffer (s : State) (n b : Nat) : Octets := s.obj (canIdx n 0x30) (b + 1)

/-- The frame that a buffer sends, with ESI recessive while error passive (R663). -/
def State.txFrame (s : State) (n b : Nat) : CanFrame :=
  let o := s.txBuffer n b
  let fl := u8At o 4
  let data := match (s.can n).cyclic.find? fun x => x.1 == b with
    | some x => if u8At o 6 = 1 then x.2 else slice o 16 64
    | none => slice o 16 64
  { ident := u32At o 0, fdf := bitAt fl 7, brs := bitAt fl 6, rtr := bitAt fl 5, esi := bitAt fl 7 && (s.can n).conf == 1,
    dlc := u8At o 5, data := data }

/-- Content check of a transmit buffer (R656). -/
def txBufferOk (o : Octets) : Bool :=
  let fl := u8At o 4
  let fdf := bitAt fl 7
  let rtr := bitAt fl 5
  let k := u16At o 8
  let src := u16At o 10
  let words := (canLength fdf rtr (u8At o 5) + 2) / 3
  canIdOk (u32At o 0) && field fl 4 0 == 0 && !(rtr && fdf) && (fdf || !bitAt fl 6) && decide (u8At o 5 ≤ 15) &&
    u8At o 7 == 0 && u32At o 12 == 0 &&
    (if u8At o 6 = 0 then k == 0 && src == 0xFFFF
     else u8At o 6 == 1 && decide (1 ≤ k) && (src == 0xFFFF || (inRange 0x600 0x7FF src && decide (src + words ≤ 0x800))))

/-- Content check of a filter list (R650). -/
def filterListOk (o : Octets) : Bool :=
  (chunks 16 128 o).all fun e =>
    let fl := u8At e 0
    if bitAt fl 0 then
      let lim := if bitAt fl 2 then 2 ^ 29 else 2 ^ 11
      field fl 7 4 == 0 && decide (u8At e 1 ≤ 31) && (bitAt fl 1 || u8At e 1 == 0) && (bitAt fl 3 || (u8At e 2 == 0 && u8At e 3 == 0)) &&
        decide (u32At e 4 < lim) && decide (u32At e 8 < lim) && inRange 1 lim (u32At e 12)
    else allZero e

/-- Why a transmit request is refused (Table 15-17, R658, R780). -/
def State.txRequestRefused (s : State) (n mask : Nat) : Option Nat :=
  if !s.pair.acting || !s.isRunning (.can n) || s.canMode n == 1 || s.canMode n == 2 ||
      ((bitsOf 16 mask).any fun b => bitAt (u8At (s.txBuffer n b) 4) 7 && !bitAt (s.canCfg n) 7) then some abState
  else if (bitsOf 16 mask).any fun b => u8At (s.txBuffer n b) 6 != 0 then some abRange
  else none

/-- Buffers become pending; FAILED clears for them (R658, Table 15-19). -/
def State.txPend (s : State) (n mask : Nat) : State :=
  s.onCan n fun c => { c with pending := setBits c.pending mask, failed := clearBits c.failed (mask - (mask &&& c.pending)) }

/-- Data octets that a cyclic buffer takes at its trigger in cycle `c` (R659). -/
def State.cyclicData (s : State) (o : Octets) (c : Nat) : Octets :=
  let src := u16At o 10
  if src = 0xFFFF then slice o 16 64
  else
    (List.range 22).flatMap fun i => toLE 3 (wordAt (nth s.le.pubs ((c + 2) % 4) []) (src + i))

/-- A cyclic buffer triggers (R659, R660). -/
def State.cyclicTrigger (s : State) (n b c : Nat) : State :=
  let busy := match (s.can n).sending with | some x => x.1 == b | none => false
  if busy then s.onCan n fun x => { x with skipped := setBits x.skipped (1 <<< b) }
  else
    let d := (s.cyclicData (s.txBuffer n b) c).take 64
    (s.onCan n fun x => { x with cyclic := (b, d) :: x.cyclic.filter fun y => y.1 != b }).txPend n (1 <<< b)

/-- The cyclic buffers of every controller at the start of board cycle `c` (R647, R659); only an acting unit's trigger (R780). -/
def State.canCycle (s : State) (c : Nat) : State :=
  (List.range 4).foldl (fun s n =>
    if s.pair.acting && s.isRunning (.can n) && s.canCounts n then
      (List.range 16).foldl (fun s b =>
        let o := s.txBuffer n b
        if u8At o 6 = 1 ∧ c % u16At o 8 = 0 then s.cyclicTrigger n b c else s) s
    else s) s

/-- Frames that wait: dictionary responses first, then buffers in ascending number; an FD frame waits on while FD_EN is clear
(Table 15-7; assumption log 73), and any but a response while the unit does not act (R780). -/
def State.txWaiting (s : State) (n : Nat) : List (Nat × CanFrame) :=
  (match (s.can n).responses with
   | f :: _ => [(16, { f with esi := (s.can n).conf == 1 })]
   | [] => []) ++
  ((bitsOf 16 (s.can n).pending).map fun b => (b, s.txFrame n b)).filter fun x => s.pair.acting && s.canCarries n x.2

/-- The bus is free: the frame of highest arbitration priority is offered (R661). -/
def State.canOffer (s : State) (n : Nat) : State :=
  if s.canOn n && s.canCounts n && (s.can n).sending.isNone then
    let best := (s.txWaiting n).foldl (fun b x => match b with
      | some y => if canKey x.2 < canKey y.2 then some x else b
      | none => some x) (none : Option (Nat × CanFrame))
    if best.isSome then s.onCan n fun c => { c with sending := best, sof := s.canStamp } else s
  else s

/-- A source no longer waits. -/
def Can.unpend (c : Can) (b : Nat) : Can :=
  if b = 16 then { c with responses := c.responses.drop 1 } else { c with pending := clearBits c.pending (1 <<< b) }

/-- A dictionary response has left controller `n` (R76). -/
def State.responseLeft (s : State) (n : Nat) : State :=
  s.onPower fun p =>
    { p with resetAsked := p.resetAsked.map fun x => if x.2.2.1 = n then (x.1, x.2.1, n, x.2.2.2 - 1) else x }

/-- A transmission ends: sent 0, lost in arbitration 1, or in error 2 with its kind and whether an exception of the standard leaves
the count (R644, R646, R662, R663). -/
def State.txEnd (s : State) (n outcome lec : Nat) (exempt : Bool) (delay : Nat) : State :=
  match (s.can n).sending with
  | none => s
  | some x =>
    let cfg := s.canCfg n
    let sat := bitAt cfg 5 && x.2.brs && decide (255 < delay)
    let s1 := s.onCan n fun c => { c with sending := none, tdcSat := c.tdcSat || sat }
    if outcome = 1 then s1
    else if outcome = 0 ∨ (s.canMode n = 4 ∧ lec = 3) then
      let s2 := ((if x.1 = 16 then s1.responseLeft n else s1).onCan n fun c => (c.unpend x.1).cleanFrame)
      let c := s2.can n
      let s3 := s2.canErrors n (c.tec - 1) c.rec_
      if 3 ≤ s.canMode n then (s3.canReceived n).canPlace n x.2 (s.can n).sof else s3
    else
      let s2 := s1.onCan n fun c =>
        let c1 := { c with lec := lec }
        if bitAt cfg 3 then
          { c1.unpend x.1 with failed := if x.1 = 16 then c1.failed else setBits c1.failed (1 <<< x.1) }
        else c1
      let c := s2.can n
      if exempt then s2 else s2.canErrors n (c.tec + 8) c.rec_

/-! ### Function and objects -/

/-- START of a controller: what it clears (R669). -/
def State.canStart (s : State) (n : Nat) : State :=
  s.onCan n fun _ => { Can.initial with service := if 3 ≤ s.canMode n then 3 else 0, integrating := s.canMode n != 3 }

/-- Its configuration is inconsistent (R669). -/
def State.canInconsistent (s : State) (n : Nat) : Bool :=
  let cfg := s.canCfg n
  let nb := s.cfg (canIdx n 1) 1
  let db := s.cfg (canIdx n 1) 2
  let nominal := (field nb 31 27 + 1) * (3 + field nb 26 19 + field nb 18 12)
  let data := (field db 31 27 + 1) * (3 + field db 26 22 + field db 21 18)
  (bitAt cfg 4 && bitAt cfg 7) || (bitAt cfg 7 && decide (nominal < data)) ||
    (s.cfg (canIdx n 0x10) 1 == 1 && (!bitAt cfg 7 || s.canMode n != 0))

/-- 11 recessive bits complete bus integration (R669, Table 15-7). -/
def State.canIntegrated (s : State) (n : Nat) : State :=
  let s1 := s.onCan n fun c => { c with integrating := false }
  if s.fnSt (.can n) = .starting then s1.setFn (.can n) .running else if s.isRunning (.can n) then s1 else s

/-- STOP abandons every pending transmission; the frame being sent is finished first (R670). -/
def State.canStop (s : State) (n : Nat) : State := s.onCan n fun c => { c with pending := 0, responses := [] }

/-- Bus-off recovery ends (R665). -/
def State.canRecovered (s : State) (n : Nat) : State :=
  let c := s.can n
  if c.conf = 2 ∧ c.awaitSw = false ∧ s.isRunning (.can n) = true then
    s.onCan n fun c => { c with tec := 0, rec_ := 0, conf := 0, service := if 3 ≤ s.canMode n then 3 else 2 }
  else s

/-- A dictionary response becomes a frame with the response identifier (R135, R136). -/
def State.canRespond (s : State) (n : Nat) (msg : Octets) : State :=
  let dlc := canDlc msg.length
  let f : CanFrame :=
    { ident := s.cfg (canIdx n 0x10) 3, fdf := true, brs := bitAt (s.canCfg n) 6, rtr := false, esi := false, dlc := dlc,
      data := padTo (canLength true false dlc) msg }
  if s.isRunning (.can n) then s.onCan n fun c => { c with responses := c.responses ++ [f] } else s

/-- Controller status 0x3805:00 (Table 15-23). -/
def Can.status (c : Can) : Nat :=
  c.tec <<< 23 ||| c.rec_ <<< 15 ||| c.conf <<< 13 ||| c.service <<< 11 ||| b2n c.warn <<< 10 ||| b2n c.awaitSw <<< 9 |||
    b2n c.pex <<< 8 ||| b2n c.tdcSat <<< 7 ||| c.lec <<< 4

/-- CAN objects that State computes. -/
def State.readCan (s : State) (n off sub : Nat) : Option Octets :=
  let c := s.can n
  if off = 5 then some (toLE 4 c.status)
  else if off = 0x20 then
    some (match c.boxes.find? (fun x => x.1 == sub - 1) with | some x => x.2 | none => zeros 88)
  else if off = 0x21 then some (toLE 8 (c.lost <<< 32 ||| c.locked))
  else if off = 0x32 then some (toLE 8 (c.pending <<< 48 ||| c.failed <<< 32 ||| c.skipped <<< 16))
  else none

/-- Content checks of CAN DOMAINs (R650, R656). -/
def checkCan (off : Nat) (o : Octets) : Bool :=
  if off = 3 then filterListOk o else if off = 0x30 then txBufferOk o else true

/-- Range checks across objects: the two identifiers differ (Table 03-14). -/
def State.canRangeOk (s : State) (n off sub v : Nat) : Bool :=
  if off = 0x10 ∧ sub = 2 then v != s.cfg (canIdx n 0x10) 3
  else if off = 0x10 ∧ sub = 3 then v != s.cfg (canIdx n 0x10) 2
  else true

/-- Why a write to a CAN object is refused in its state (R657, R658, R666). -/
def State.canRefused (s : State) (n off sub v : Nat) : Option Nat :=
  if off = 6 then (if (s.can n).awaitSw then none else some abState)
  else if off = 0x30 then (if bitAt (s.can n).pending (sub - 1) then some abState else none)
  else if off = 0x31 then s.txRequestRefused n v
  else none

/-- Writes that act on a controller at once. -/
def State.applyCan (s : State) (n off v : Nat) : State :=
  if off = 6 then s.onCan n fun c => { c with awaitSw := false }
  else if off = 0x31 then s.txPend n v
  else s

/-! ### Commands -/

/-- BUS_FREE_ARBITRATION (R661). -/
def execBusFreeArbitration (n : Fin 4) (s : State) : Host.Outcome State Fault Refusal := .next (s.canOffer n)

/-- BUS_OFF_RECOVERY_COMPLETE (R665). -/
def execBusOffRecoveryComplete (n : Fin 4) (s : State) : Host.Outcome State Fault Refusal := .next (s.canRecovered n)

/-- BUS_INTEGRATION_DONE (R669). -/
def execBusIntegrationDone (n : Fin 4) (s : State) : Host.Outcome State Fault Refusal := .next (s.canIntegrated n)

end Sys2Proof.Machine
end

