-- ==== Sys2Proof/Machine/Fabric.lean ====
section
/-! DEFINITION. The Bazaar fabric: accesses, arbitration, locked sequences, windows (spec/17_memory_fabric.md). -/

namespace Sys2Proof.Machine

/-! ### Words -/

/-- The bits of a word that a mask of octets covers. -/
def maskBits (mask : Nat) : Nat := (bitsOf 8 mask).foldl (fun a i => a + 0xFF * 2 ^ (8 * i)) 0

/-- A word after a plain, bit-set or bit-clear write with a mask of octets (R698, R706). -/
def wordAfter (op old mask data : Nat) : Nat :=
  let m := maskBits mask
  if op = 1 then old ||| (data &&& m)
  else if op = 2 then clearBits old (data &&& m)
  else clearBits old m ||| (data &&& m)

/-- A requester writes in the region that holds an octet offset (Table 17-2). -/
def regionWriter (a req : Nat) : Bool :=
  if a < 0x080000 then req ≤ 3
  else if a < 0x0C0000 then req == 4
  else if a < 0x100000 then inRange 5 7 req
  else if a < 0x200000 then req == 6 || req == 8 || req == 9 || req == 15 || req == 16
  else if a < 0x500000 then req == 4 || inRange 10 12 req || req == 14
  else if a < 0x600000 then req == 8 || req == 9 || req == 13
  else req == 15

/-- 64-octet line of an octet offset (R716). -/
def lineOf (a : Nat) : Nat := a / 64

/-- The sequence of a requester, if it holds one. -/
def Fabric.seqOf (f : Fabric) (r : Nat) : Option LockSeq := f.seqs.find? (·.holder == r)

/-- A line is locked by a requester other than `r`. -/
def Fabric.lockedBy (f : Fabric) (line r : Nat) : Bool := f.seqs.any fun q => q.holder != r && q.lines.contains line

/-- The held word of a requester's sequence (R718). -/
def Fabric.heldWord (f : Fabric) (r w : Nat) : Option Nat :=
  match f.seqOf r with
  | some q => (q.held.find? (·.1 == w)).map (·.2)
  | none => none

/-- A held word put at its place. -/
def heldPut (l : List (Nat × Nat)) (w v : Nat) : List (Nat × Nat) :=
  match l with
  | [] => [(w, v)]
  | e :: r => if w < e.1 then (w, v) :: e :: r else if e.1 = w then (w, v) :: r else e :: heldPut r w v

/-! ### Accesses -/

/-- Sticky fabric status bits set, in the fabric cycle in progress (R726). -/
def State.setFabric (s : State) (m : Nat) : State :=
  s.onFab fun f =>
    { f with sticky := setBits f.sticky m, recentCycle := f.cycle,
             recentSticky := if f.recentCycle = f.cycle then setBits f.recentSticky m else m }

/-- A requester uses port B of its bank (Table 17-3). -/
def onPortB (r : Nat) : Bool := decide (8 ≤ r)

/-- The word after port A's write in cycle `c`: port B's write of the same word in that cycle is applied after it (R705). -/
def Fabric.mergeWrite (f : Fabric) (w c op mask data : Nat) : Nat :=
  match f.moves.find? fun m => m.word == w && m.cycle == c with
  | some m => wordAfter m.op (wordAfter op m.old mask data) m.mask m.data
  | none => wordAfter op (wordAt f.mem w) mask data

/-- A write reaches word `w` in cycle `c` through a port (R705). -/
def Fabric.portWrite (f : Fabric) (portB : Bool) (w c op mask data : Nat) : Fabric :=
  if portB then
    let old := wordAt f.mem w
    { f with mem := wordPut f.mem w (wordAfter op old mask data), moves := f.moves ++ [⟨w, c, op, mask, data, old⟩] }
  else { f with mem := wordPut f.mem w (f.mergeWrite w c op mask data) }

/-- A write through a port, and what the other port's read of the word in the same cycle then returns (R704, R705). -/
def State.portWrite (s : State) (portB : Bool) (w c op mask data : Nat) : State :=
  let s1 := s.onFab fun f => f.portWrite portB w c op mask data
  s1.onFab fun f =>
    if f.readB == portB then f
    else { f with lastRead := (f.lastRead.zip f.readAt).map fun x => if x.2 = (w, c) then s1.bazRead w else x.1 }

/-- One word of a write by requester `r` in fabric cycle `c` (R698 to R700, R704 to R706, R718). -/
def State.fabWrite (s : State) (r op a mask data c : Nat) : State :=
  let w := a / 8
  if 0xC00000 ≤ a ∨ op = 3 ∨ regionWriter a r = false then (s.setFabric 2).raise 352
  else
    match s.fab.seqOf r with
    | some q =>
      if q.lines.contains (lineOf a) then
        let old := (s.fab.heldWord r w).getD (wordAt s.fab.mem w)
        s.onFab fun f => { f with seqs := f.seqs.map fun q =>
          if q.holder = r then { q with held := heldPut q.held w (wordAfter op old mask data) } else q }
      else s.portWrite (onPortB r) w c op mask data
    | none => s.portWrite (onPortB r) w c op mask data

/-- One word of a read by requester `r` (R699, R701, R718). -/
def State.fabRead (s : State) (r op a : Nat) : Nat :=
  if op = 3 then 0 else (s.fab.heldWord r (a / 8)).getD (s.bazRead (a / 8))

/-- The function whose own memory an uncorrectable word counts against (R696 and the fault codes of the chapters). -/
def readerFn (r : Nat) : Option Fn :=
  if r = 4 then some .waystation
  else if r = 8 ∨ r = 9 then some (.hostPort (r - 8))
  else if r = 13 then some .voxel
  else if r = 14 then some .separation
  else none

/-- Errors of words read (R696, R726, Table 17-14). -/
def State.fabEcc (s : State) (r ecc : Nat) : State :=
  if ecc = 1 then (s.setFabric 4).raise 354
  else if ecc = 2 then
    let s1 := (s.setFabric 8).raise 355
    match readerFn r with
    | some f => s1.faultActive f 0x0101
    | none => s1
  else s

/-- The first `n` words of an access, one in each fabric cycle from `c` on (R698, R707, R713). A read takes what the word holds,
whichever port writes it in that cycle (R704). -/
def State.fabAccess (s : State) (x : FabricReq) (n c : Nat) : State :=
  let base := x.offset / 8 * 8
  let ws := (x.words.take n).zipIdx
  if x.write then ws.foldl (fun s w => s.fabWrite x.req x.op (base + 8 * w.2) w.1.1 w.1.2 (c + w.2)) s
  else
    let s1 := s.onFab fun f =>
      { f with lastRead := ws.map fun w => s.fabRead x.req x.op (base + 8 * w.2)
               readAt := ws.map fun w => (base / 8 + w.2, c + w.2)
               readB := onPortB x.req }
    s1.fabEcc x.req x.ecc

/-! ### Time of the fabric -/

/-- One step of an LFSR (R710). -/
def lfsrStep (v : Nat) : Nat := if v % 2 = 1 then (v >>> 1) ^^^ 0x80200003 else v >>> 1

/-- `n` steps. -/
def lfsrSteps (v : Nat) : Nat → Nat
  | 0 => v
  | n + 1 => lfsrSteps (lfsrStep v) n

/-- Hold limit in fabric cycles (Table 17-6). -/
def State.holdLimit (s : State) : Nat := 8 * s.cfg 0x2E02 0

/-- A requester other than the holder waits for a line of the sequence (R719). -/
def Fabric.waitedFor (f : Fabric) (q : LockSeq) : Bool := f.waits.any fun w => w.req != q.holder && q.lines.contains w.line

/-- LFSRs and hold timers counted on to fabric cycle `c`, after which accesses take place (R707, R710, R719, R720). -/
def State.fabTo (s : State) (c : Nat) : State :=
  let d := c - s.fab.cycle
  let lim := s.holdLimit
  s.onFab fun f =>
    { f with cycle := max c f.cycle, moves := f.moves.filter fun m => decide (c < m.cycle), banks := f.banks.map fun b => { b with lfsr := lfsrSteps b.lfsr d },
             seqs := f.seqs.map fun q => if f.waitedFor q then { q with timer := min lim (q.timer + d) } else q }

/-! ### Arbitration (R707 to R715) -/

/-- Tickets of a requester (Table 17-5). -/
def State.tickets (s : State) (r : Nat) : Nat := s.cfg 0x2E01 (r + 1)

/-- Real-time class (Table 17-3). -/
def realTime (r : Nat) : Bool := r ≤ 4

/-- Losses in a row of a requester at a port. -/
def FabPort.lossesOf (p : FabPort) (r : Nat) : Nat := match p.losses.find? (·.1 == r) with | some x => x.2 | none => 0

/-- A requester's losses in a row set. -/
def FabPort.setLosses (p : FabPort) (r n : Nat) : FabPort :=
  { p with losses := (if n = 0 then [] else [(r, n)]) ++ p.losses.filter (·.1 != r) }

/-- The lottery's winner among requesters in ascending number for a draw x (R709). -/
def State.lottery (s : State) : List Nat → Nat → Option Nat
  | [], _ => none
  | r :: l, x => if x < s.tickets r then some r else s.lottery l (x - s.tickets r)

/-- The winner of a class (R708, R709). -/
def State.classWinner (s : State) (p : FabPort) (draw : Nat) (l : List Nat) : Option Nat :=
  match l.find? fun r => decide (16 ≤ p.lossesOf r) with
  | some r => some r
  | none => s.lottery l (draw * (l.foldl (fun a r => a + s.tickets r) 0) / 65536)

/-- The winner of a phase among requesters in ascending number, and the port after it (R708 to R712). -/
def State.phase (s : State) (bank : Nat) (portB : Bool) (l : List Nat) : Option Nat × State :=
  let b := nth s.fab.banks bank ⟨0, ⟨[], 0⟩, ⟨[], 0⟩⟩
  let p := if portB then b.b else b.a
  let rt := l.filter realTime
  let bulk := l.filter fun r => !realTime r
  let cls := if rt.isEmpty ∨ (!bulk.isEmpty && decide (3 ≤ p.rtRun)) = true then bulk else rt
  match s.classWinner p (if portB then b.lfsr % 65536 else b.lfsr / 65536) cls with
  | none => (none, s)
  | some w =>
    let p1 := cls.foldl (fun p r => p.setLosses r (if r = w then 0 else p.lossesOf r + 1)) p
    let p2 := { p1 with rtRun := if realTime w && !bulk.isEmpty then p.rtRun + 1 else 0 }
    (some w, s.onFab fun f => { f with banks := upd f.banks bank fun x => if portB then { x with b := p2 } else { x with a := p2 } })

/-- An access may take part in a phase of a bank's port: its requester uses that port, its word lies in the bank, and no other
requester has locked its line (R698, R703, R717). -/
def State.contends (s : State) (bank : Nat) (portB : Bool) (x : FabricReq) : Bool :=
  decide (x.req ≤ 16) && (onPortB x.req == portB) && inRange 1 8 x.words.length &&
  (decide (0xC00000 ≤ x.offset) || x.offset / 0x40000 == bank && decide (x.offset / 8 + x.words.length ≤ 0x8000 * (bank + 1))) &&
  !((List.range x.words.length).any fun i => s.fab.lockedBy (lineOf (x.offset / 8 * 8 + 8 * i)) x.req)

/-- The accesses that wait for a line another requester has locked (R717). -/
def State.lineWaits (s : State) (l : List FabricReq) : List LineWait :=
  l.filterMap fun x =>
    ((List.range x.words.length).map fun i => lineOf (x.offset / 8 * 8 + 8 * i)).find? (fun n => s.fab.lockedBy n x.req)
      |>.map fun n => ⟨x.req, n, false⟩

/-- A phase of a bank port at fabric cycle `c` with the requests present; the winner's access takes place, whole or, when it is
revoked, for its first `moved` words (R707 to R715). -/
def State.bazaarPhase (s : State) (bank : Nat) (portB : Bool) (c moved : Nat) (l : List FabricReq) : State :=
  let s1 := s.fabTo c
  let s2 := s1.onFab fun f =>
    { f with waits := f.waits.filter (fun w => w.lock || !(l.any fun x => x.req == w.req)) ++ s1.lineWaits l }
  let ok := l.filter (s2.contends bank portB)
  let reqs := (List.range 17).filter fun r => ok.any fun x => x.req == r
  let r := s2.phase bank portB reqs
  match r.1 with
  | none => r.2
  | some w =>
    match ok.find? (·.req == w) with
    | none => r.2
    | some x =>
      let cut := !realTime w && decide (moved < x.words.length)
      let s3 := if cut then
          -- a revoked burst keeps its loss count (R714)
          let b := nth s2.fab.banks bank ⟨0, ⟨[], 0⟩, ⟨[], 0⟩⟩
          let n := (if portB then b.b else b.a).lossesOf w
          r.2.onFab fun f => { f with banks := upd f.banks bank fun y =>
            if portB then { y with b := y.b.setLosses w n } else { y with a := y.a.setLosses w n } }
        else r.2
      s3.fabAccess x (if cut then moved else 8) (c + 1)

/-! ### Locked sequences (R716 to R722) -/

/-- Requesters that use locked sequences. -/
def mayLock (r : Nat) : Bool := inRange 10 16 r

/-- A line granted to a requester; the first one starts its sequence (R716, R719). -/
def Fabric.grant (f : Fabric) (r line : Nat) : Fabric :=
  match f.seqOf r with
  | some _ => { f with seqs := f.seqs.map fun q => if q.holder = r then { q with lines := q.lines ++ [line] } else q }
  | none => { f with seqs := f.seqs ++ [⟨r, [line], [], 0⟩] }

/-- A lock request: refused beyond four lines, granted when the line is free, else it waits (R716, R717). -/
def State.lockRequest (s : State) (r line c : Nat) : State :=
  let s1 := s.fabTo c
  let mine := match s1.fab.seqOf r with | some q => q.lines | none => []
  if !mayLock r || decide (0x30000 ≤ line) || mine.contains line then s1
  else if 4 ≤ mine.length then s1.raise 357
  else if s1.fab.lockedBy line r then s1.onFab fun f => { f with waits := f.waits ++ [⟨r, line, true⟩] }
  else s1.onFab fun f => f.grant r line

/-- A released line goes to one of the requesters that wait for it (R717). -/
def State.lockGrant (s : State) (line c : Nat) : State :=
  let s1 := s.fabTo c
  let w := (List.range 17).filter fun r => s1.fab.waits.any fun x => x.lock && x.line == line && x.req == r
  if s1.fab.seqs.any fun q => q.lines.contains line then s1
  else
    let r := s1.phase (line / 0x1000) true w
    match r.1 with
    | none => r.2
    | some x => r.2.onFab fun f =>
        { f with waits := f.waits.filter fun y => !(y.lock && y.line == line && y.req == x) }.grant x line

/-- UNLOCK: the held words are written in ascending offset, one in each fabric cycle, and every line is released (R718). -/
def State.unlock (s : State) (r c : Nat) : State :=
  let s1 := s.fabTo c
  match s1.fab.seqOf r with
  | none => s1
  | some q => (q.held.zipIdx.foldl (fun s x => s.portWrite (onPortB r) x.1.1 (c + 1 + x.2) 0 0xFF x.1.2) s1).onFab fun f =>
      { f with seqs := f.seqs.filter fun y => y.holder != r,
               waits := f.waits.filter fun w => w.lock || !q.lines.contains w.line }

/-- Of the sequences whose timer is at the limit and for a line of which a requester waits, that of the lowest requester number
is cut off (R719, R720, R728). -/
def State.cutOff (s : State) (c : Nat) : State :=
  let s1 := s.fabTo c
  let cut := (List.range 17).find? fun r => match s1.fab.seqOf r with
    | some q => decide (s1.holdLimit ≤ q.timer) && s1.fab.waitedFor q
    | none => false
  match cut with
  | none => s1
  | some r =>
    let lines := match s1.fab.seqOf r with | some q => q.lines | none => []
    let n := stick 16 (s1.fab.cuts + 1)
    let s2 := s1.onFab fun f =>
      { f with seqs := f.seqs.filter (fun y => y.holder != r), cuts := n, lastCut := r,
               waits := f.waits.filter fun w => !(w.req == r) && (w.lock || !lines.contains w.line) }
    let s3 := (s2.setFabric 1).raise 353
    if n = 0xFFFF ∧ s1.fab.cuts ≠ 0xFFFF then s3.raise 356 else s3

/-! ### Windows and objects -/

/-- Content check of a window table (R723). -/
def windowTableOk (o : Octets) : Bool :=
  (chunks 16 16 o).all fun e =>
    if bitAt (u8At e 8) 0 then
      inRange 0x600000 0xBFFFF8 (u32At e 0) && u32At e 0 % 8 == 0 && inRange 8 6291456 (u32At e 4) && u32At e 4 % 8 == 0 &&
      decide (u32At e 0 + u32At e 4 ≤ 0xC00000) && u8At e 8 == 1 && allZero (e.drop 9)
    else allZero e

/-- Base and length of window `w` when it is used. -/
def State.window (s : State) (w : Nat) : Option (Nat × Nat) :=
  let e := slice (s.obj 0x2E03 0) (16 * w) 16
  if bitAt (u8At e 8) 0 then some (u32At e 0, u32At e 4) else none

/-- Refusal of a total length for window content (R724). -/
def State.windowRefused (s : State) (w total : Nat) : Bool :=
  match s.window w with
  | some x => x.2 != total
  | none => true

/-- Content of a window as its object reads: zero until written (Table 17-9). -/
def State.windowContent (s : State) (w : Nat) : Octets :=
  match s.window w with
  | some x => padTo x.2 (s.obj (0x2E20 + w) 0)
  | none => []

/-- A segment of window content carried out as plain writes in ascending offset (R702). -/
def State.windowWrite (s : State) (w off : Nat) (o : Octets) : State :=
  match s.window w with
  | some x => s.onFab fun f => { f with mem := bazWrite f.mem (x.1 + off) o }
  | none => s

/-- Offsets of window `w` that another used window shares. -/
def State.sharedOffsets (s : State) (w : Nat) : List Nat :=
  match s.window w with
  | none => []
  | some x => (List.range 16).flatMap fun v =>
      match s.window v with
      | some y => if v = w then [] else
          (List.range y.2).filterMap fun i => if x.1 ≤ y.1 + i ∧ y.1 + i < x.1 + x.2 then some (y.1 + i) else none
      | none => []

/-- After a window's content was written, words shared with another window hold free values in both (R702). -/
def State.windowOverlap (s : State) (w : Nat) : State :=
  (s.sharedOffsets w).foldl (fun s a =>
    let d := s.drawOctets 1
    let s1 := d.2.onFab fun f => { f with mem := bazWrite f.mem a d.1 }
    (List.range 16).foldl (fun s v =>
      match s.window v with
      | some y => if y.1 ≤ a ∧ a < y.1 + y.2 then s.putObj (0x2E20 + v) 0 (splice (s.windowContent v) (a - y.1) d.1) else s
      | none => s) s1) s

/-- Window contents put into the Bazaar after it was cleared, from the values in force (R702, R141). -/
def State.windowsLoad (s : State) : State :=
  (List.range 16).foldl (fun s w =>
    if (storeGet s.dict.store (0x2E20 + w, 0)).isSome then (s.windowWrite w 0 (s.windowContent w)).windowOverlap w else s) s

/-- START of the fabric windows (R725). -/
def State.fabricStart (s : State) : State :=
  if windowTableOk (s.obj 0x2E03 0) then s else s.fault .fabric 0x0101

/-- Fabric status (Table 17-11). -/
def Fabric.status (f : Fabric) : Nat := f.lastCut <<< 24 ||| f.sticky

/-- Objects of the fabric that State computes (Tables 17-9, 17-10, 17-12). -/
def State.readFabric (s : State) (idx : Nat) : Option Octets :=
  if idx = 0x2E04 then some (toLE 4 s.fab.status)
  else if idx = 0x2E06 then some (toLE 2 s.fab.cuts)
  else if 0x2E20 ≤ idx ∧ idx ≤ 0x2E2F then some (s.windowContent (idx - 0x2E20))
  else none

/-- Fabric cycle at the present instant, at 800 MHz from ring time 0. -/
def State.fabricNow (s : State) : Nat := s.time.ringNs * 4 / 5

/-- A fabric status clear; bits set in the same fabric cycle stay set (Table 17-12, R726). -/
def State.fabricClear (s : State) (v : Nat) : State :=
  s.onFab fun f =>
    let keep := if f.recentCycle = s.fabricNow then f.recentSticky else 0
    { f with sticky := setBits (clearBits f.sticky v) (f.sticky &&& keep) }

/-! ### Steps -/

/-- BAZAAR_ACCESS (R698, R707): a phase of a bank port. -/
def execBazaarAccess (bank : Fin 48) (portB : Bool) (cycle moved : Nat) (requests : List FabricReq) (s : State) :
    Host.Outcome State Fault Refusal :=
  .next (s.bazaarPhase bank.val portB cycle moved requests)

/-- LOCK_REQUEST (R716). -/
def execLockRequest (r : Fin 17) (line cycle : Nat) (s : State) : Host.Outcome State Fault Refusal :=
  .next (s.lockRequest r.val line cycle)

/-- LOCK_GRANT (R717). -/
def execLockGrant (line cycle : Nat) (s : State) : Host.Outcome State Fault Refusal := .next (s.lockGrant line cycle)

/-- UNLOCK (R718). -/
def execUnlock (r : Fin 17) (cycle : Nat) (s : State) : Host.Outcome State Fault Refusal := .next (s.unlock r.val cycle)

/-- HOLD_CUT_OFF (R719, R720). -/
def execHoldCutOff (cycle : Nat) (s : State) : Host.Outcome State Fault Refusal := .next (s.cutOff cycle)

end Sys2Proof.Machine
end

