-- ==== Sys2Proof/Machine/LeIsa.lean ====
section
/-! DEFINITION. Instructions of the loop engines and their encoding (spec/08_loop_engine.md Tables 08-8 to 08-13). -/

namespace Sys2Proof.Machine

/-- An instruction. `reg`, `dst`, `src` are register codes of Table 08-12; an ALU operation's accumulator is B when `d`. -/
inductive LeOp where
  | nop
  | done (g : Nat) (err : Bool)
  | rts
  | rep (n : Nat)
  | loop (len n : Nat)
  | lexit
  | bkpt
  | branch (sub : Bool) (cond target : Nat)
  | imm (dst value : Nat) (long : Bool)
  | abs (y store : Bool) (reg addr : Nat)
  | ind (y store : Bool) (reg ptr md : Nat)
  | mov (dst src : Nat)
  | shift (right d : Bool) (n : Nat)
  | addp (ptr off : Nat)
  | post (flow list ptr : Nat)
  | evr (v : Nat)
  | get (dst : Nat) (ind : Bool) (ptr md addr : Nat)
  | pub (src : Nat) (ind : Bool) (ptr md addr : Nat)
  | ftap (d neg : Bool) (i j : Nat)
  | alu (op : Nat) (d : Bool) (src : Nat) (x y : Option ParMove)
deriving DecidableEq, Repr

/-- A register code that a move can read (Table 08-12). -/
def regReadable (c : Nat) : Bool := c ≤ 0xB || (0x10 ≤ c && c ≤ 0x29)

/-- A register code that a move can write: 0x29 is read only. -/
def regWritable (c : Nat) : Bool := c ≤ 0xB || (0x10 ≤ c && c ≤ 0x28)

/-- The ALU operation multiplies, so SRC names a product (Table 08-10). -/
def aluMultiplies (op : Nat) : Bool := 0x08 ≤ op && op ≤ 0x0D

/-- The ALU operation uses a source other than d. -/
def aluUsesSrc (op : Nat) : Bool := aluMultiplies op || [0x02, 0x03, 0x04, 0x05, 0x12, 0x13, 0x14, 0x15, 0x16].contains op

/-- A parallel move field: presence, direction, pointer, modifier, register. -/
def parMove (en w ptr md reg : Nat) : Option ParMove := if en = 1 then some ⟨w == 1, ptr, md, reg⟩ else none

/-- ALU format (Table 08-10); a source that the operation does not use, and PMOV's accumulator, read as 0. -/
def decodeAlu (w : Nat) : Option LeOp :=
  let op := field w 30 25
  let src := field w 23 21
  if op > 0x17 ∨ (!aluMultiplies op ∧ src > 4) ∨ field w 4 0 ≠ 0 then none
  else
    let x := parMove (field w 20 20) (field w 19 19) (field w 18 17) (field w 16 15) (field w 14 13)
    let y := parMove (field w 12 12) (field w 11 11) (field w 10 9) (field w 8 7) (field w 6 5)
    some (.alu op (op != 0 && bitAt w 24) (if aluUsesSrc op then src else 0) x y)

/-- Control format (Table 08-9). -/
def decodeControl (w : Nat) : Option LeOp :=
  let k := field w 27 24
  if k = 0 then (if field w 23 0 = 0 then some .nop else none)
  else if k = 1 then
    (if field w 23 13 = 0 ∧ field w 5 1 = 0 ∧ field w 12 6 ≤ 64 then some (.done (field w 12 6) (bitAt w 0)) else none)
  else if k = 2 then (if field w 23 0 = 0 then some .rts else none)
  else if k = 3 then (if field w 23 12 = 0 then some (.rep (field w 11 0)) else none)
  else if k = 4 then
    (if field w 23 17 = 0 ∧ field w 11 0 ≠ 0 then some (.loop (field w 16 12 + 1) (field w 11 0)) else none)
  else if k = 5 then (if field w 23 0 = 0 then some .lexit else none)
  else if k = 6 then (if field w 23 0 = 0 then some .bkpt else none)
  else none

/-- Register operation format. -/
def decodeRegister (w : Nat) : Option LeOp :=
  let k := field w 27 24
  if k = 0 then
    (if field w 11 0 = 0 ∧ regWritable (field w 23 18) ∧ regReadable (field w 17 12) then
      some (.mov (field w 23 18) (field w 17 12)) else none)
  else if k = 1 ∨ k = 2 then
    (if field w 22 6 = 0 ∧ 1 ≤ field w 5 0 ∧ field w 5 0 ≤ 55 then some (.shift (k == 2) (bitAt w 23) (field w 5 0)) else none)
  else if k = 3 then
    (if field w 23 21 = 0 ∧ field w 17 14 = 0 then some (.addp (field w 20 18) (field w 13 0)) else none)
  else none

/-- Waystation and board format. -/
def decodeBoard (w : Nat) : Option LeOp :=
  let k := field w 27 24
  if k = 0 then
    (if field w 8 0 = 0 then some (.post (field w 23 14) (field w 13 12) (field w 11 9)) else none)
  else if k = 1 then (if field w 23 5 = 0 then some (.evr (field w 4 0)) else none)
  else if k = 2 ∨ k = 3 then
    let r := field w 23 18
    let ok := if k = 2 then regWritable r else regReadable r
    if !ok then none
    else if bitAt w 17 then
      if field w 11 0 ≠ 0 then none
      else if k = 2 then some (.get r true (field w 16 14) (field w 13 12) 0)
      else some (.pub r true (field w 16 14) (field w 13 12) 0)
    else if field w 16 12 ≠ 0 then none
    else if k = 2 then some (.get r false 0 0 (field w 11 0))
    else some (.pub r false 0 0 (field w 11 0))
  else none

/-- The word starts a two-word instruction: an immediate move with LONG. -/
def isLong (w : Nat) : Bool := field w 31 28 == 2 && bitAt w 27

/-- The instruction that a word and its successor spell, none for a reserved encoding (R377). -/
def decodeLe (w w2 : Nat) : Option LeOp :=
  let f := field w 31 28
  if f ≥ 8 then decodeAlu w
  else if f = 0 then decodeControl w
  else if f = 1 then
    (if field w 26 22 ≤ 17 ∧ field w 21 13 = 0 then some (.branch (bitAt w 27) (field w 26 22) (field w 12 0)) else none)
  else if f = 2 then
    let r := field w 26 21
    if !regWritable r ∨ field w 20 16 ≠ 0 then none
    else if bitAt w 27 then
      (if field w 15 0 = 0 ∧ field w2 31 24 = 0 then some (.imm r (field w2 23 0) true) else none)
    else some (.imm r (ofSigned 24 (toSigned 16 (field w 15 0))) false)
  else if f = 3 ∨ f = 4 then
    let r := field w 25 20
    let store := bitAt w 26
    if !(if store then regReadable r else regWritable r) then none
    else if f = 3 then
      (if field w 19 14 = 0 then some (.abs (bitAt w 27) store r (field w 13 0)) else none)
    else (if field w 14 0 = 0 then some (.ind (bitAt w 27) store r (field w 19 17) (field w 16 15)) else none)
  else if f = 5 then decodeRegister w
  else if f = 6 then decodeBoard w
  else
    (if field w 21 0 = 0 then some (.ftap (bitAt w 27) (bitAt w 26) (field w 25 24) (4 + field w 23 22)) else none)

/-- Words of an instruction. -/
def LeOp.words : LeOp → Nat
  | .imm _ _ long => if long then 2 else 1
  | _ => 1

/-- Issue cycles (Table 08-14). -/
def LeOp.cycles : LeOp → Nat
  | .imm _ _ long => if long then 2 else 1
  | .get .. => 2
  | .post .. => 2
  | .loop .. => 2
  | _ => 1

/-- Word at an address of program memory. -/
def progWord (prog : Octets) (a : Nat) : Nat := u32At prog (4 * (a % 8192))

/-- The instruction at an address of program memory. -/
def fetchLe (prog : Octets) (a : Nat) : Option LeOp := decodeLe (progWord prog a) (progWord prog (a + 1))

/-- Words that the instruction at an address takes. -/
def sizeAt (prog : Octets) (a : Nat) : Nat := if isLong (progWord prog a) then 2 else 1

/-- Address of the last of `len` instructions from `a`. -/
def lastOf (prog : Octets) : Nat → Nat → Nat
  | 0, a => a
  | 1, a => a
  | n + 1, a => lastOf prog n ((a + sizeAt prog a) % 8192)

/-- A scan of the program image from an address: every instruction decodes and none of two words starts at the end (R382). -/
def scanProgram (prog : Octets) : Nat → Nat → Bool
  | 0, _ => true
  | n + 1, a =>
    if a ≥ 8192 then true
    else (fetchLe prog a).isSome && !(isLong (progWord prog a) && a == 8191) && scanProgram prog n (a + sizeAt prog a)

/-- An instruction of the image, taken in order from address `a`, has its second word at `t`. -/
def secondFrom (prog : Octets) (t : Nat) : Nat → Nat → Bool
  | 0, _ => false
  | n + 1, a =>
    if t ≤ a then false
    else if isLong (progWord prog a) && a + 1 == t then true
    else secondFrom prog t n (a + sizeAt prog a)

/-- Address `t` holds the second word of a two-word instruction. -/
def isSecondWord (prog : Octets) (t : Nat) : Bool := secondFrom prog t 8192 0

/-- Program image check (R382). -/
def programOk (o : Octets) : Bool := o.length == 32768 && scanProgram o 8192 0

/-- A branch, RTS, LOOP, REP, LEXIT, DONE or two-word instruction: not for a delay slot (Table 08-6). -/
def LeOp.notInSlot : LeOp → Bool
  | .branch .. => true
  | .rts => true
  | .loop .. => true
  | .rep _ => true
  | .lexit => true
  | .done .. => true
  | .imm _ _ long => long
  | _ => false

/-- Not to be repeated (Table 08-6). -/
def LeOp.notRepeated (o : LeOp) : Bool :=
  o.notInSlot || (match o with | .post .. => true | .bkpt => true | _ => false)

/-- Not the last instruction of a LOOP body (Table 08-6). -/
def LeOp.notLast : LeOp → Bool
  | .branch .. => true
  | .rts => true
  | .rep _ => true
  | .loop .. => true
  | _ => false

end Sys2Proof.Machine
end

