-- ==== Sys2Proof/Machine/LeCore.lean ====
section
/-! DEFINITION. What one instruction does to the registers and memories of one engine: memory map, operand forms,
arithmetic, flags, visibility and control flow (spec/08_loop_engine.md). -/

namespace Sys2Proof.Machine

/-- What one instruction of an engine acts on. -/
structure LeCore where
  engine : Nat
  urgent : Bool
  exec : Exec
  scrX : Words
  scrY : Words
  /-- A store was discarded (R342). -/
  discarded : Bool
  /-- The boundary after the instruction is closed by a write (R372). -/
  closed : Bool
  /-- Accumulators that a move of this instruction loads: bit 0 A, bit 1 B. -/
  loads : Nat
  /-- A scratch word was read that the item has not written (Table 08-6). -/
  unwritten : Bool

/-! ### Memory map (Table 08-3, Table 08-4) -/

/-- Word `i` of a window of aligned groups (R344). -/
def groupWord (o : Octets) (i : Nat) : Nat :=
  let v := u32At o (4 * (i / 2))
  if i % 2 = 0 then v / 256 else v % 256 * 65536

/-- The item descriptor (Table 07-1); a source to which the table gives no Origin has an unstated one. -/
def Item.descriptor (i : Item) : Octets :=
  toLE 2 i.flow ++ toLE 2 (if i.origin < 0x10000 then i.origin else Config.sourceOrigin i.origin) ++ toLE 4 i.buffer ++ toLE 2 i.len ++ toLE 1 i.flags ++ [0#8] ++ toLE 4 i.tag

/-- The in image (R345). -/
def Item.inImage (i : Item) : Octets := if bitAt i.flags 6 then [] else (i.payload.take i.len).take 256

/-- Word `i` of the out image: as written, else undefined (R347). -/
def Exec.outWord (x : Exec) (i : Nat) : Nat :=
  match x.out.find? (·.1 == i) with
  | some e => e.2
  | none => Config.freeNat (x.outFree + i) % 2 ^ 24

/-- The out image with a word written. -/
def Exec.putOut (x : Exec) (i v : Nat) : Exec := { x with out := (i, v) :: x.out.filter (·.1 != i) }

/-- Word `i` of the wagon window (Table 08-4). -/
def LeCore.window (c : LeCore) (i : Nat) : Nat :=
  let it := c.exec.item
  if i < 8 then groupWord it.descriptor i
  else if i < 0x10 then
    [c.engine, b2n c.urgent, it.cyc % 2 ^ 24, it.cyc / 2 ^ 24 % 2 ^ 24, it.flow, c.exec.ctxLen].getD (i - 8) 0
  else if i < 0x90 then groupWord it.inImage (i - 0x10)
  else if i < 0x110 then c.exec.outWord (i - 0x90)
  else 0

/-- A word of X memory. -/
def LeCore.readX (le : LoopEngines) (c : LeCore) (a : Nat) : Nat :=
  let a := a % 2 ^ 14
  if a < 0x3000 then u24At le.xImg (3 * a) else if a < 0x3C00 then wordAt c.scrX a else c.window (a - 0x3C00)

/-- A word of Y memory; context words beyond the length read 0 (R348). -/
def LeCore.readY (le : LoopEngines) (c : LeCore) (a : Nat) : Nat :=
  let a := a % 2 ^ 14
  if a < 0x3C00 then u24At le.yImg (3 * a)
  else if a < 0x3FC0 then wordAt c.scrY a
  else if a - 0x3FC0 < c.exec.ctxLen then nth c.exec.ctx (a - 0x3FC0) 0 else 0

/-- A number listed once. -/
def addOnce (a : Nat) (l : List Nat) : List Nat := if l.contains a then l else a :: l

/-- A word read from X or Y memory by an instruction; a read of scratch that the item has not written is noted (R343, Table
08-6). -/
def LeCore.load (le : LoopEngines) (c : LeCore) (y : Bool) (a : Nat) : Nat × LeCore :=
  let a := a % 2 ^ 14
  let stale := if y then decide (0x3C00 ≤ a) && decide (a < 0x3FC0) && !c.exec.wroteY.contains a
    else decide (0x3000 ≤ a) && decide (a < 0x3C00) && !c.exec.wroteX.contains a
  (if y then c.readY le a else c.readX le a, { c with unwritten := c.unwritten || stale })

/-- A store to X memory: scratch or the out image, else discarded (R342). -/
def LeCore.writeX (c : LeCore) (a v : Nat) : LeCore :=
  let a := a % 2 ^ 14
  if 0x3000 ≤ a ∧ a < 0x3C00 then
    { c with scrX := wordPut c.scrX a v, exec := { c.exec with wroteX := addOnce a c.exec.wroteX } }
  else if 0x3C90 ≤ a ∧ a < 0x3D10 then { c with exec := c.exec.putOut (a - 0x3C90) v }
  else { c with discarded := true }

/-- A store to Y memory: scratch or the context window, else discarded (R342). -/
def LeCore.writeY (c : LeCore) (a v : Nat) : LeCore :=
  let a := a % 2 ^ 14
  if a < 0x3C00 then { c with discarded := true }
  else if a < 0x3FC0 then
    { c with scrY := wordPut c.scrY a v, exec := { c.exec with wroteY := addOnce a c.exec.wroteY } }
  else { c with exec := { c.exec with ctx := upd c.exec.ctx (a - 0x3FC0) fun _ => v } }

/-! ### Registers -/

/-- The registers changed. -/
def LeCore.onRegs (c : LeCore) (f : RegBank → RegBank) : LeCore := { c with exec := { c.exec with regs := f c.exec.regs } }

/-- Status bits (Table 08-2). -/
def flC : Nat := 0x02
def flV : Nat := 0x04
def flZ : Nat := 0x08
def flN : Nat := 0x10
def flW : Nat := 0x40
def flK : Nat := 0x80

/-- SR with bits set and cleared; its reserved bits stay 0. -/
def RegBank.putSr (r : RegBank) (v : Nat) : RegBank := { r with sr := BitVec.ofNat 24 (v &&& 0xCDE) }

/-- K set by a saturation. -/
def LeCore.setK (c : LeCore) : LeCore :=
  { c.onRegs fun r => r.putSr (setBits r.sr.toNat flK) with closed := true }

/-- The guard part is the sign extension of bit 47: the value lies in the Q23 range. -/
def fitsQ23 (v : Int) : Bool := decide (-(2 ^ 47) ≤ v) && decide (v < 2 ^ 47)

/-- What a move of a whole accumulator delivers, and whether it saturates (R361). -/
def moveOut (a : BitVec 56) : Nat × Bool :=
  let v := a.toInt
  if fitsQ23 v then (ofSigned 24 (v / 2 ^ 24), false) else (if v < 0 then 0x800000 else 0x7FFFFF, true)

/-- High, low and guard parts of an accumulator. -/
def accHigh (a : BitVec 56) : Nat := field a.toNat 47 24
def accLow (a : BitVec 56) : Nat := field a.toNat 23 0
def accGuard (a : BitVec 56) : Nat := field a.toNat 55 48

/-- An accumulator loaded whole (R362). -/
def loadWhole (v : Nat) : BitVec 56 := BitVec.ofInt 56 (toSigned 24 v * 2 ^ 24)

/-- An accumulator with one part replaced. -/
def setLow (a : BitVec 56) (v : Nat) : BitVec 56 := BitVec.ofNat 56 (a.toNat / 2 ^ 24 * 2 ^ 24 + v % 2 ^ 24)
def setHigh (a : BitVec 56) (v : Nat) : BitVec 56 := BitVec.ofNat 56 (accGuard a * 2 ^ 48 + v % 2 ^ 24 * 2 ^ 24 + accLow a)
def setGuard (a : BitVec 56) (v : Nat) : BitVec 56 := BitVec.ofNat 56 (v % 256 * 2 ^ 48 + a.toNat % 2 ^ 48)

/-- Passes of the innermost LOOP that remain (R371). -/
def RegBank.passes (r : RegBank) : Nat := match r.loops with | [] => 0 | e :: _ => e.passes

/-- The 24-bit value that a move reads from a register, and whether it saturates (Table 08-12, R361). `v` holds the values
that this instruction sees. -/
def RegBank.read (v : RegBank) (code : Nat) : Nat × Bool :=
  if code = 0 then (v.x0.toNat, false) else if code = 1 then (v.x1.toNat, false)
  else if code = 2 then (v.y0.toNat, false) else if code = 3 then (v.y1.toNat, false)
  else if code = 4 then moveOut v.aMv else if code = 5 then moveOut v.bMv
  else if code = 6 then (accLow v.aMv, false) else if code = 7 then (accLow v.bMv, false)
  else if code = 8 then (accHigh v.aMv, false) else if code = 9 then (accHigh v.bMv, false)
  else if code = 0xA then (ofSigned 24 (toSigned 8 (accGuard v.aMv)), false)
  else if code = 0xB then (ofSigned 24 (toSigned 8 (accGuard v.bMv)), false)
  else if 0x10 ≤ code ∧ code ≤ 0x17 then ((nth v.p (code - 0x10) 0#14).toNat, false)
  else if 0x18 ≤ code ∧ code ≤ 0x1F then (ofSigned 24 (nth v.n (code - 0x18) 0#14).toInt, false)
  else if 0x20 ≤ code ∧ code ≤ 0x27 then ((nth v.m (code - 0x20) 0#14).toNat, false)
  else if code = 0x28 then (v.srV.toNat, false)
  else if code = 0x29 then (v.passes, false)
  else (0, false)

/-- A move's source read, with K set when it saturates. -/
def LeCore.moveFrom (c : LeCore) (v : RegBank) (code : Nat) : Nat × LeCore :=
  let r := v.read code
  (r.1, if r.2 then c.setK else c)

/-- An accumulator loaded by a move: seen by the next instruction for every use (Table 08-5). -/
def RegBank.loadA (r : RegBank) (v : BitVec 56) : RegBank := { r with a := v, aMv := v }
def RegBank.loadB (r : RegBank) (v : BitVec 56) : RegBank := { r with b := v, bMv := v }

/-- A move, immediate or GET writes a register (Table 08-12, R362). -/
def RegBank.write (r : RegBank) (code v : Nat) : RegBank :=
  if code = 0 then { r with x0 := BitVec.ofNat 24 v } else if code = 1 then { r with x1 := BitVec.ofNat 24 v }
  else if code = 2 then { r with y0 := BitVec.ofNat 24 v } else if code = 3 then { r with y1 := BitVec.ofNat 24 v }
  else if code = 4 then r.loadA (loadWhole v) else if code = 5 then r.loadB (loadWhole v)
  else if code = 6 then r.loadA (setLow r.a v) else if code = 7 then r.loadB (setLow r.b v)
  else if code = 8 then r.loadA (setHigh r.a v) else if code = 9 then r.loadB (setHigh r.b v)
  else if code = 0xA then r.loadA (setGuard r.a v) else if code = 0xB then r.loadB (setGuard r.b v)
  else if 0x10 ≤ code ∧ code ≤ 0x17 then { r with p := upd r.p (code - 0x10) fun _ => BitVec.ofNat 14 v }
  else if 0x18 ≤ code ∧ code ≤ 0x1F then { r with n := upd r.n (code - 0x18) fun _ => BitVec.ofNat 14 v }
  else if 0x20 ≤ code ∧ code ≤ 0x27 then { r with m := upd r.m (code - 0x20) fun _ => BitVec.ofNat 14 v }
  else if code = 0x28 then r.putSr v
  else r

/-- The accumulator a register code belongs to: 1 A, 2 B, 0 none. -/
def accOf (code : Nat) : Nat :=
  if code = 4 ∨ code = 6 ∨ code = 8 ∨ code = 0xA then 1
  else if code = 5 ∨ code = 7 ∨ code = 9 ∨ code = 0xB then 2 else 0

/-- A register written by a move; accumulators, SR, Pn, Nn and Mn close the boundary (R372). -/
def LeCore.moveTo (c : LeCore) (code v : Nat) : LeCore :=
  { c.onRegs fun r => r.write code v with
    closed := c.closed || decide (4 ≤ code), loads := c.loads ||| accOf code }

/-! ### Addressing -/

/-- A pointer stepped by its modulus (R365). -/
def stepPtr (p : BitVec 14) (step : Int) (m : BitVec 14) : BitVec 14 :=
  if m = 0#14 then BitVec.ofInt 14 (p.toNat + step)
  else
    let size := 2 ^ (Nat.log2 m.toNat + 1)
    let b := p.toNat / size * size
    BitVec.ofInt 14 (b + ((p.toNat - b : Nat) + step) % (m.toNat + 1))

/-- Pn changed by post-modification, which the next instruction sees. -/
def RegBank.postMod (r : RegBank) (i : Nat) (v : BitVec 14) : RegBank :=
  { r with p := upd r.p i fun _ => v, pV := upd r.pV i fun _ => v }

/-- An indirect address, and the registers after its post-modification (R364). -/
def LeCore.address (c : LeCore) (v : RegBank) (i md : Nat) : Nat × LeCore :=
  let p := nth v.pV i 0#14
  let m := nth v.mV i 0#14
  let step : Int := if md = 1 then 1 else if md = 2 then -1 else if md = 3 then (nth v.nV i 0#14).toInt else 0
  (p.toNat, if md = 0 then c else c.onRegs fun r => r.postMod i (stepPtr p step m))

/-! ### Arithmetic and flags -/

/-- A 56-bit result, saturated (R359), and whether it was. -/
def saturate56 (r : Int) : Int × Bool := let x := satSigned 56 r; (x, x != r)

/-- The rounding constant (R360). -/
def roundConst (v : Int) : Int := if v < 0 then 2 ^ 23 - 1 else 2 ^ 23

/-- Rounding to the nearest multiple of 2⁻²³ (R360). -/
def roundAcc (v : Int) : Int := (v + roundConst v) / 2 ^ 24 * 2 ^ 24

/-- The 56-bit image of a number. -/
def img56 (v : Int) : Nat := ofSigned 56 v

/-- Carry out of bit 55 of an addition, borrow of a subtraction (R824). -/
def carry56 (x y : Int) : Bool := decide (2 ^ 56 ≤ img56 x + img56 y)
def borrow56 (x y : Int) : Bool := decide (img56 x < img56 y)

/-- Flags of a result: N, Z from it or from a given word, V and K of a saturation, W, C (R363). -/
def RegBank.setFlags (r : RegBank) (res : Int) (n z v k c : Bool) : RegBank :=
  let old := r.sr.toNat &&& (flK ||| 0xC00)
  r.putSr (old ||| (if n then flN else 0) ||| (if z then flZ else 0) ||| (if v then flV ||| flK else 0) |||
    (if k then flK else 0) ||| (if c then flC else 0) ||| (if fitsQ23 res then 0 else flW))

/-- What an ALU operation makes of d, a source and a product. -/
structure AluOut where
  res : Int
  carry : Bool
  /-- d takes the result. -/
  writes : Bool
  /-- K is set (SAT). -/
  kept : Bool
  /-- N and Z come from the high part (AND, OR, XOR). -/
  high : Bool

/-- AND, OR and XOR on the high part (R363). -/
def logicHigh (d : Int) (f : Nat → Nat → Nat) (s24 : Nat) : Int :=
  let a := BitVec.ofInt 56 d
  (setHigh a (f (accHigh a) s24)).toInt

/-- The value SAT leaves (R817). -/
def satQ23 (d : Int) : Int := if fitsQ23 d then d else if d < 0 then -(2 ^ 47) else (2 ^ 23 - 1) * 2 ^ 24

/-- Result and carry of an ALU operation (Tables 08-11 and 08-26), before saturation. -/
def aluCompute (op : Nat) (d s : Int) (s24 : Nat) (p : Int) : AluOut :=
  let out := fun (r : Int) (c : Bool) => ({ res := r, carry := c, writes := true, kept := false, high := false } : AluOut)
  if op = 0x01 then out 0 false
  else if op = 0x02 then out s false
  else if op = 0x03 then out (d + s) (carry56 d s)
  else if op = 0x04 then out (d - s) (borrow56 d s)
  else if op = 0x05 then { out (d - s) (borrow56 d s) with writes := false }
  else if op = 0x06 then out (-d) (borrow56 0 d)
  else if op = 0x07 then out (d.natAbs : Int) (decide (d < 0) && borrow56 0 d)
  else if op = 0x08 then out p false
  else if op = 0x09 then out (-p) false
  else if op = 0x0A then out (d + p) (carry56 d p)
  else if op = 0x0B then out (d - p) (borrow56 d p)
  else if op = 0x0C then out (roundAcc p) false
  else if op = 0x0D then out (roundAcc (d + p)) (carry56 d p)
  else if op = 0x0E then out (roundAcc d) (carry56 d (roundConst d))
  else if op = 0x0F then { out d false with writes := false }
  else if op = 0x10 then out (2 * d) (decide (d < 0))
  else if op = 0x11 then out (d / 2) (d % 2 != 0)
  else if op = 0x12 then out (max d s) false
  else if op = 0x13 then out (min d s) false
  else if op = 0x14 then { out (logicHigh d (· &&& ·) s24) false with high := true }
  else if op = 0x15 then { out (logicHigh d (· ||| ·) s24) false with high := true }
  else if op = 0x16 then { out (logicHigh d (· ^^^ ·) s24) false with high := true }
  else { out (satQ23 d) false with kept := !fitsQ23 d }

/-- An ALU result taken: the accumulator and the flags (R359, R363). -/
def LeCore.aluTake (c : LeCore) (d : Bool) (o : AluOut) : LeCore :=
  let r := saturate56 o.res
  let h := accHigh (BitVec.ofInt 56 r.1)
  let n := if o.high then bitAt h 23 else decide (r.1 < 0)
  let z := if o.high then h == 0 else r.1 == 0
  let c1 := c.onRegs fun b => b.setFlags r.1 n z r.2 o.kept o.carry
  let v := BitVec.ofInt 56 r.1
  let c2 := if o.writes then
      c1.onRegs fun b => if d then { b with b := v, aluAcc := 2 } else { b with a := v, aluAcc := 1 }
    else c1
  { c2 with closed := true }

/-- The operands that SRC names: product, accumulator value and high word (Table 08-10, R357, R358). -/
def aluOperands (v : RegBank) (op : Nat) (d : Bool) (src : Nat) : Int × Nat × Int :=
  let q := fun (x : BitVec 24) => x.toInt
  if aluMultiplies op then
    let p := [q v.x0 * q v.y0, q v.x0 * q v.y1, q v.x1 * q v.y0, q v.x1 * q v.y1, q v.x0 * q v.x0, q v.x1 * q v.x1,
      q v.y0 * q v.y0, q v.y1 * q v.y1].getD src 0
    (0, 0, 2 * p)
  else if src = 4 then
    let o := if d then v.a else v.b
    (o.toInt, accHigh o, 0)
  else
    let w := [v.x0, v.x1, v.y0, v.y1].getD src 0#24
    (w.toInt * 2 ^ 24, w.toNat, 0)

/-- Register code of a parallel move's field. -/
def parReg (y : Bool) (reg : Nat) : Nat := (if y then [2, 3, 4, 5] else [0, 1, 4, 5]).getD reg 0

/-- One parallel move: address, memory and register, reading what the instruction found. -/
def LeCore.parallel (le : LoopEngines) (v : RegBank) (y : Bool) (m : Option ParMove) (c : LeCore) : LeCore :=
  match m with
  | none => c
  | some p =>
    let a := c.address v (if y then 4 + p.ptr else p.ptr) p.md
    let code := parReg y p.reg
    if p.store then
      let s := a.2.moveFrom v code
      if y then s.2.writeY a.1 s.1 else s.2.writeX a.1 s.1
    else let w := a.2.load le y a.1; w.2.moveTo code w.1

/-- An ALU instruction: its operands are those from before its parallel moves (R367). -/
def LeCore.runAlu (le : LoopEngines) (v : RegBank) (op : Nat) (d : Bool) (src : Nat) (x y : Option ParMove) (c : LeCore) :
    LeCore :=
  let o := aluOperands v op d src
  let dv := (if d then v.b else v.a).toInt
  let c1 := LeCore.parallel le v true y (LeCore.parallel le v false x c)
  if op = 0 then c1 else c1.aluTake d (aluCompute op dv o.1 o.2.1 o.2.2)

/-- A filter tap (R379). -/
def LeCore.runFtap (le : LoopEngines) (v : RegBank) (d neg : Bool) (i j : Nat) (c : LeCore) : LeCore :=
  let pi := nth v.pV i 0#14
  let pj := nth v.pV j 0#14
  let mi := nth v.mV i 0#14
  let mj := nth v.mV j 0#14
  let x := c.load le false pi.toNat
  let y := x.2.load le true pj.toNat
  let p := 2 * (toSigned 24 x.1 * toSigned 24 y.1)
  let dv := (if d then v.b else v.a).toInt
  let c1 := y.2.writeX (stepPtr pi 1 mi).toNat x.1
  let c2 := c1.onRegs fun r => (r.postMod i (stepPtr pi (-1) mi)).postMod j (stepPtr pj 1 mj)
  c2.aluTake d
    { res := if neg then dv - p else dv + p, carry := if neg then borrow56 dv p else carry56 dv p, writes := true,
      kept := false, high := false }

/-- SHLN and SHRN (R824, R825). -/
def LeCore.runShift (v : RegBank) (right d : Bool) (n : Nat) (c : LeCore) : LeCore :=
  let dv := (if d then v.b else v.a).toInt
  c.aluTake d
    { res := if right then dv / 2 ^ n else dv * 2 ^ n,
      carry := if right then bitAt (img56 dv) (n - 1) else bitAt (img56 dv) (56 - n), writes := true, kept := false,
      high := false }

/-- A condition holds (Table 08-13). -/
def condHolds (code : Nat) (sr : Nat) : Bool :=
  let c := bitAt sr 1
  let v := bitAt sr 2
  let z := bitAt sr 3
  let n := bitAt sr 4
  let w := bitAt sr 6
  let k := bitAt sr 7
  let ps := field sr 11 10
  [true, z, !z, n != v, n == v, !z && n == v, z || n != v, n, !n, v, !v, c, !c, k, w, !w, ps == 0, ps != 0].getD code false

/-! ### Control flow -/

/-- The values that an instruction finds become the views of the next one, before it writes (Table 08-5). -/
def RegBank.advance (r : RegBank) : RegBank :=
  { r with aMv := r.a, bMv := r.b, srV := r.sr, pV := r.p, nV := r.n, mV := r.m, aluAcc := 0 }

/-- The branch at `src` to `tgt` leaves a LOOP body. -/
def LoopEntry.leaves (e : LoopEntry) (src tgt : Nat) : Bool :=
  decide (e.start ≤ src) && decide (src ≤ e.last) && !(decide (e.start ≤ tgt) && decide (tgt ≤ e.last))

/-- LOOP entries whose body holds the branch but not its target, left by it (R371). -/
def leaveLoops (src tgt : Nat) : List LoopEntry → List LoopEntry
  | [] => []
  | e :: r =>
    if e.leaves src tgt then
      leaveLoops src tgt r
    else e :: r

/-- The end of a LOOP body: another pass, or the entry popped and the body around it looked at (R371). -/
def loopEnd (addr next : Nat) : List LoopEntry → Nat × List LoopEntry
  | [] => (next, [])
  | e :: r =>
    if e.last = addr then
      if e.passes > 1 then (e.start, { e with passes := e.passes - 1 } :: r) else loopEnd addr next r
    else (next, e :: r)

/-- The program counter after an instruction at `addr` whose successor is `next`; `endAt` is the address at which a LOOP
body may end with it. -/
def RegBank.goNext (r : RegBank) (endAt next : Nat) : RegBank :=
  if r.slots = 1 then
    match r.target with
    | some t =>
      let l := match r.from_ with | some f => leaveLoops f t r.loops | none => r.loops
      { r with slots := 0, target := none, from_ := none, pc := t, loops := l }
    | none =>
      let e := loopEnd endAt next r.loops
      { r with slots := 0, pc := e.1, loops := e.2 }
  else
    let e := loopEnd endAt next r.loops
    { r with slots := r.slots - 1, pc := e.1, loops := e.2 }

/-- Free values for every register of a bank, after a construction of Table 08-6 (R47, R368). -/
def RegBank.scramble (r : RegBank) (f : Nat) : RegBank :=
  let g := fun i => Config.freeNat (f + i)
  { r with a := BitVec.ofNat 56 (g 0), b := BitVec.ofNat 56 (g 1), aMv := BitVec.ofNat 56 (g 0),
           bMv := BitVec.ofNat 56 (g 1), x0 := BitVec.ofNat 24 (g 2), x1 := BitVec.ofNat 24 (g 3),
           y0 := BitVec.ofNat 24 (g 4), y1 := BitVec.ofNat 24 (g 5), pc := g 6 % 8192,
           sr := BitVec.ofNat 24 (g 7 &&& 0xCDE), srV := BitVec.ofNat 24 (g 7 &&& 0xCDE), slots := 0, target := none,
           rep := 0, p := (List.range 8).map fun i => BitVec.ofNat 14 (g (8 + i)),
           pV := (List.range 8).map fun i => BitVec.ofNat 14 (g (8 + i)) }

/-- How many free values `scramble` takes. -/
def scrambleDraws : Nat := 16

end Sys2Proof.Machine
end

