-- ==== Sys2Proof/Machine/JointOps.lean ====
section
/-! DEFINITION. Joints: the vendor laws in exact fixed point, hand-over, start, stop, supervision, identification runs
(spec/09_joint_control.md). -/

namespace Sys2Proof.Machine

/-! ### Fixed point -/

/-- A product in the accumulator's scale (R357). -/
def mulAcc (a b : Int) : Int := 2 * (a * b)

/-- A sum of products rounded once and delivered as a Q23 word (R360, R361). -/
def roundWord (acc : Int) : Int := satSigned 24 ((acc + roundConst acc) / 2 ^ 24)

/-- The high word of an accumulator value, saturated (R361). -/
def highWord (acc : Int) : Int := satSigned 24 (acc / 2 ^ 24)

/-- A word's 24-bit image. -/
def img24 (x : Int) : Nat := ofSigned 24 x

/-! ### Settings of a joint -/

/-- Entry `m` of the mode table (Table 09-8). -/
def State.modeEntry (s : State) (j m : Nat) : Nat := field (s.cfg (jointIdx j 1) 0) (16 * m + 15) (16 * m)

/-- Law and set of an entry (Table 09-9). -/
def entryLaw (e : Nat) : Nat := field e 15 8
def entrySet (e : Nat) : Nat := e % 2

/-- Partners 0–3 (Table 09-7). -/
def State.partners (s : State) (j : Nat) : List Nat :=
  (List.range 4).map fun m => field (s.cfg (jointIdx j 4) 0) (8 * m + 7) (8 * m)

/-- The arm whose member list names joint `j`. -/
def State.armOf (s : State) (j : Nat) : Option Nat := (List.range 12).find? fun a => (s.members a).contains j

/-- Words of a coefficient set in the Y image (R392). -/
def State.coefs (s : State) (j set : Nat) : List Nat :=
  (List.range 32).map fun i => u24At s.le.yImg (3 * (0x2000 + 64 * j + 32 * set + i))

/-- Content check of a coefficient set (R393). -/
def coefsOk (o : Octets) : Bool :=
  let q := fun i => toSigned 24 (u24At o (3 * i))
  o.length == 96 && decide (q 6 ≤ q 5) && decide (q 8 ≤ 0) && decide (0 ≤ q 7) && decide (0 ≤ q 9) && decide (0 ≤ q 12) &&
  u24At o 30 ≤ 24 && u24At o 33 ≤ 24 && allZero (slice o 81 15)

/-- A set written into the Y image of every engine (R343, R394). -/
def State.placeSet (s : State) (j set : Nat) (o : Octets) : State :=
  s.onLe fun l => { l with yImg := splice (padTo 46080 l.yImg) (3 * (0x2000 + 64 * j + 32 * set)) o }

/-- A publication of cycle `c` by an item of a flow (R354). Where an item of another flow has written the word in that cycle, the
word is unpredictable: a free value (R41, R47). -/
def State.publish (s : State) (flow c addr v : Nat) : State :=
  let second := s.le.writers.any fun x => x.1 == c && x.2.1 == addr && x.2.2 != flow
  let d := if second then (s.draw.1 % 2 ^ 24, s.draw.2) else (v, s)
  d.2.onLe fun l =>
    { l with pubs := upd l.pubs (c % 4) fun m => wordPut m addr d.1
             writers := (c, addr, flow) :: l.writers.filter fun x => decide (c ≤ x.1 + 3) && x != (c, addr, flow) }

/-- A board word that an item of cycle `c` gets (R354, R355, Table 10-17). -/
def State.boardGet (s : State) (c addr : Nat) : Nat :=
  if addr < 0x800 then wordAt (nth s.le.pubs ((c + 3) % 4) []) addr
  else if addr < 0xE00 then wordAt (nth s.le.refs (c % 4) []) addr
  else 0

/-! ### Feedback of a pannier (Table 04-6) -/

/-- The item carries usable feedback. -/
def Item.usable (i : Item) : Bool := !bitAt i.flags 7 && !bitAt i.flags 6
def fbPosition (o : Octets) : Int := i64At o 24
def fbCurrent (o : Octets) : Int := i32At o 32
def fbStatus (o : Octets) : Nat := u16At o 36
def fbError (o : Octets) : Nat := u16At o 38

/-! ### The cascade -/

/-- References of an item (R387): position, velocity feedforward, current feedforward. -/
structure JointRef where
  r : Int
  vff : Int
  iff : Int

/-- The reference slot of joint `j` for cycle `c`, when its arm is RUNNING and the slot is valid (R387, Table 10-17). -/
def State.slotRef (s : State) (j c : Nat) : Option JointRef :=
  let w := fun i => s.boardGet c (0x800 + 16 * j + i)
  match s.armOf j with
  | some a =>
    if s.isRunning (.arm a) && bitAt (w 5) 0 then
      some ⟨toSigned 48 (w 3 + w 4 * 2 ^ 24), toSigned 24 (w 1), toSigned 24 (w 2)⟩
    else none
  | none => none

/-- One notch stage: y and the next state (direct form I, coefficients halved). -/
def notch (c : List Int) (st : List Int) (x : Int) : Int × List Int :=
  let g := fun (l : List Int) i => nth l i 0
  let acc := mulAcc (g c 0) x + mulAcc (g c 1) (g st 0) + mulAcc (g c 2) (g st 1) - mulAcc (g c 3) (g st 2) -
    mulAcc (g c 4) (g st 3)
  let y := roundWord (2 * acc)
  (y, [x, g st 0, y, g st 2])

/-- Signals of one item (Table 09-25). -/
structure LawOut where
  ctx : LawCtx
  ec : Int
  e : Int
  v : Int
  vf : Int
  vcmd : Int
  ev : Int
  coupling : Int
  offset : Int
  s : Int
  uc : Int
  u : Int
deriving DecidableEq, Repr

/-- Inputs of the cascade: law, coefficients as signed words, hand-over limits, clamp, coupling sum, excitation. -/
structure LawIn where
  law : Nat
  q : List Int
  step : Nat
  blend : Nat
  hand : Bool
  p : Int
  ref : JointRef
  lo : Int
  hi : Int
  coupling : Int
  excite : Int

/-- The integrator and the blend after the hand-over rule, or after an item in the old law (the pseudocode of "The cascade" and
of the hand-over; R400, R401). -/
def lawIntegrate (x : LawCtx) (i : LawIn) (qv ev : Int) : Int × Option (Int × Nat) :=
  let g := fun k => nth i.q k 0
  if i.hand then
    let integ := if i.law = 4 then 0 else clampInt (g 6) (g 5) (x.sPrev - qv)
    let d := x.sPrev - qv - integ
    (integ, if d.natAbs > i.step then some (d, 0) else none)
  else
    let kie := g 2 * ev
    let integ := if i.law = 4 ∨ (x.satHi ∧ kie > 0) ∨ (x.satLo ∧ kie < 0) then x.integ
      else clampInt (g 6) (g 5) ((x.integ * 2 ^ 24 + mulAcc (g 2) ev + roundConst (x.integ * 2 ^ 24 + mulAcc (g 2) ev)) / 2 ^ 24)
    (integ, x.blend.map fun b => (b.1, b.2 + 1))

/-- The cascade of an item with usable feedback (spec/09_joint_control.md "The cascade"). -/
def lawCascade (x : LawCtx) (i : LawIn) : LawOut :=
  let g := fun k => nth i.q k 0
  let esh := (g 10).toNat
  let vsh := (g 11).toNat
  let ec := satSigned 48 (i.ref.r - i.p)
  let e := satSigned 24 (ec / 2 ^ esh)
  let v := satSigned 24 ((i.p - x.pPrev) / 2 ^ vsh)
  let vf := roundWord (v * 2 ^ 24 + mulAcc (g 12) x.vf - mulAcc (g 12) v)
  let vcmd := roundWord ((if i.law = 3 then 0 else mulAcc (g 0) e) + mulAcc (g 3) i.ref.vff)
  let ev := satSigned 24 (vcmd - vf)
  let qv := if i.law = 4 then roundWord (mulAcc (g 4) i.ref.iff)
    else roundWord (mulAcc (g 1) ev + mulAcc (g 4) i.ref.iff + i.coupling)
  let ib := lawIntegrate x i qv ev
  -- the offset at the accumulator's width; s is the high word of the exact sum
  let off : Int := match ib.2 with | some b => b.1 * 2 ^ 24 - (b.1 * 2 ^ 24 * b.2) / 2 ^ i.blend | none => 0
  let s0 := highWord ((qv + ib.1) * 2 ^ 24 + off)
  let s := satSigned 24 (s0 + i.excite)
  let uc := clampInt i.lo i.hi s
  let n1 := notch ((i.q.drop 13).take 5) x.notch1 uc
  let n2 := notch ((i.q.drop 18).take 5) x.notch2 n1.1
  let bl := match ib.2 with | some b => if b.2 ≥ 2 ^ i.blend then none else some b | none => none
  { ctx := { pPrev := i.p, vf := vf, integ := ib.1, sPrev := s, satHi := decide (s > i.hi), satLo := decide (s < i.lo),
             blend := bl, notch1 := n1.2, notch2 := n2.2 },
    ec := ec, e := e, v := v, vf := vf, vcmd := vcmd, ev := ev, coupling := roundWord i.coupling, offset := off / 2 ^ 24,
    s := s, uc := uc, u := n2.1 }

/-- Σ KC_m × e_m over the partners whose publication is fresh, and whether any was dropped (R396). -/
def State.couplingOf (s : State) (j c : Nat) (q : List Int) : Int × Bool :=
  ((s.partners j).zipIdx).foldl (fun acc x =>
    if x.1 = 0xFF then acc
    else
      let w := fun i => s.boardGet c (16 * x.1 + i)
      if w 6 = (c + 2 ^ 24 - 1) % 2 ^ 24 ∧ !bitAt (w 5) 3 then
        (acc.1 + mulAcc (nth q (23 + x.2) 0) (toSigned 24 (w 0)), acc.2)
      else (acc.1, true)) (0, false)

/-! ### Identification runs -/

/-- Items of a whole run. -/
def TuneRun.length (t : TuneRun) : Nat := 2047 * t.hold

/-- The next state of the sequence with polynomial x¹¹ + x⁹ + 1. -/
def identNext (x : Nat) : Nat := (x * 2 + b2n (bitAt x 10 != bitAt x 8)) % 2048

/-- Excitation of the item: AMP × (2b − 1), where b is the bit that leaves the register next (assumption log 67). -/
def TuneRun.excite (t : TuneRun) : Int :=
  if t.count < t.length then (if bitAt t.lfsr 10 then (t.amp : Int) else -(t.amp : Int)) else 0

/-- Item `c` of the run taken into its sums, when items c − 1 and c − 2 had usable feedback (R412). -/
def TuneRun.add (t : TuneRun) (recent : List (Nat × Int × Int)) (c : Nat) (v : Int) (sat : Bool) : TuneRun :=
  if t.count ≥ t.length then t
  else
    let n := t.count + 1
    let sums := match recent with
      | (c1, v1, _) :: (c2, _, u2) :: _ =>
        if c1 + 1 = c ∧ c2 + 2 = c then
          let d := v - v1
          List.zipWith (· + ·) t.sums [1, u2, v1, u2 * u2, u2 * v1, v1 * v1, d, u2 * d, v1 * d]
        else t.sums
      | _ => t.sums
    { t with count := n, lfsr := if n % t.hold = 0 then identNext t.lfsr else t.lfsr, sat := t.sat + b2n sat, sums := sums }

/-- Determinants of the normal equations of R412: common, and of β, −α, γ (Cramer's rule, exact). -/
def fitDets (m : List Int) : Int × Int × Int × Int :=
  let g := fun i => nth m i 0
  let n := g 0
  let su := g 1
  let sv := g 2
  let uu := g 3
  let uv := g 4
  let vv := g 5
  let sd := g 6
  let ud := g 7
  let vd := g 8
  let det := fun (a b c d e f g h i : Int) => a * (e * i - f * h) - b * (d * i - f * g) + c * (d * h - e * g)
  (det uu uv su uv vv sv su sv n, det ud uv su vd vv sv sd sv n, det uu ud su uv vd sv su sd n, det uu uv ud uv vv vd su sv sd)

/-- π × 10⁴⁰, cut. -/
def piScaled : Int := 31415926535897932384626433832795028841971

/-- n / d rounded to nearest, ties to even, for any non-zero d. -/
def roundEvenAny (n d : Int) : Int := if d < 0 then roundEven (-n) (-d) else roundEven n d

/-- KP, KI, KV words of R413 from β = db/det, bandwidth, period in ns, and ESHIFT − VSHIFT. -/
def fitGains (det db : Int) (fv period : Nat) (esh vsh : Nat) : Int × Int × Int :=
  -- ω = wn / wd
  let wn : Int := 2 * piScaled * fv * period
  let wd : Int := 10 ^ 49
  (roundEvenAny (wn * 2 ^ 23 * 2 ^ esh) (4 * wd * 2 ^ vsh), roundEvenAny (wn * wn * det * 2 ^ 23) (4 * wd * wd * db),
   roundEvenAny (wn * det * 2 ^ 23) (wd * db))

/-- A gain lies in 0 to 1 − 2⁻²³ (R414). -/
def gainOk (x : Int) : Bool := decide (0 ≤ x) && decide (x < 2 ^ 23)

/-- β, α and γ in 2⁻²⁴ as I32; a value outside I32 is an unstated one. -/
def fitValues (det db da dg : Int) (f : Nat) : List Int :=
  ([db * 2 ^ 24, -da * 2 ^ 24, 2 * dg].zipIdx).map fun x =>
    let v := roundEvenAny x.1 det
    if decide (-(2 ^ 31) ≤ v) && decide (v < 2 ^ 31) then v else toSigned 32 (Config.freeNat (f + x.2))

/-- The fit finishes (R412 to R414). -/
def State.tuneFit (s : State) (j : Nat) : State :=
  match (s.joint j).tune with
  | none => s
  | some t =>
    if !t.fitting then s
    else
      let d := fitDets t.sums
      if d.1 = 0 then s.tuneEnd j 3
      else
        let s0 := { s with free := s.free + 3 }
        let s1 := s0.onJoint j fun x => { x with fit := fitValues d.1 d.2.1 d.2.2.1 d.2.2.2 s.free }
        if 100 * t.sat > t.length then s1.tuneEnd j 4
        else if d.2.1 = 0 then s1.tuneEnd j 6
        else
          let set := (s.joint j).set
          let old := s.obj (jointIdx j 3) (set + 1)
          let ring := ((s.jointEntry j).map (·.1)).getD 0
          let gn := fitGains d.1 d.2.1 t.fv (s.period ring) (u24At old 30) (u24At old 33)
          if !(gainOk gn.1 && gainOk gn.2.1 && gainOk gn.2.2) then s1.tuneEnd j 6
          else
            let o := splice old 0 (toLE 3 (img24 gn.1) ++ toLE 3 (img24 gn.2.2) ++ toLE 3 (img24 gn.2.1))
            let other := 1 - set
            let s2 := (s1.putObj (jointIdx j 3) (other + 1) o).placeSet j other o
            (s2.record 0x0041 0 (toLE 1 j ++ toLE 1 other)).tuneEnd j 2

/-! ### Changes of law -/

/-- A change that takes effect from a cycle (R398 to R402); one by request wins over a MODE command in its target cycle
(R400), and of two of one kind the later stands. -/
def State.changeLaw (s : State) (j entry cycle : Nat) (mode : Bool) : State :=
  let keep := (s.joint j).changes.any fun g => mode && g.cycle == cycle && !g.mode
  if keep then s
  else s.onJoint j fun x => { x with changes := (x.changes.filter fun g => g.cycle != cycle) ++ [⟨entry, cycle, mode⟩] }

/-- The change that item `c` takes: of those that have taken effect, the one of the latest cycle. -/
def Joint.dueChange (x : Joint) (c : Nat) : Option LawChange :=
  (x.changes.filter fun g => decide (g.cycle ≤ c)).foldl (fun b g =>
    match b with
    | some h => if h.cycle ≤ g.cycle then some g else b
    | none => some g) none

/-- The changes that still wait after one has been taken: one made since for its own cycle, and those of later cycles. -/
def Joint.taken (x : Joint) (g : LawChange) : List LawChange :=
  x.changes.filter fun h => decide (g.cycle < h.cycle) || (h.cycle == g.cycle && h != g)

/-- Joints bound on ring `n`. -/
def State.jointsOn (s : State) (n : Nat) : List Nat :=
  ((s.panTable n).filter fun e => e.profile == 1).map (·.bind)

/-- A MODE command takes effect on ring `n` with an argument (Table 05-20, R399). -/
def State.modeSwitch (s : State) (n arg : Nat) : State :=
  let c := (s.ring n).cycle.getD 0
  (s.jointsOn n).foldl (fun s j =>
    if arg ≥ 4 ∨ s.modeEntry j arg / 256 = 0 then s
    else s.changeLaw j (s.modeEntry j arg) c true) s

/-- The law that an item of joint `j` runs, and the change whose hand-over item it is (R390, R402). A change to USER is made
here. -/
def State.lawOf (s : State) (j : Nat) (it : Item) : State × Nat × Option LawChange :=
  let x := s.joint j
  let law := if x.law = 0 then entryLaw (s.modeEntry j 0) else x.law
  match if it.usable then x.dueChange it.cyc else none with
  | some g =>
    let s1 := if x.tune.isSome then s.tuneEnd j 5 else s
    if entryLaw g.entry = 0xFF then
      (s1.onJoint j fun y => { y with law := 0xFF, set := entrySet g.entry, changes := y.taken g }, 0xFF, none)
    else (s1, entryLaw g.entry, some g)
  | none =>
    match x.tune with
    | some t => if x.law = 1 ∧ t.start ≤ it.cyc ∧ !t.fitting then (s.onJoint j fun y => { y with law := 5 }, 5, none)
                else (s, law, none)
    | none => (s, law, none)

/-- Engine cycles of a vendor law's item (Table 09-2): 40 for one with INVALID or MISSING and for one that runs no cascade. -/
def State.lawCycles (s : State) (x : Exec) : Nat :=
  let j := x.item.flow
  let ph := (s.joint j).phase
  if !x.item.usable ∨ ph = .off ∨ ph = .stopNext then 40
  else if x.law = 2 then 208 + 6 * ((s.partners j).filter fun p => p != 0xFF).length
  else if x.law = 3 then 196
  else if x.law = 4 then 120
  else if x.law = 5 then 240
  else 208

/-! ### Supervision (R404 to R410, R827) -/

/-- A joint enters FAULT from STARTING, RUNNING or STOPPING. -/
def State.jointFault (s : State) (j code : Nat) : State :=
  let st := s.fnSt (.joint j)
  if st = .starting ∨ st = .running ∨ st = .stopping then s.fault (.joint j) code else s

/-- An item posted for joint `j` carried INVALID or MISSING, or neither (R408). -/
def State.jointPosted (s : State) (n j : Nat) (bad : Bool) : State :=
  let m := if bad then (s.joint j).missing + 1 else 0
  let s1 := s.onJoint j fun x => { x with missing := m }
  if bad ∧ m ≥ s.objOctet (0x3010 + 0x200 * n) 0 1 then s1.jointFault j 0x0102 else s1

/-- Soft-start clamp in item k after capture (R404). -/
def softClamp (m umax umin : Int) (k soft : Nat) : Int × Int :=
  let a := max umax (-umin)
  let ak := m + ((a - m) * k) / 2 ^ soft
  (max umin (-ak), min umax ak)

/-- Words of a publication (Table 09-6). -/
def pubWords (e vf uc p : Int) (flags c : Nat) (im : Int) : List Nat :=
  [img24 e, img24 vf, img24 uc, ofSigned 48 p % 2 ^ 24, ofSigned 48 p / 2 ^ 24, flags, c % 2 ^ 24, img24 (im / 256)] ++
  List.replicate 8 0

/-- The sixteen words of joint `j` published for cycle `c` (R395). -/
def State.publishAll (s : State) (j c : Nat) (w : List Nat) : State :=
  (w.zipIdx).foldl (fun s x => s.publish j c (16 * j + x.2) x.1) (s.onJoint j fun x => { x with pub := w })

/-- Setpoint, control word and limit as the octets of groups 0–3 (Table 04-6). -/
def lawGroups (u : Int) (control : Nat) (ilim : Int) : Octets :=
  toLE 4 (img24 u * 256) ++ toLE 4 control ++ toLE 4 (img24 ilim * 256) ++ zeros 4

/-- The vector of an item delivered to the trace unit (R415, R416). -/
def State.traceVector (s : State) (j c : Nat) (w : List Nat) : State :=
  s.onTrace fun t => { t with vectors := (t.vectors.filter fun v => v.1 != j || decide (c < v.2.1 + 4)) ++ [(j, c, w)] }

/-- An item of a vendor law with INVALID or MISSING: the previous values with FB_STALE (the cascade's first lines). -/
def State.lawStale (s : State) (j c : Nat) : State :=
  let x := s.joint j
  let w := upd x.pub 5 fun v => setBits v 8
  (s.onJoint j fun x => { x with flags := setBits x.flags 8 }).publishAll j c w

/-- FAULT_RESET: the joint is STOPPED and the drive's last status word reports FAULT (R406). -/
def State.resetControl (s : State) (j status : Nat) : Nat :=
  if s.fnSt (.joint j) = .stopped ∧ bitAt status 3 then 4 else 0

/-- An item with usable feedback in which no cascade runs: ENABLE clear and current 0 (R406, R410). The values e, vf and u_c
that it publishes are unstated. -/
def State.lawIdle (s : State) (j : Nat) (it : Item) : State × Octets :=
  let x := s.joint j
  let o := it.payload
  let q := (s.coefs j x.set).map (toSigned 24)
  let fl := b2n x.ctx.satHi ||| b2n x.ctx.satLo <<< 1 ||| b2n x.ctx.blend.isSome <<< 2
  let g := fun i => toSigned 24 (Config.freeNat (s.free + i))
  let s1 := { s with free := s.free + 3 }
  let s2 := s1.onJoint j fun x =>
    { x with drive := fbStatus o, flags := fl, feTimer := 0,
             vals := [fbPosition o, nth x.vals 1 0, 0, fbCurrent o, nth x.vals 4 0,
                      if bitAt (fbStatus o) 3 then fbError o else nth x.vals 5 0] }
  (s2.publishAll j it.cyc (pubWords (g 0) (g 1) (g 2) (fbPosition o) fl it.cyc (fbCurrent o)),
   lawGroups 0 (s2.resetControl j (fbStatus o)) (nth q 9 0))

/-- The capture item resets the vendor context (R404). -/
def Joint.capture (x : Joint) (p im umax umin : Int) : Joint :=
  { x with phase := .soft, count := 0, holdPos := p, feTimer := 0, m := min (im.natAbs / 256 : Nat) (max umax (-umin)),
           ctx := { LawCtx.initial with pPrev := p } }

/-- A brake test of the joint: the brake stays closed, and in the current phases a test current takes the place of u (R530). -/
def State.brakeDrive (s : State) (j : Nat) : Option (Option Int) :=
  match s.saf.brake with
  | some t =>
    if t.joints.head? = some j then
      let c : Int := 32768 * t.current
      some (if t.phase = 0 then none else some (if t.phase = 1 then c else -c))
    else none
  | none => none

/-- The item under way has brought on a fault reaction that holds the position: it is the first of the engage delay (R410). -/
def State.holdEntered (s : State) (j : Nat) : State :=
  let engage := field (s.cfg (jointIdx j 7) 0) 47 32
  s.onJoint j fun x =>
    if x.phase = .hold then (if engage = 0 then { x with phase := .off, count := 0 } else { x with count := 1 }) else x

/-- The phase after the item's cascade: soft start, brake release, stop and fault hold end by their counts (R404 to R406,
R410). -/
def State.lawPhases (s : State) (j : Nat) (status : Nat) : State :=
  let x := s.joint j
  let c := s.cfg (jointIdx j 7) 0
  let release := field c 63 48
  let engage := field c 47 32
  match x.phase with
  | .soft =>
    if x.count ≥ 2 ^ field c 3 0 then
      if release = 0 then (s.onJoint j fun x => { x with phase := .run, count := 0 }).setFn (.joint j) .running
      else s.onJoint j fun x => { x with phase := .release, count := 0 }
    else s
  | .release =>
    if x.count ≥ release then
      if bitAt status 1 then (s.onJoint j fun x => { x with phase := .run, count := 0 }).setFn (.joint j) .running
      else (s.jointFault j 0x0105).holdEntered j
    else s
  | .stop =>
    if x.count > engage then (s.onJoint j fun x => { x with phase := .off, count := 0 }).setFn (.joint j) .stopped else s
  | .hold => if x.count > engage then s.onJoint j fun x => { x with phase := .off, count := 0 } else s
  | _ => s

/-- The following-error timer and its fault (R407). -/
def State.lawSupervise (s : State) (j law : Nat) (ec : Int) : State :=
  let watched := law = 1 ∨ law = 2 ∨ law = 5
  let beyond := ec.natAbs > s.cfg (jointIdx j 6) 1
  let t := if watched ∧ beyond then min ((s.joint j).feTimer + 1) (s.cfg (jointIdx j 6) 2) else 0
  let s1 := s.onJoint j fun x => { x with feTimer := t }
  if watched ∧ t ≥ s.cfg (jointIdx j 6) 2 then
    let s2 := s1.jointFault j 0x0101
    if (s.joint j).phase = .hold then s2 else s2.holdEntered j
  else s1

/-- The context before an item: rebuilt when the law changes from USER (R402). -/
def Joint.rebuild (x : Joint) (p : Int) (setpoint : Int) : Joint :=
  { x with ctx := { x.ctx with pPrev := p, vf := 0, notch1 := [0, 0, 0, 0], notch2 := [0, 0, 0, 0], satHi := false,
                               satLo := false, sPrev := setpoint } }

/-- A joint in STOPPING that waits only for its next item, or whose law in force is USER, passes to STOPPED (R406, R827). -/
def State.stopAtItem (s : State) (j : Nat) : State :=
  if ((s.joint j).phase = .stopNext ∨ (s.joint j).law = 0xFF) ∧ s.fnSt (.joint j) = .stopping then
    (s.onJoint j fun x => { x with phase := .off }).setFn (.joint j) .stopped
  else s

/-- Setpoint groups of a vendor law's item with INVALID or MISSING: none (R352), but for a joint without torque, whose first
setpoint after its entry into FAULT clears ENABLE (R406, R410; assumption log 67). -/
def State.staleGroups (s : State) (j : Nat) : Octets :=
  let x := s.joint j
  if x.phase = .off then lawGroups 0 (s.resetControl j x.drive) (nth ((s.coefs j x.set).map (toSigned 24)) 9 0) else []

/-- An item of a vendor law at its DONE: cascade, supervision, publication, trace vector and setpoint groups (R26, R407). -/
def State.lawRun (s : State) (j : Nat) (it : Item) (law0 : Nat) (hand : Option LawChange) : State × Octets :=
  let o := it.payload
  let s := s.stopAtItem j
  if !it.usable then (s.lawStale j it.cyc, s.staleGroups j)
  else
    let p := fbPosition o
    -- the change takes effect at its hand-over item (R402)
    let s1 : State := match hand with
      | some g => s.onJoint j fun x =>
          let x1 := if x.law = 0xFF then x.rebuild p (toSigned 24 (u32At o 8 / 256)) else x
          { x1 with law := law0, set := entrySet g.entry, changes := x.taken g }
      | none => s
    let x1 := s1.joint j
    let q := (s1.coefs j x1.set).map (toSigned 24)
    let umax := nth q 7 0
    let umin := nth q 8 0
    let s2 := s1.onJoint j fun x =>
      match x.phase with
      | .capture => x.capture p (fbCurrent o) umax umin
      | .soft => { x with count := x.count + 1 }
      | .release => { x with count := x.count + 1 }
      | .stop => { x with count := x.count + 1 }
      | .hold => { x with count := x.count + 1 }
      | _ => x
    let x2 := s2.joint j
    if x2.phase = .off ∨ x2.phase = .stopNext then s2.lawIdle j it
    else
      let soft := field (s.cfg (jointIdx j 7) 0) 3 0
      let ref := match s2.slotRef j it.cyc with
        | some r => if x2.phase = .hold then ⟨x2.faultPos, 0, 0⟩ else r
        | none => ⟨if x2.phase = .hold then x2.faultPos else x2.holdPos, 0, 0⟩
      let cp := if law0 = 2 then s2.couplingOf j it.cyc q else (0, false)
      let cl := if x2.phase = .soft then softClamp x2.m umax umin x2.count soft else (umin, umax)
      let ho := s.cfg (jointIdx j 5) 0
      let out := lawCascade x2.ctx
        { law := law0, q := q, step := field ho 31 8, blend := field ho 3 0, hand := hand.isSome, p := p, ref := ref, lo := cl.1,
          hi := cl.2, coupling := cp.1, excite := match x2.tune with | some t => if law0 = 5 then t.excite else 0 | none => 0 }
      let s3 := s2.onJoint j fun x =>
        { x with ctx := out.ctx, drive := fbStatus o, vals := upd x.vals 0 fun _ => p,
                 recent := (it.cyc, out.v, out.uc) :: x.recent.take 1,
                 tune := x.tune.map fun t =>
                   if law0 = 5 then t.add x.recent it.cyc out.v (out.ctx.satHi || out.ctx.satLo) else t }
      let s4 := (s3.lawSupervise j law0 out.ec).lawPhases j (fbStatus o)
      -- the drive reports FAULT (R409)
      let s5 := if bitAt (fbStatus o) 3 then
          (s4.onJoint j fun x => { x with vals := upd x.vals 5 fun _ => (fbError o : Int) }).jointFault j 0x0103
        else s4
      let ph := (s5.joint j).phase
      let on := ph == .soft || ph == .release || ph == .run || ph == .stop || ph == .hold
      let test := s5.brakeDrive j
      let u : Int := if !on then 0 else match test with | some (some c) => c | _ => out.u
      let control := if !on then s5.resetControl j (fbStatus o) else if test.isNone ∧ (ph = .release ∨ ph = .run) then 3 else 1
      let flags := b2n out.ctx.satHi ||| b2n out.ctx.satLo <<< 1 ||| b2n out.ctx.blend.isSome <<< 2 |||
        b2n (ph == .soft) <<< 4 ||| b2n ((s5.joint j).feTimer != 0) <<< 5 ||| b2n cp.2 <<< 6
      let fl7 := flags ||| b2n (s5.joint j).tune.isSome <<< 7
      let s6 := s5.onJoint j fun x =>
        { x with flags := flags,
                 vals := [p, ref.r, u * 256, fbCurrent o, out.ctx.integ, nth x.vals 5 0] }
      let s7 := s6.publishAll j it.cyc (pubWords out.e out.vf out.uc p fl7 it.cyc (fbCurrent o))
      let w := [out.e, out.v, out.vf, out.vcmd, out.ev, out.ctx.integ, out.s, out.uc, out.u, out.coupling, out.offset,
        fbCurrent o / 256].map img24
      (s7.traceVector j it.cyc (w ++ [ofSigned 48 p % 2 ^ 24, ofSigned 48 p / 2 ^ 24, fl7, 0]),
       lawGroups u control (nth q 9 0))

/-- The transitions of a joint whose item with usable feedback ran a user law, its flags and its values (R388, R409, R827). The
reference and the setpoint of its values are the ones that the item found and left (assumption log 67). -/
def State.userUsable (s : State) (j : Nat) (it : Item) (groups : Octets) : State :=
  let o := it.payload
  let s1 := if s.fnSt (.joint j) = .starting ∧ (s.joint j).phase = .capture then
      (s.onJoint j fun x => { x with phase := .run, holdPos := fbPosition o }).setFn (.joint j) .running
    else s
  let r := match s1.slotRef j it.cyc with | some r => r.r | none => (s1.joint j).holdPos
  let u := if 4 ≤ groups.length then i32At groups 0 else i32At o 8
  let s2 := s1.onJoint j fun x =>
    { x with drive := fbStatus o, flags := 0, feTimer := 0,
             vals := [fbPosition o, r, u, fbCurrent o, nth x.vals 4 0,
                      if bitAt (fbStatus o) 3 then fbError o else nth x.vals 5 0] }
  if bitAt (fbStatus o) 3 then s2.jointFault j 0x0103 else s2

/-- An item of a user law at its DONE: what the joint makes of it, and its trace vector (R388, R409, R415, R827). -/
def State.userItem (s : State) (j : Nat) (it : Item) (out : List Nat) (groups : Octets) : State :=
  let s0 := s.stopAtItem j
  let s1 := if it.usable then s0.userUsable j it groups else s0.onJoint j fun x => { x with flags := setBits x.flags 8 }
  s1.traceVector j it.cyc out

/-! ### START, STOP and objects of a joint -/

/-- Start checks of a joint (R391, R397, R403). -/
def State.jointStartOk (s : State) (j : Nat) : Bool :=
  let e := s.modeEntry j 0
  let law := entryLaw e
  match s.jointEntry j with
  | none => false
  | some b =>
    law != 0 && (law == 0xFF || decide (48 ≤ u8At s.le.lens j)) &&
    (law != 2 || (s.partners j).all fun q => q == 0xFF ||
      match s.jointEntry q with | some c => s.period c.1 == s.period b.1 | none => false)

/-- START of a joint (R403, R404, R827). -/
def State.jointStart (s : State) (j : Nat) : State :=
  let e := s.modeEntry j 0
  if !s.jointStartOk j then s.fault (.joint j) 0x0104
  else s.onJoint j fun x =>
    { x with phase := .capture, count := 0, law := entryLaw e, set := entrySet e, changes := [], feTimer := 0 }

/-- STOP of a joint (R406, R827). -/
def State.jointStop (s : State) (j : Nat) : State :=
  (s.onJoint j fun x =>
    if x.law = 0xFF ∨ x.phase = .capture then { x with phase := .stopNext } else { x with phase := .stop, count := 0 }).tuneEnd j 5

/-- The cause of a joint's fault is gone (R826). -/
def State.jointCauseGone (s : State) (j code : Nat) : Bool := code != 0x0102 || (s.joint j).missing == 0

/-- Joint status (Table 09-20). -/
def State.jointStatus (s : State) (j : Nat) : Nat :=
  let x := s.joint j
  x.law <<< 24 ||| x.set <<< 23 ||| b2n x.tune.isSome <<< 7 ||| x.flags

/-- Values of a joint's RO objects at an offset. -/
def State.readJoint (s : State) (j off sub : Nat) : Option Octets :=
  let x := s.joint j
  if off = 9 then some (toLE 4 (s.jointStatus j))
  else if off = 0xA then
    let w := [8, 8, 4, 4, 3, 2].getD (sub - 1) 4
    some (toLE w (ofSigned (8 * w) (nth x.vals (sub - 1) 0)))
  else if off = 0xC then
    some (if sub = 1 then toLE 1 x.tuneStatus else toLE 4 (ofSigned 32 (nth x.fit (sub - 2) 0)))
  else none

/-- State checks of a law select and a tune request (R398, R411). -/
def State.checkJoint (s : State) (j off : Nat) : Option Nat :=
  let x := s.joint j
  if off = 2 then (if s.isRunning (.joint j) && x.tune.isNone then none else some abState)
  else if off = 0xB then
    let armOk := match s.armOf j with | some a => s.isStopped (.arm a) | none => true
    (if s.isRunning (.joint j) && x.law == 1 && armOk && x.tune.isNone then none else some abState)
  else none

/-- The next cycle of joint `j`'s ring (R17). -/
def State.nextCycleOf (s : State) (j : Nat) : Nat :=
  match s.jointEntry j with
  | some b => cycleAt (s.period b.1) s.now + 1
  | none => 0

/-- An accepted law select or tune request, or coefficient set (R394, R398, R411). -/
def State.applyJoint (s : State) (j off sub : Nat) (v : Octets) : State :=
  if off = 2 then s.changeLaw j (leNat v) (s.nextCycleOf j) false
  else if off = 3 then s.placeSet j (sub - 1) v
  else if off = 0xB then
    let w := leNat v
    let t : TuneRun :=
      { amp := field w 63 40, hold := field w 39 32, fv := field w 31 16, start := s.nextCycleOf j,
        count := 0, lfsr := 0x7FF, sat := 0, sums := List.replicate 9 0, fitting := false }
    s.onJoint j fun x => { x with tune := some t, tuneStatus := 1 }
  else s

/-- IDENT_RUN_END: the run's items are over; POSITION again, and the fit starts (R412, R414). -/
def execIdentRunEnd (j : Nat) (s : State) : Host.Outcome State Fault Refusal :=
  match (s.joint j).tune with
  | some t =>
    if t.length ≤ t.count ∧ !t.fitting then
      .next (s.onJoint j fun x => { x with law := if x.law = 5 then 1 else x.law, tune := some { t with fitting := true } })
    else .next s
  | none => .next s

/-- TUNE_FIT_DONE (R412 to R414). -/
def execTuneFitDone (j : Nat) (s : State) : Host.Outcome State Fault Refusal := .next (s.tuneFit j)

end Sys2Proof.Machine
end

