-- ==== Sys2Proof/Machine/LeOps.lean ====
section
/-! DEFINITION. Items in the loop engines: start, fill, issue of an instruction, DONE, abort, write-back
(spec/08_loop_engine.md). -/

namespace Sys2Proof.Machine

/-- The bank that issues. -/
def Engine.cur (e : Engine) : Option Exec := if e.inUrgent then e.urgent else e.normal

/-- The bank that issues, changed. -/
def Engine.onCur (e : Engine) (f : Exec → Exec) : Engine :=
  if e.inUrgent then { e with urgent := e.urgent.map f } else { e with normal := e.normal.map f }

/-- Write-backs in the two normal banks. -/
def Engine.normalWbs (e : Engine) : Nat := (e.wbs.filter fun w => !w.urgent).length

/-- One of the two normal banks holds no item and is not in write-back (R336). -/
def Engine.bankFree (e : Engine) : Bool := decide (b2n e.normal.isSome + b2n e.slot.isSome + e.normalWbs ≤ 1)

/-- The local slot counts as empty (R336). -/
def Engine.slotEmpty (e : Engine) : Bool := e.slot.isNone && e.bankFree

/-- An idle engine (R302, R375). -/
def Engine.idle (e : Engine) : Bool := !e.halted && e.normal.isNone && e.slotEmpty

/-- The vendor library runs the item (R390). -/
def vendorLaw (law : Nat) : Bool := 1 ≤ law && law ≤ 5

/-- Program counter at the start of an item (R339, R390). -/
def State.flowEntry (s : State) (flow law : Nat) : Nat :=
  if flow < 96 then (if law = 0xFF then s.cfg (jointIdx flow 8) 0 else 0x1800)
  else if flow < 104 then Config.pwmEntry (flow - 96) % 8192
  else (match flowInfo s.way.table flow with | some i => i.entry | none => 0)

/-- An item starts in a bank: the law of a joint's item is settled and the registers are reset (R339, R390). -/
def State.beginExec (s : State) (x : Exec) : State × Exec :=
  if x.item.flow < 96 then
    let l := s.lawOf x.item.flow x.item
    (l.1, { x with law := l.2.1, hand := l.2.2, regs := RegBank.start (l.1.flowEntry x.item.flow l.2.1) })
  else (s, { x with regs := RegBank.start (s.flowEntry x.item.flow 0) })

/-- An item as its consumer finds it: where it names a buffer, the buffer's octets are read now, 256 of them at most from a buffer
that a law program named (R22, R304). -/
def State.fetchItem (s : State) (it : Item) : Item :=
  if it.buffer = 0xFFFFFFFF then it
  else { it with payload := s.bazOctets it.buffer (if 0x200 ≤ it.origin ∧ it.origin < 0x270 then min it.len 256 else it.len) }

/-- The wagon bank of an item (R304, R344 to R348): the out image holds free values. -/
def State.wagon (s : State) (it : Item) : State × Exec :=
  let atomic := match flowInfo s.way.table it.flow with | some i => i.atomic | none => false
  let len := if atomic then u8At s.le.lens it.flow else 0
  ({ s with free := s.free + 128 },
   { item := s.fetchItem it, ctxLen := len, atomic := atomic, filled := !atomic, ctx := List.replicate 64 0, out := [],
     wroteX := [], wroteY := [], outFree := s.free, regs := RegBank.start 0, lagged := false, law := 0, hand := none })

/-- Where an item of a loop-engine flow goes: engine and position 0 slot, 1 normal, 2 urgent (R302, R306, R375). -/
def State.pickEngine (s : State) (urgent : Bool) : Option (Nat × Nat) :=
  let find := fun (p : Engine → Bool) => (List.range 16).find? fun k => p (s.engine k)
  if urgent then
    match find fun e => e.idle && e.urgent.isNone with
    | some k => some (k, 2)
    | none => (find fun e => !e.halted && e.urgent.isNone).map fun k => (k, 2)
  else
    match find Engine.idle with
    | some k => some (k, 1)
    | none => (find fun e => !e.halted && e.slotEmpty).map fun k => (k, 0)

/-- An item put into an engine's position (R302 to R307). An urgent item that finds no normal item executing runs at once. -/
def State.placeLe (s : State) (it : Item) (k where_ : Nat) : State :=
  let w := s.wagon it
  let s1 := w.1.setPos (3 * k + where_) (some it)
  if where_ = 0 then s1.onEngine k fun e => { e with slot := some w.2 }
  else
    let b := s1.beginExec w.2
    if where_ = 1 then b.1.onEngine k fun e => { e with normal := some b.2 }
    else b.1.onEngine k fun e => { e with urgent := some b.2, inUrgent := e.normal.isNone }

/-- The context of an item loaded (R348). -/
def State.fillContext (s : State) (flow len : Nat) : List Nat :=
  (List.range 64).map fun i => if i < len then s.ctxWord flow i else 0

/-- A write-back of a flow's context is under way (R349). -/
def State.writingBack (s : State) (flow : Nat) : Bool := s.le.engines.any fun e => e.wbs.any fun w => w.flow == flow

/-- The bank of an engine that has just finished its item is left: the local slot's item starts, or the normal item goes on
(R337, R374). -/
def State.leaveBank (s : State) (k : Nat) (err : Bool) : State :=
  let e := s.engine k
  if e.inUrgent then
    (s.finishPos (3 * k + 2) err).onEngine k fun e => { e with urgent := none, inUrgent := false }
  else
    let s1 := s.finishPos (3 * k + 1) err
    match e.slot with
    | none =>
      -- an urgent item that waited for an open boundary runs at once
      s1.onEngine k fun e => { e with normal := none, inUrgent := e.urgent.isSome }
    | some x =>
      let s2 := (s1.setPos (3 * k + 1) (some x.item)).setPos (3 * k) none
      let b := s2.beginExec x
      b.1.onEngine k fun e => { e with normal := some b.2, slot := none }

/-- An item aborted: error completion, no write-back, its event (R376). -/
def State.leAbort (s : State) (k ev : Nat) : State := ((s.raise ev).leaveBank k true).refreshReady

/-- Out-image groups 0 to g − 1 as octets (R351). -/
def Exec.groups (x : Exec) (g : Nat) : Octets :=
  (List.range g).flatMap fun i => toLE 4 (x.outWord (2 * i) * 256 + x.outWord (2 * i + 1) / 65536 % 256)

/-- DONE of the item in the issuing bank, with the octets it writes back (R350, R351). -/
def State.leEnd (s : State) (k : Nat) (x : Exec) (groups : Octets) (err : Bool) : State :=
  let u := (s.engine k).inUrgent
  let wb : WriteBack :=
    { urgent := u, flow := x.item.flow, ctxLen := x.ctxLen, ctx := x.ctx, origin := x.item.origin, groups := groups }
  ((s.onEngine k fun e => { e with wbs := e.wbs ++ [wb] }).leaveBank k err).refreshReady

/-- DONE (R350): a vendor law's item takes its whole effect here (R407), any other ends with G groups. -/
def State.leDone (s : State) (k : Nat) (x : Exec) (g : Nat) (err : Bool) : State :=
  let j := x.item.flow
  if vendorLaw x.law then
    let r := s.lawRun j x.item x.law x.hand
    r.1.leEnd k x r.2 false
  else
    let s1 := if x.law = 0xFF then s.userItem j x.item ((List.range 16).map fun i => x.outWord (112 + i)) (x.groups g) else s
    s1.leEnd k x (x.groups g) err

/-- A write-back ends (R351 to R353): the context block and the setpoint area, which then counts as ready (R27). -/
def State.writeBackEnd (s : State) (k : Nat) : State :=
  match (s.engine k).wbs with
  | [] => s
  | w :: r =>
    let s1 := s.onEngine k fun e => { e with wbs := r }
    let s2 := if w.ctxLen = 0 then s1 else s1.putCtx w.flow (w.ctx.take w.ctxLen)
    if 0x800 ≤ w.origin ∧ w.origin < 0xA00 then
      let n := (w.origin - 0x800) / 0x80
      let e := (w.origin - 0x800) % 0x80
      let split := (s.panEntry n e).split
      s2.onRing n fun x => { x with entries := upd x.entries e fun y =>
        { y with setpoint := splice (padTo split y.setpoint) 0 (w.groups.take (split / 4 * 4)), fresh := true } }
    else s2

/-! ### Issue -/

/-- The engines execute: RUNNING, or STOPPING until the items in service have completed (R381). -/
def State.leActive (s : State) : Bool := s.isRunning .loopEngines || s.fnSt .loopEngines == .stopping

/-- A vendor law needs more instruction cycles than the execution limit allows, so it does not reach DONE (R376, Table
09-2). -/
def State.overLimit (s : State) (x : Exec) : Bool := vendorLaw x.law && decide (s.le.limit < s.lawCycles x)

/-- The item whose instruction engine `k` can issue: filled, not halted, below the execution limit (R349, R375, R376). -/
def State.issuer (s : State) (k : Nat) : Option Exec :=
  let e := s.engine k
  match e.cur with
  | some x => if s.leActive && !e.halted && x.filled && decide (x.regs.cycles < s.le.limit) then some x else none
  | none => none

/-- The result of an instruction put into its engine, with EV96 for a discarded store (R342). -/
def State.putCore (s : State) (k : Nat) (c : LeCore) : State :=
  let s1 := s.onEngine k fun e => { (e.onCur fun _ => c.exec) with scrX := c.scrX, scrY := c.scrY }
  if c.discarded then s1.raise 96 else s1

/-- The second delay slot of a taken branch or RTS ends in a construction of Table 08-6: the branch leaves a LOOP body without
LEXIT, or its target is the second word of a two-word instruction. -/
def branchError (v : RegBank) (prog : Octets) : Bool :=
  match v.target with
  | some t =>
    v.slots == 1 && v.rep ≤ 1 &&
      (isSecondWord prog t ||
       match v.from_ with | some f => v.loops.any fun e => e.leaves f t && !e.leaving | none => false)
  | none => false

/-- A construction of Table 08-6 in the instruction: its bank takes free values (R47, R368). -/
def hostError (v : RegBank) (op : LeOp) (loads : Nat) (prog : Octets) : Bool :=
  let slot := v.slots != 0 && op.notInSlot
  let twice := match op with
    | .alu _ _ _ (some x) (some y) => !x.store && !y.store && 2 ≤ x.reg && x.reg == y.reg
    | _ => false
  let own := match op with
    | .alu o d _ _ _ => !(([0x00, 0x05, 0x0F] : List Nat).contains o) && (loads &&& (if d then 2 else 1)) != 0
    | _ => false
  let after := v.aluAcc != 0 && (loads &&& v.aluAcc) != 0
  let rep := match op with
    | .rep _ => (match fetchLe prog (v.pc + 1) with | some o => o.notRepeated | none => false)
    | _ => false
  let body := match op with
    | .loop len _ => (match fetchLe prog (lastOf prog len (v.pc + 1)) with | some o => o.notLast | none => false)
    | _ => false
  slot || twice || own || after || rep || body || branchError v prog

/-- The end of an instruction's issue: program counter, delay slots, LOOP bodies, repetitions, cycles, boundary (R369 to R372,
R380). `v` is the bank that the instruction found. -/
def LeCore.finish (c : LeCore) (v : RegBank) (op : LeOp) (prog : Octets) : LeCore :=
  let branch := match op with | .branch .. => true | .rts => true | _ => false
  let c1 := c.onRegs fun r =>
    if v.rep > 1 then { r with rep := v.rep - 1 }
    else
      match op with
      | .rep n =>
        let t := (v.pc + 1) % 8192
        if n = 0 then { r with rep := 0 }.goNext t ((t + sizeAt prog t) % 8192)
        else { r with rep := n, pc := t, slots := r.slots - 1 }
      | .branch .. => { r with pc := (v.pc + 1) % 8192 }
      | .rts => { r with pc := (v.pc + 1) % 8192 }
      | _ => { r with rep := 0 }.goNext v.pc ((v.pc + op.words) % 8192)
  let closed := c1.closed || branch || v.slots == 2 || decide (v.rep > 1) ||
    (match op with | .rep _ => true | .loop .. => true | _ => false)
  c1.onRegs fun r => { r with cycles := v.cycles + op.cycles, boundary := !closed }

/-- The core that an instruction of engine `k` starts from. -/
def State.coreOf (s : State) (k : Nat) (x : Exec) : LeCore :=
  let e := s.engine k
  { engine := k, urgent := e.inUrgent, exec := { x with regs := x.regs.advance }, scrX := e.scrX, scrY := e.scrY,
    discarded := false, closed := false, loads := 0, unwritten := false }

/-- The finished core put back; a construction of Table 08-6 leaves free values. -/
def State.settle (s : State) (k : Nat) (v : RegBank) (op : LeOp) (c : LeCore) : State :=
  let c1 := c.finish v op s.le.prog
  if c.unwritten || hostError v op c.loads s.le.prog then
    { s with free := s.free + scrambleDraws }.putCore k (c1.onRegs fun r => r.scramble s.free)
  else s.putCore k c1

/-- A taken or untaken branch (R369): a taken BSR pushes the address after its second slot, none when the stack is full
(R376). -/
def LeCore.branch (c : LeCore) (v : RegBank) (sub : Bool) (cond tgt : Nat) : Option LeCore :=
  if condHolds cond v.srV.toNat then
    if sub then
      if v.rets.length ≥ 8 then none
      else some (c.onRegs fun r => { r with slots := 2, target := some tgt, from_ := none,
                                            rets := (v.pc + 3) % 8192 :: r.rets })
    else some (c.onRegs fun r => { r with slots := 2, target := some tgt, from_ := some v.pc })
  else some (c.onRegs fun r => { r with slots := 2, target := none, from_ := none })

/-- The effect of an instruction on the registers and memories alone; none when a stack overflows or underflows (R376). -/
def LeCore.run (le : LoopEngines) (v : RegBank) (op : LeOp) (c : LeCore) : Option LeCore :=
  match op with
  | .rts =>
    match v.rets with
    | [] => none
    | t :: r => some (c.onRegs fun b => { b with slots := 2, target := some t, from_ := some v.pc, rets := r })
  | .loop len n =>
    if v.loops.length ≥ 4 then none
    else
      let a := (v.pc + 1) % 8192
      some (c.onRegs fun b => { b with loops := ⟨n, a, lastOf le.prog len a, false⟩ :: b.loops })
  | .lexit =>
    match v.loops with
    | [] => none
    | e :: r => some (c.onRegs fun b => { b with loops := { e with passes := 1, leaving := true } :: r })
  | .branch sub cond tgt => c.branch v sub cond tgt
  | .imm dst value _ => some (c.moveTo dst value)
  | .abs y store reg addr =>
    if store then
      let m := c.moveFrom v reg
      some (if y then m.2.writeY addr m.1 else m.2.writeX addr m.1)
    else let w := c.load le y addr; some (w.2.moveTo reg w.1)
  | .ind y store reg ptr md =>
    let a := c.address v ptr md
    if store then
      let m := a.2.moveFrom v reg
      some (if y then m.2.writeY a.1 m.1 else m.2.writeX a.1 m.1)
    else let w := a.2.load le y a.1; some (w.2.moveTo reg w.1)
  | .mov dst src =>
    let m := c.moveFrom v src
    some (m.2.moveTo dst m.1)
  | .shift right d n => some (c.runShift v right d n)
  | .addp ptr off =>
    some { c.onRegs fun r => { r with p := upd r.p ptr fun p => p + BitVec.ofNat 14 off } with closed := true }
  | .ftap d neg i j => some (c.runFtap le v d neg i j)
  | .alu o d src x y => some (c.runAlu le v o d src x y)
  | _ => some c

/-- Board address of GET and PUB (Table 08-9). -/
def LeCore.boardAddr (c : LeCore) (v : RegBank) (ind : Bool) (ptr md addr : Nat) : Nat × LeCore :=
  if ind then let a := c.address v ptr md; (a.1 % 4096, a.2) else (addr, c)

/-- POST (R309 to R311, R378): the outcome for PS, and the state with the item queued or delayed. -/
def State.lePost (s : State) (k : Nat) (flow list w0 w1 w2 w3 : Nat) : Nat × State :=
  if w1 > 65535 ∨ w3 > 65535 ∨ flow < 128 ∨ (flowInfo s.way.table flow).isNone then (2, s)
  else if !s.way.hasRoom flow then (1, s)
  else
    let buffer := if w0 = 0xFFFFFF then 0xFFFFFFFF else 8 * w0
    let it : Item :=
      { flow := flow, origin := 0x200 + 3 * k + (if (s.engine k).inUrgent then 2 else 1), buffer := buffer, len := w1,
        flags := 0, tag := w2, payload := [], cyc := 0 }
    if w3 = 0 then (0, s.enqueue it)
    else (0, (s.onWay fun w => { w with delayed := w.delayed ++ [⟨list, w3, it⟩] }))

/-- The context and the out image after a DONE in a delay slot, a construction of Table 08-6: free values (R47, R368). -/
def Exec.spoil (x : Exec) (f : Nat) : Exec :=
  { x with ctx := (List.range 64).map fun i => Config.freeNat (f + i) % 2 ^ 24, out := [], outFree := f + 64 }

/-- How many free values `Exec.spoil` takes. -/
def spoilDraws : Nat := 192

/-- A debug halt that is due is taken at an open boundary (R372, R375). -/
def State.takeHalt (s : State) (k : Nat) : State :=
  let e := s.engine k
  let open_ := match e.cur with | some x => x.regs.boundary | none => true
  if e.haltDue && open_ then
    ((s.onEngine k fun e => { e with halted := true, haltDue := false }).raise 101).groupsHalted
  else s

/-- An instruction issues (R366 to R378). -/
def State.leRun (s : State) (k : Nat) (x : Exec) (op : LeOp) : State :=
  let v := x.regs
  let c := s.coreOf k x
  match op with
  | .done g err =>
    if v.slots = 0 then s.leDone k x g err
    else { s with free := s.free + spoilDraws }.leDone k (x.spoil s.free) g err
  | .post flow list ptr =>
    let a := (nth v.pV ptr 0#14).toNat
    let r0 := c.load s.le false a
    let r1 := r0.2.load s.le false (a + 1)
    let r2 := r1.2.load s.le false (a + 2)
    let r3 := r2.2.load s.le false (a + 3)
    let o := s.lePost k flow list r0.1 r1.1 r2.1 r3.1
    let c1 := { r3.2.onRegs fun b => b.putSr (clearBits b.sr.toNat 0xC00 ||| o.1 <<< 10) with closed := true }
    o.2.settle k v op c1
  | .evr n => (s.settle k v op c).raise (480 + n)
  | .get dst ind ptr md addr =>
    let a := c.boardAddr v ind ptr md addr
    s.settle k v op (a.2.moveTo dst (s.boardGet x.item.cyc a.1))
  | .pub src ind ptr md addr =>
    let a := c.boardAddr v ind ptr md addr
    let m := a.2.moveFrom v src
    let s1 := s.settle k v op m.2
    if a.1 < 0x800 then s1.publish x.item.flow x.item.cyc a.1 m.1 else s1.raise 96
  | .bkpt =>
    let s1 := s.settle k v op c
    if s.cfg 0x2407 0 = 1 then s1.onEngine k fun e => { e with haltDue := true } else s1
  | _ =>
    match c.run s.le v op with
    | some c1 => s.settle k v op c1
    | none => s.leAbort k 98

/-- Engine `k` issues an instruction. Without an item that can issue, or when its program holds another instruction there,
nothing issues; a reserved encoding aborts the item (R376). A vendor law's instructions are the library's own (R389). -/
def State.leIssue (s : State) (k : Nat) (op : LeOp) : State :=
  match s.issuer k with
  | none => s
  | some x =>
    if vendorLaw x.law then
      (match op with | .done g err => if s.overLimit x then s else s.leDone k x g err | _ => s)
    else
      match fetchLe s.le.prog x.regs.pc with
      | none => s.leAbort k 99
      | some op' => if op' = op then (s.leRun k x op).takeHalt k else s

end Sys2Proof.Machine
end

