-- ==== Sys2Proof/Machine/Le.lean ====
section
/-! DEFINITION. The loop engines' instructions, events and objects (spec/08_loop_engine.md). -/

namespace Sys2Proof.Machine

/-! ### Instructions: engine `k` issues one -/

/-- NOP (R377). -/
def execNop (k : Fin 16) (s : State) : Host.Outcome State Fault Refusal := .next (s.leIssue k .nop)
/-- DONE (R350). -/
def execDone (k : Fin 16) (g : Nat) (err : Bool) (s : State) : Host.Outcome State Fault Refusal :=
  .next (s.leIssue k (.done g err))
/-- RTS (R369). -/
def execRts (k : Fin 16) (s : State) : Host.Outcome State Fault Refusal := .next (s.leIssue k .rts)
/-- REP (R370). -/
def execRep (k : Fin 16) (n : Nat) (s : State) : Host.Outcome State Fault Refusal := .next (s.leIssue k (.rep n))
/-- LOOP (R371). -/
def execLoop (k : Fin 16) (len n : Nat) (s : State) : Host.Outcome State Fault Refusal := .next (s.leIssue k (.loop len n))
/-- LEXIT (R371). -/
def execLexit (k : Fin 16) (s : State) : Host.Outcome State Fault Refusal := .next (s.leIssue k .lexit)
/-- BKPT (R375). -/
def execBkpt (k : Fin 16) (s : State) : Host.Outcome State Fault Refusal := .next (s.leIssue k .bkpt)
/-- BRA (R369). -/
def execBra (k : Fin 16) (cond target : Nat) (s : State) : Host.Outcome State Fault Refusal :=
  .next (s.leIssue k (.branch false cond target))
/-- BSR (R369). -/
def execBsr (k : Fin 16) (cond target : Nat) (s : State) : Host.Outcome State Fault Refusal :=
  .next (s.leIssue k (.branch true cond target))
/-- Immediate move, short or LONG (R362, Table 08-9). -/
def execMoveImmediate (k : Fin 16) (dst value : Nat) (long : Bool) (s : State) : Host.Outcome State Fault Refusal :=
  .next (s.leIssue k (.imm dst value long))
/-- Absolute move (R361, R362). -/
def execMoveAbsolute (k : Fin 16) (y store : Bool) (reg addr : Nat) (s : State) : Host.Outcome State Fault Refusal :=
  .next (s.leIssue k (.abs y store reg addr))
/-- Indirect move (R364). -/
def execMoveIndirect (k : Fin 16) (y store : Bool) (reg ptr md : Nat) (s : State) : Host.Outcome State Fault Refusal :=
  .next (s.leIssue k (.ind y store reg ptr md))
/-- Register move (R361, R362). -/
def execMove (k : Fin 16) (dst src : Nat) (s : State) : Host.Outcome State Fault Refusal := .next (s.leIssue k (.mov dst src))
/-- SHLN (R825). -/
def execShln (k : Fin 16) (d : Bool) (n : Nat) (s : State) : Host.Outcome State Fault Refusal :=
  .next (s.leIssue k (.shift false d n))
/-- SHRN (R825). -/
def execShrn (k : Fin 16) (d : Bool) (n : Nat) (s : State) : Host.Outcome State Fault Refusal :=
  .next (s.leIssue k (.shift true d n))
/-- ADDP. -/
def execAddp (k : Fin 16) (ptr off : Nat) (s : State) : Host.Outcome State Fault Refusal :=
  .next (s.leIssue k (.addp ptr off))
/-- POST (R378). -/
def execPost (k : Fin 16) (flow list ptr : Nat) (s : State) : Host.Outcome State Fault Refusal :=
  .next (s.leIssue k (.post flow list ptr))
/-- EVR. -/
def execEvr (k : Fin 16) (v : Nat) (s : State) : Host.Outcome State Fault Refusal := .next (s.leIssue k (.evr v))
/-- GET (R354, R355). -/
def execGet (k : Fin 16) (dst : Nat) (ind : Bool) (ptr md addr : Nat) (s : State) : Host.Outcome State Fault Refusal :=
  .next (s.leIssue k (.get dst ind ptr md addr))
/-- PUB (R354, R355). -/
def execPub (k : Fin 16) (src : Nat) (ind : Bool) (ptr md addr : Nat) (s : State) : Host.Outcome State Fault Refusal :=
  .next (s.leIssue k (.pub src ind ptr md addr))
/-- FTAP (R379). -/
def execFtap (k : Fin 16) (d neg : Bool) (i j : Nat) (s : State) : Host.Outcome State Fault Refusal :=
  .next (s.leIssue k (.ftap d neg i j))
/-- PMOV. -/
def execPmov (k : Fin 16) (x y : Option ParMove) (s : State) : Host.Outcome State Fault Refusal :=
  .next (s.leIssue k (.alu 0x00 false 0 x y))
/-- CLR. -/
def execClr (k : Fin 16) (d : Bool) (x y : Option ParMove) (s : State) : Host.Outcome State Fault Refusal :=
  .next (s.leIssue k (.alu 0x01 d 0 x y))
/-- CPY. -/
def execCpy (k : Fin 16) (d : Bool) (src : Nat) (x y : Option ParMove) (s : State) : Host.Outcome State Fault Refusal :=
  .next (s.leIssue k (.alu 0x02 d src x y))
/-- ADD. -/
def execAdd (k : Fin 16) (d : Bool) (src : Nat) (x y : Option ParMove) (s : State) : Host.Outcome State Fault Refusal :=
  .next (s.leIssue k (.alu 0x03 d src x y))
/-- SUB. -/
def execSub (k : Fin 16) (d : Bool) (src : Nat) (x y : Option ParMove) (s : State) : Host.Outcome State Fault Refusal :=
  .next (s.leIssue k (.alu 0x04 d src x y))
/-- CMP. -/
def execCmp (k : Fin 16) (d : Bool) (src : Nat) (x y : Option ParMove) (s : State) : Host.Outcome State Fault Refusal :=
  .next (s.leIssue k (.alu 0x05 d src x y))
/-- NEG. -/
def execNeg (k : Fin 16) (d : Bool) (x y : Option ParMove) (s : State) : Host.Outcome State Fault Refusal :=
  .next (s.leIssue k (.alu 0x06 d 0 x y))
/-- ABS. -/
def execAbs (k : Fin 16) (d : Bool) (x y : Option ParMove) (s : State) : Host.Outcome State Fault Refusal :=
  .next (s.leIssue k (.alu 0x07 d 0 x y))
/-- MUL. -/
def execMul (k : Fin 16) (d : Bool) (src : Nat) (x y : Option ParMove) (s : State) : Host.Outcome State Fault Refusal :=
  .next (s.leIssue k (.alu 0x08 d src x y))
/-- MULN. -/
def execMuln (k : Fin 16) (d : Bool) (src : Nat) (x y : Option ParMove) (s : State) : Host.Outcome State Fault Refusal :=
  .next (s.leIssue k (.alu 0x09 d src x y))
/-- MAC. -/
def execMac (k : Fin 16) (d : Bool) (src : Nat) (x y : Option ParMove) (s : State) : Host.Outcome State Fault Refusal :=
  .next (s.leIssue k (.alu 0x0A d src x y))
/-- MSU. -/
def execMsu (k : Fin 16) (d : Bool) (src : Nat) (x y : Option ParMove) (s : State) : Host.Outcome State Fault Refusal :=
  .next (s.leIssue k (.alu 0x0B d src x y))
/-- MULR (R360). -/
def execMulr (k : Fin 16) (d : Bool) (src : Nat) (x y : Option ParMove) (s : State) : Host.Outcome State Fault Refusal :=
  .next (s.leIssue k (.alu 0x0C d src x y))
/-- MADR (R360). -/
def execMadr (k : Fin 16) (d : Bool) (src : Nat) (x y : Option ParMove) (s : State) : Host.Outcome State Fault Refusal :=
  .next (s.leIssue k (.alu 0x0D d src x y))
/-- RND (R360). -/
def execRnd (k : Fin 16) (d : Bool) (x y : Option ParMove) (s : State) : Host.Outcome State Fault Refusal :=
  .next (s.leIssue k (.alu 0x0E d 0 x y))
/-- TST. -/
def execTst (k : Fin 16) (d : Bool) (x y : Option ParMove) (s : State) : Host.Outcome State Fault Refusal :=
  .next (s.leIssue k (.alu 0x0F d 0 x y))
/-- ASL. -/
def execAsl (k : Fin 16) (d : Bool) (x y : Option ParMove) (s : State) : Host.Outcome State Fault Refusal :=
  .next (s.leIssue k (.alu 0x10 d 0 x y))
/-- ASR. -/
def execAsr (k : Fin 16) (d : Bool) (x y : Option ParMove) (s : State) : Host.Outcome State Fault Refusal :=
  .next (s.leIssue k (.alu 0x11 d 0 x y))
/-- MAX. -/
def execMax (k : Fin 16) (d : Bool) (src : Nat) (x y : Option ParMove) (s : State) : Host.Outcome State Fault Refusal :=
  .next (s.leIssue k (.alu 0x12 d src x y))
/-- MIN. -/
def execMin (k : Fin 16) (d : Bool) (src : Nat) (x y : Option ParMove) (s : State) : Host.Outcome State Fault Refusal :=
  .next (s.leIssue k (.alu 0x13 d src x y))
/-- AND (R363). -/
def execAnd (k : Fin 16) (d : Bool) (src : Nat) (x y : Option ParMove) (s : State) : Host.Outcome State Fault Refusal :=
  .next (s.leIssue k (.alu 0x14 d src x y))
/-- OR (R363). -/
def execOr (k : Fin 16) (d : Bool) (src : Nat) (x y : Option ParMove) (s : State) : Host.Outcome State Fault Refusal :=
  .next (s.leIssue k (.alu 0x15 d src x y))
/-- XOR (R363). -/
def execXor (k : Fin 16) (d : Bool) (src : Nat) (x y : Option ParMove) (s : State) : Host.Outcome State Fault Refusal :=
  .next (s.leIssue k (.alu 0x16 d src x y))
/-- SAT (R817). -/
def execSat (k : Fin 16) (d : Bool) (x y : Option ParMove) (s : State) : Host.Outcome State Fault Refusal :=
  .next (s.leIssue k (.alu 0x17 d 0 x y))

/-! ### Events of the engines -/

/-- CONTEXT_FILL (R348, R349): the context of the item at a position, once no write-back of its flow is under way. -/
def execContextFill (pos : Fin 48) (s : State) : Host.Outcome State Fault Refusal :=
  let k := pos.val / 3
  let fill := fun (x : Option Exec) => x.map fun x =>
    if x.filled || s.writingBack x.item.flow then x
    else { x with filled := true, ctx := s.fillContext x.item.flow x.ctxLen }
  .next (s.onEngine k fun e =>
    if pos.val % 3 = 0 then { e with slot := fill e.slot }
    else if pos.val % 3 = 1 then { e with normal := fill e.normal }
    else { e with urgent := fill e.urgent })

/-- PREEMPT_SWITCH (R307, R372, R373): at an open boundary the engine goes over to its urgent item. -/
def execPreemptSwitch (k : Fin 16) (s : State) : Host.Outcome State Fault Refusal :=
  let e := s.engine k
  let open_ := match e.normal with | some x => x.regs.boundary | none => true
  if e.urgent.isSome && !e.inUrgent && !e.halted && open_ then .next (s.onEngine k fun e => { e with inUrgent := true })
  else .next s

/-- EXECUTION_LIMIT (R376): the issuing item has executed the limit. -/
def execExecutionLimit (k : Fin 16) (s : State) : Host.Outcome State Fault Refusal :=
  let e := s.engine k
  match e.cur with
  | some x =>
    if s.leActive && !e.halted && (s.overLimit x || decide (s.le.limit ≤ x.regs.cycles)) then .next (s.leAbort k 97) else .next s
  | none => .next s

/-- WRITE_BACK_END (R351 to R353): the oldest write-back of the engine ends. -/
def execWriteBackEnd (k : Fin 16) (s : State) : Host.Outcome State Fault Refusal := .next (s.writeBackEnd k)

/-- LE_MEMORY_ERROR: corrected (EV102), or uncorrectable: EV103 and FAULT 0x0101 (R385, R815). -/
def execLeMemoryError (k : Fin 16) (corrected : Bool) (s : State) : Host.Outcome State Fault Refusal :=
  if corrected then .next (s.raise 102)
  else .next (((s.onEngine k fun e => { e with memFault := true }).raise 103).fault .loopEngines 0x0101)

/-! ### Objects and function state -/

/-- Every halt ended by aborting the halted item (R375). -/
def State.endHalts (s : State) : State :=
  ((List.range 16).foldl (fun s k =>
    if (s.engine k).halted then (s.onEngine k fun e => { e with halted := false, haltDue := false }).leaveBank k true else s)
    s).refreshReady

/-- Every halted engine resumes (R375). -/
def State.resumeHalts (s : State) : State :=
  s.onLe fun l => { l with engines := l.engines.map fun e => { e with halted := false, haltDue := false } }

/-- Program memory in force after START: the image below 0x1800, the vendor library above (R389). -/
def programInForce (o : Octets) : Octets :=
  padTo 0x6000 o ++ (List.range 0x800).flatMap fun i => toLE 4 (Config.libraryWord i)

/-- START of the loop engines (R381, R389, R394). -/
def State.leStart (s : State) : State :=
  if !programOk (s.obj 0x2401 0) then s.fault .loopEngines 0x0102
  else
    let s0 : State := { s with joints := s.joints.map fun x => { x with ctx := LawCtx.initial } }
    let s1 := s0.clearCtx.onLe fun l =>
      { l with prog := programInForce (s.obj 0x2401 0), xImg := s.obj 0x2402 0, yImg := s.obj 0x2403 0,
               lens := s.obj 0x2404 0, limit := s.cfg 0x2405 0, boardRing := s.cfg 0x2406 0,
               pubs := [[], [], [], []], refs := [[], [], [], []], writers := [],
               engines := l.engines.map fun e => { e with memFault := false, wbs := [], haltDue := false } }
    (List.range 96).foldl (fun s j =>
      (s.placeSet j 0 (s.obj (jointIdx j 3) 1)).placeSet j 1 (s.obj (jointIdx j 3) 2)) s1

/-- Context lengths (Table 08-18, R816). -/
def lensOk (o : Octets) : Bool :=
  o.length == 1024 && (o.all fun b => b.toNat ≤ 64) && allZero (slice o 104 24)

/-- Engine status (Table 08-23). -/
def State.engineStatus (s : State) (k : Nat) : Nat :=
  let e := s.engine k
  (match e.normal with | some x => x.item.flow % 1024 | none => 0) <<< 16 ||| b2n e.halted <<< 5 |||
  b2n (!e.wbs.isEmpty) <<< 4 ||| b2n e.urgent.isSome <<< 3 ||| b2n e.slot.isSome <<< 2 ||| b2n e.normal.isSome <<< 1 |||
  b2n e.memFault

/-- An item that is still executing at the start of cycle c + 2 raises EV100 (R356). -/
def State.boardLag (s : State) (cycle : Nat) : State :=
  let late := fun (x : Option Exec) => match x with | some x => !x.lagged && x.item.cyc + 2 == cycle | none => false
  let mark := fun (x : Option Exec) => x.map fun x => if x.item.cyc + 2 = cycle then { x with lagged := true } else x
  (List.range 16).foldl (fun s k =>
    let e := s.engine k
    let n := b2n (late e.normal) + b2n (late e.urgent)
    let s1 := s.onEngine k fun e => { e with normal := mark e.normal, urgent := mark e.urgent }
    s1.raiseAll (List.replicate n 100)) s

end Sys2Proof.Machine
end

