-- ==== Sys2Proof/Machine/RingFrames.lean ====
section
/-! DEFINITION. The octets of caravans and courier frames (spec/04_isadal_ring_protocol.md Tables 04-2, 04-4, 04-8, 04-11)
and the places of the courier slots (spec/05_ring_schedule_sync_healing.md R226, R244). -/

namespace Sys2Proof.Machine

/-- CRC-32 of the ring (R186). -/
def crc32 (o : Octets) : Nat := crcReflected 0xEDB88320 32 o

/-- Octets followed by their CRC-32 (R186). -/
def withCrc (o : Octets) : Octets := o ++ toLE 4 (crc32 o)

/-- How a CRC compares with the octets it covers: right, complemented (R179), or wrong in another way. -/
inductive CrcCheck where
  | good | upstream | line
deriving DecidableEq, Repr

/-- The check of a received CRC against the covered octets (R179). -/
def crcCheck (covered : Octets) (crc : Nat) : CrcCheck :=
  let c := crc32 covered
  if crc = c then .good else if crc = c ^^^ 0xFFFFFFFF then .upstream else .line

/-- A caravan head (Table 04-2); octet 0 stands for /SC/. -/
def headOctets (kind flags cycle period sample apply_ cmd arg target : Nat) : Octets :=
  0xFB#8 :: withCrc (toLE 1 1 ++ toLE 1 kind ++ toLE 1 flags ++ toLE 8 cycle ++ toLE 4 period ++ toLE 4 sample ++
    toLE 4 apply_ ++ toLE 1 cmd ++ toLE 1 arg ++ toLE 2 target)

/-- A head as received: 32 octets from /SC/ on, with a valid CRC (R160, R186). -/
def headValid (o : Octets) : Bool :=
  o.length == 32 && u8At o 0 == 0xFB && crcCheck (slice o 1 27) (u32At o 28) == .good

/-- A head of a Version and Type that is processed (R167). -/
def headKnown (o : Octets) : Bool := u8At o 1 == 1 && inRange 1 3 (u8At o 2)

/-- A pannier as the master sends it (Table 04-4): Touch 0, feedback area zero. -/
def pannierOctets (addr sub len flags split : Nat) (setpoint : Octets) : Octets :=
  withCrc (toLE 1 addr ++ toLE 1 sub ++ toLE 1 (len / 8) ++ toLE 1 0 ++ toLE 1 flags ++ toLE 1 0 ++ toLE 1 0 ++
    toLE 1 split ++ padTo (len - 12) (padTo split setpoint))

/-- A trailer (Table 04-8); the last two octets stand for /T/ and /R/. -/
def trailerOctets (barrier cutMask cutReport : Nat) : Octets :=
  withCrc (toLE 4 0 ++ toLE 2 barrier ++ toLE 2 0 ++ toLE 2 0 ++ toLE 2 0 ++ toLE 4 cutMask ++ toLE 4 cutReport ++
    toLE 2 0 ++ toLE 1 0 ++ zeros 11) ++ [0xFD#8, 0xF7#8]

/-- A returned trailer is 40 octets with a valid CRC that end with /T/ and /R/. -/
def trailerValid (o : Octets) : Bool :=
  o.length == 40 && crcCheck (o.take 34) (u32At o 34) == .good && u8At o 38 == 0xFD && u8At o 39 == 0xF7

/-- A courier frame (Table 04-11); octet 0 stands for /SK/, the last two for /T/ and /R/. -/
def courierOctets (src dst kind msg : Nat) (payload : Octets) : Octets :=
  0x5C#8 :: withCrc (toLE 1 src ++ toLE 1 dst ++ toLE 1 kind ++ toLE 2 payload.length ++ toLE 2 msg ++ payload) ++
    [0xFD#8, 0xF7#8]

/-- A courier frame as received: from /SK/ to /T/ and /R/ with its payload length, and a valid CRC (R189). -/
def courierValid (o : Octets) : Bool :=
  let p := u16At o 4
  o.length == p + 14 && u8At o 0 == 0x5C && u8At o (p + 12) == 0xFD && u8At o (p + 13) == 0xF7 &&
  crcCheck (slice o 1 (7 + p)) (u32At o (8 + p)) == .good

/-- A SERVICE_REQ payload (R204), filled to a multiple of 4 (R189). -/
def serviceReqPayload (op param : Nat) (value : Octets) : Octets :=
  let p := toLE 1 op ++ toLE 1 param ++ toLE 2 0 ++ value
  p ++ zeros ((4 - p.length % 4) % 4)

/-- Total pannier length ΣL of ring `n`. -/
def State.sumL (s : State) (n : Nat) : Nat := (s.panTable n).foldl (fun a e => a + e.len) 0

/-- γ_a in tenths of a nanosecond (R226). -/
def State.gamma10 (s : State) (n a : Nat) : Nat :=
  (72 + s.sumL n) * 32 + 800 + 10 * (List.range a).foldl (fun acc i => acc + s.slotLen n i) 0

/-- The slot table written to node `j` (R244): arrival offsets, the send offset of its own slot, slot lengths. -/
def State.slotTable (s : State) (n j : Nat) : Octets :=
  let d := nth (s.ring n).delays (j - 1) NodeDelay.initial
  (List.range 33).flatMap (fun a =>
    let len := s.slotLen n a
    let ps := s.gamma10 n a * 100 + d.delay
    let ps := if a = j then ((ps : Int) + 1000 * d.fwd).toNat else ps
    (if len = 0 then toLE 4 0xFFFFFFFF else toLE 4 (roundEven ps 1000).toNat) ++ toLE 2 len) ++ toLE 2 0

/-- The delay list (R251): the delay of each address in ps, 0xFFFFFFFF for an address with no node. -/
def delayList (addrs : List Nat) (delay : Nat → Nat) : Octets :=
  (List.range 32).flatMap fun i => if addrs.contains (i + 1) then toLE 4 (delay (i + 1)) else toLE 4 0xFFFFFFFF

end Sys2Proof.Machine
end

