-- ==== Sys2Proof/Machine/LineCode.lean ====
section
/-! DEFINITION. The code groups of a ring's lines: 8b/10b with running disparity, and the ordered sets of Table 04-1
(spec/04_isadal_ring_protocol.md R157, R160, R162). PRESUMED: the code tables are those of IEEE 802.3 clause 36, which R157 names
(assumption log 71). A code group is written abcdeifghj, with the bit sent first as the most significant one. -/

namespace Sys2Proof.Machine

/-- The 5b/6b code for negative running disparity. -/
def sixBit : List Nat :=
  [0b100111, 0b011101, 0b101101, 0b110001, 0b110101, 0b101001, 0b011001, 0b111000,
   0b111001, 0b100101, 0b010101, 0b110100, 0b001101, 0b101100, 0b011100, 0b010111,
   0b011011, 0b100011, 0b010011, 0b110010, 0b001011, 0b101010, 0b011010, 0b111010,
   0b110011, 0b100110, 0b010110, 0b110110, 0b001110, 0b101110, 0b011110, 0b101011]

/-- The 3b/4b code for negative running disparity, with the primary form of x.7. -/
def fourBit : List Nat := [0b1011, 0b1001, 0b0101, 0b1100, 0b1101, 0b1010, 0b0110, 0b1110]

/-- The last four bits of a special code group that begins at negative running disparity. -/
def fourBitK : List Nat := [0b0100, 0b1001, 0b0101, 0b0011, 0b0010, 0b1010, 0b0110, 0b1000]

/-- Ones in a number of `w` bits. -/
def onesIn (w v : Nat) : Nat := (List.range w).countP fun i => v.testBit i

/-- A sub-block and the running disparity after it: complemented at positive disparity where it is unbalanced or one of the two
balanced sub-blocks that alternate. `true` is positive. -/
def subBlock (w alternating code : Nat) (rd : Bool) : Nat × Bool :=
  let even := 2 * onesIn w code == w
  (if rd && (!even || code == alternating) then 2 ^ w - 1 - code else code, if even then rd else !rd)

/-- The data code group of an octet and the running disparity after it. -/
def dataGroup (o : Byte) (rd : Bool) : BitVec 10 × Bool :=
  let x := o.toNat % 32
  let y := o.toNat / 32
  let a := subBlock 6 0b111000 (nth sixBit x 0) rd
  let alt := y == 7 && (if a.2 then x == 11 || x == 13 || x == 14 else x == 17 || x == 18 || x == 20)
  let b := subBlock 4 0b1100 (if alt then 0b0111 else nth fourBit y 0) a.2
  (BitVec.ofNat 10 (a.1 * 16 + b.1), b.2)

/-- The special code group K x.y of an octet: K28.y, K23.7, K27.7, K29.7 or K30.7. -/
def specialGroup (o : Byte) (rd : Bool) : BitVec 10 × Bool :=
  let x := o.toNat % 32
  let code := (if x = 28 then 0b001111 else nth sixBit x 0) * 16 + nth fourBitK (o.toNat / 32) 0
  (BitVec.ofNat 10 (if rd then 1023 - code else code), if 2 * onesIn 10 code == 10 then rd else !rd)

/-- Code groups of a run of octets, each with whether it is a special one, and the running disparity after them. -/
def groupsFrom : List (Byte × Bool) → Bool → List (BitVec 10) × Bool
  | [], rd => ([], rd)
  | x :: r, rd =>
    let g := if x.2 then specialGroup x.1 rd else dataGroup x.1 rd
    let t := groupsFrom r g.2
    (g.1 :: t.1, t.2)

/-- An idle ordered set: /I1/ at positive running disparity, /I2/ at negative (Table 04-1). -/
def idleSet (rd : Bool) : List (Byte × Bool) := [(0xBC#8, true), (if rd then 0xC5#8 else 0x50#8, false)]

/-- The octets of a frame with its delimiters marked: the first octet, and /T/ and /R/ at its end. -/
def delimited (o : Octets) : List (Byte × Bool) :=
  o.mapIdx fun i b => (b, i == 0 || decide (o.length ≤ i + 2))

/-- A frame on the line, directly after a complete idle ordered set, from the running disparity of the idle before it (R162). -/
def frameGroups (o : Octets) (rd : Bool) : List (BitVec 10) × Bool := groupsFrom (idleSet rd ++ delimited o) rd

/-- Time on the wire of a number of octets, in tenths of a nanosecond (R157). -/
def wireTime (octets : Nat) : Nat := 32 * octets

end Sys2Proof.Machine
end

