-- ==== Sys2Proof/Machine/RingOps.lean ====
section
/-! DEFINITION. Operations of a ring's master: counts, items, delays, slot 0, start, join, fold and heal
(spec/05_ring_schedule_sync_healing.md). -/

namespace Sys2Proof.Machine

/-- Event `k` of ring `n` (Table 07-5). -/
def ringEvent (n k : Nat) : Nat := 32 + 16 * n + k

/-- Addresses of ring `n`'s pannier table. -/
def State.ringAddrs (s : State) (n : Nat) : List Nat := addressesOf (s.panTable n)

/-- The master runs this ring: the unit acts and the ring does not track (R780, R783). -/
def State.masters (s : State) (n : Nat) : Bool := s.pair.acting && !(s.ring n).tracking.on

/-- Either loop-back mode of the ring is non-zero (R270). -/
def State.loopBack (s : State) (n : Nat) : Bool :=
  s.cfg (0x3050 + 0x200 * n) 1 != 0 || s.cfg (0x3050 + 0x200 * n) 2 != 0

/-- The port in the role of PORTxE: a partner uses the other one (R784). -/
def State.roleEast (s : State) (east : Bool) : Bool := if s.pair.pairSel then !east else east

/-- What a port of a ring sends: idle, frames of this unit's own, a copy of what it sends on the port in the role of PORTxE, what
arrives on the other port, or what arrives on the port itself; each copy 64 ns later. -/
inductive PortSource where
  | idle | own | copy | forward | back
deriving DecidableEq, Repr

/-- Loop-back mode of the port in a role (R270, R784). -/
def State.portLoop (s : State) (n : Nat) (east : Bool) : Nat :=
  s.cfg (0x3050 + 0x200 * n) (if s.roleEast east then 1 else 2)

/-- What the port in a role sends (R155, R211 to R213, R216, R228, R243, R250, R270, R783). -/
def State.portSource (s : State) (n : Nat) (east : Bool) : PortSource :=
  let r := s.ring n
  if !s.isActive (.ring n) || s.power.ringPllIdle || s.power.mainReset then .idle
  else if s.loopBack n then
    (let m := s.portLoop n east
     if m = 3 then .back else if m = 2 && s.masters n then .own else .idle)
  else if r.tracking.on then
    (if if east then r.rxW else r.rxE then .forward else .back)
  else if !s.masters n then .idle
  else if east then .own
  else if r.folded then (if r.eastLost then .copy else .forward)
  else match r.caravan with
    | some k => if k.kind = 3 then .back else .idle
    | none => .idle

/-- Octets sent out of the port in a role. -/
def Ring.sends (r : Ring) (east : Bool) (x : Nat × Octets) : Ring :=
  if east then { r with outE := r.outE ++ [x] } else { r with outW := r.outW ++ [x] }

/-- A frame of this unit's own, first code group at a ring time in tenths of a nanosecond: on the port in the role of PORTxE, copied
to the other one 64 ns later while the east side is lost (R155, R250); under loop-back on every port in mode 2 (R270). -/
def State.sendFrame (s : State) (n at_ : Nat) (o : Octets) : State :=
  let e := s.portSource n true
  let w := s.portSource n false
  s.onRing n fun r =>
    let r1 := if e = .own then r.sends true (at_, o) else r
    if w = .own then r1.sends false (at_, o) else if w = .copy then r1.sends false (at_ + 640, o) else r1

/-- What arrives on the port in a role is sent on where a port takes it from there, 64 ns later (R211, R212, R216, R228). -/
def State.passOn (s : State) (n : Nat) (east : Bool) (at_ : Nat) (o : Octets) : State :=
  let here := s.portSource n east
  let there := s.portSource n (!east)
  s.onRing n fun r =>
    let r1 := if there = .forward then r.sends (!east) (10 * at_ + 640, o) else r
    if here = .back then r1.sends east (10 * at_ + 640, o) else r1

/-- The port in whose role a tracking unit receives the caravan's first pass: the one of PORTxE while that has receive sync. -/
def Ring.trackPort (r : Ring) : Bool := r.rxE

/-- The port in whose role the master takes caravans: PORTxW, or PORTxE while folded with no sync there (R212, R250). -/
def Ring.takePort (r : Ring) : Bool := r.folded && !r.rxW

/-- An error count goes up by 1, with its threshold and saturation events (R267, R268). -/
def State.ringError (s : State) (n k : Nat) : State :=
  let v := nth (s.ring n).errors k 0
  if v ≥ 0xFFFFFFFF then s
  else
    let v' := v + 1
    let thr := s.cfg (0x3022 + 0x200 * n) 0
    let s1 := s.onRing n fun r => { r with errors := upd r.errors k fun _ => v' }
    let s2 := if thr != 0 && v' % thr == 0 then s1.raise (ringEvent n 8) else s1
    if v' = 0xFFFFFFFF then s2.raise (ringEvent n 9) else s2

/-- The stray count of one address goes up by 1 (R246). -/
def State.ringStray (s : State) (n a : Nat) : State :=
  let v := nth (s.ring n).strays (a - 1) 0
  if v ≥ 0xFFFF then s
  else
    let s1 := s.onRing n fun r => { r with strays := upd r.strays (a - 1) fun _ => v + 1 }
    if v = 0 ∨ v + 1 = 0xFFFF then s1.raise (ringEvent n 5) else s1

/-- Flow of an entry's items, if it has one (R291). -/
def PanEntry.flow? (e : PanEntry) : Option Nat :=
  if e.profile = 1 ∨ e.profile = 2 then some e.bind else none

/-- The item of entry `e` for cycle `c` (Table 07-1): INVALID is 0x80, MISSING 0x40; a Profile 1 entry's joint counts it
(R408). Its octets stand in the receive buffer of the entry (Table 17-2). -/
def State.postEntry (s : State) (n e c flags : Nat) (octets : Octets) : State :=
  let s0 := (s.onRing n fun r => { r with entries := upd r.entries e fun x => { x with posted := true } }).onFab
    fun f => { f with mem := bazWrite f.mem (ringSlot n e c) octets }
  let p := s.panEntry n e
  match p.flow? with
  | none => s0
  | some f =>
    let s1 :=
      if octets = [] then s0.postRing ⟨f, 0x800 + 0x80 * n + e, 0xFFFFFFFF, 0, flags, c % 2 ^ 32, [], c⟩
      else s0.postRing ⟨f, 0x800 + 0x80 * n + e, ringSlot n e c, octets.length, flags, c % 2 ^ 32, octets, c⟩
    if p.profile = 1 then s1.jointPosted n p.bind (bitAt flags 7 || bitAt flags 6) else s1

/-- MISSING items for every entry of the cycle that has none yet, while the ring is RUNNING (R292). -/
def State.postMissing (s : State) (n c : Nat) : State :=
  if !s.isRunning (.ring n) then s
  else (List.range (s.ringEntries n)).foldl (fun s e =>
    match (s.ring n).entries[e]? with
    | some x => if x.posted then s else s.postEntry n e c 0x40 []
    | none => s) s

/-- A difference of two node times, modulo 2³² as a signed value (R229). -/
def timeDiff (a b : Nat) : Int := toSigned 32 ((a % 2 ^ 32 + 2 ^ 32 - b % 2 ^ 32) % 2 ^ 32)

/-- Time between first transmit and second receive, which falls along the ring, of every node that a pair of MEASURE caravans
shows. -/
def turnTimes (m m' : Measure) : List (Nat × Int) :=
  m.nodes.filterMap fun x => (m'.nodes.find? (·.addr == x.addr)).map fun y => (x.addr, timeDiff y.r2prev x.t)

/-- Addresses in the order of the ring from PORTxE that their turn times show (R229). -/
def orderOf (turns : List (Nat × Int)) : List Nat := (turns.mergeSort fun a b => a.2 ≥ b.2).map (·.1)

/-- Twice the delay in ns, and the forwarding delay, of each node in ring order up to the first that did not return in both
caravans (R229, R230). `acc` is the sum of R229 over the nodes before. -/
def delaysAlong (m m' : Measure) (rx : Nat) : List Nat → Int → List (Nat × Int × Int)
  | [], _ => []
  | a :: rest, acc =>
    match m.nodes.find? (·.addr == a), m'.nodes.find? (·.addr == a) with
    | some x, some y =>
      (a, (rx : Int) - m.tx - timeDiff y.t2prev x.r - acc, timeDiff x.t x.r) ::
        delaysAlong m m' rx rest (acc + timeDiff y.t2prev y.r2prev - timeDiff x.t x.r)
    | _, _ => []

/-- The computations of a pair of consecutive MEASURE caravans, with the nodes in their order (R229, R230). -/
def computeDelays (order : List Nat) (m m' : Measure) : List (Nat × Int × Int) :=
  match m.rx with
  | none => []
  | some rx => delaysAlong m m' rx order 0

/-- One computation added for an address, up to the 16 that count, with the times of its MEASURE caravan (R230, R231). -/
def NodeDelay.add (d : NodeDelay) (d2 fwd : Int) (r tx : Nat) : NodeDelay :=
  let e := { d with lastR := r, lastTx := tx }
  if d.count < 16 then { e with count := d.count + 1, sum2 := d.sum2 + d2, fwd := fwd } else e

/-- The delay committed: the mean of the computations in ps, ties to even, and the offset O (R230, R231). -/
def NodeDelay.commit (d : NodeDelay) : NodeDelay :=
  let ps := (roundEven (500 * d.sum2) (max d.count 1)).toNat
  { d with delay := ps, base := ps, offset := some (1000 * timeDiff d.lastR d.lastTx - ps) }

/-- Place of an address in the list of delays. -/
def Ring.delayOf (r : Ring) (a : Nat) : NodeDelay := nth r.delays (a - 1) NodeDelay.initial

/-- The computations of a pair of MEASURE caravans added, with the order known (R229, R230). -/
def Ring.addPair (r : Ring) (p : Measure × Measure) : Ring :=
  (computeDelays r.order p.1 p.2).foldl (fun r c =>
    let t := ((p.1.nodes.find? (·.addr == c.1)).map (·.r)).getD 0
    { r with delays := upd r.delays (c.1 - 1) fun d => d.add c.2.1 c.2.2 t p.1.tx }) r

/-- A pair of MEASURE caravans taken: while an address has not been seen in a pair the order is not known, and the pair waits. -/
def Ring.addComputations (r : Ring) (addrs : List Nat) (m m' : Measure) : Ring :=
  if m.rx.isNone then r
  else if r.order ≠ [] then r.addPair (m, m')
  else
    let new := turnTimes m m'
    let turns := new ++ r.turns.filter fun x => !new.any (·.1 == x.1)
    let pairs := r.undecided ++ [(m, m')]
    if addrs.all fun a => turns.any (·.1 == a) then
      pairs.foldl Ring.addPair { r with order := orderOf (turns.filter fun x => addrs.contains x.1), turns := [], undecided := [] }
    else { r with turns := turns, undecided := pairs }

/-- Every address has its 16 computations: the delays are committed (R230, R231). -/
def Ring.commitAll (r : Ring) (addrs : List Nat) : Ring :=
  addrs.foldl (fun r a => { r with delays := upd r.delays (a - 1) NodeDelay.commit }) r

/-- A time in ps that counts modulo 2³² ns, as a signed value (R229). -/
def wrapPs (x : Int) : Int := (x + 2 ^ 31 * 1000) % (2 ^ 32 * 1000) - 2 ^ 31 * 1000

/-- New delays of a folded ring from one MEASURE caravan: D′ = r − T_tx − O (R231, Table 05-14). -/
def Ring.healDelays (r : Ring) (m : Measure) : Ring :=
  m.nodes.foldl (fun r x =>
    { r with delays := upd r.delays (x.addr - 1) fun d =>
        match d.offset with
        | some o => { d with delay := (wrapPs (1000 * timeDiff x.r m.tx - o)).toNat }
        | none => d }) r

/-- The configuration writes of step 3 for one node (Table 05-11). -/
def State.configWrites (s : State) (n a : Nat) : List SvcReq :=
  [⟨a, 2, 0x10, toLE 4 ((s.ring n).delayOf a).delay⟩, ⟨a, 2, 0x11, s.slotTable n a⟩,
   ⟨a, 2, 0x12, toLE 1 (s.objOctet (0x3010 + 0x200 * n) 0 1)⟩, ⟨a, 2, 0x14, toLE 1 1⟩]

/-- The identity reads of step 5 for one node. -/
def identityReads (a : Nat) : List SvcReq := [⟨a, 1, 0x04, []⟩, ⟨a, 1, 0x05, []⟩]

/-- The entries of an address. -/
def State.entriesOf (s : State) (n a : Nat) : List Nat :=
  indicesWhere (s.panTable n) fun e => e.addr == a

/-- Every pannier of an address returned in the last caravan with flags that meet a condition. -/
def State.nodeFlags (s : State) (n a : Nat) (p : Nat → Bool) : Bool :=
  (s.entriesOf n a).all fun e =>
    match (s.ring n).entries[e]? with
    | some x => x.got && p x.flags
    | none => false

/-- Every pannier of the ring returned in the last caravan with flags that meet a condition. -/
def State.allFlags (s : State) (n : Nat) (p : Nat → Bool) : Bool :=
  (s.ring n).entries.all fun x => x.got && p x.flags

/-- CFG set (Table 04-5). -/
def flagCfg (f : Nat) : Bool := bitAt f 0

/-- FB_VALID set, HOLD and SILENT clear. -/
def flagRun (f : Nat) : Bool := bitAt f 7 && !bitAt f 5 && !bitAt f 4

/-- HOLD clear. -/
def flagNoHold (f : Nat) : Bool := !bitAt f 5

/-- A request to an address is expected to be answered: its last returned pannier showed FB_VALID, and HOLD and SILENT clear
(R207). -/
def State.answers (s : State) (n a : Nat) : Bool := 1 ≤ a && a ≤ 32 && flagRun (nth (s.ring n).shown (a - 1) 0)

/-- The frame of a request with a message number. -/
def svcFrame (q : SvcReq) (msg : Nat) : Octets :=
  courierOctets 0 q.dest 1 msg (serviceReqPayload q.op q.param q.value)

/-- A frame sent in slot 0 of cycle `c`, γ_0 after its start (R192, R226). -/
def State.slot0Frame (s : State) (n c : Nat) (o : Octets) : State :=
  let start := ((cycleStart (s.period n) c : Int) - s.thetaNs).toNat
  (s.onRing n fun r => { r with slot0 := some o }).sendFrame n (10 * start + s.gamma10 n 0) o

/-- An outstanding request that is not answered by the end of cycle r + 8 (R207): it is to be sent again, or after the third resend
given up with the ring's event; an identity read of a start or join is then sent afresh (R238). -/
def State.serviceTimeout (s : State) (n : Nat) (o : SvcOut) : State :=
  if o.due then s
  else if o.resends < 3 then
    s.onRing n fun r => { r with svcOut := r.svcOut.map fun x =>
      if x.req.dest == o.req.dest then { x with due := true, resends := x.resends + 1 } else x }
  else
    let again := o.req.op == 1 && (o.req.param == 0x04 || o.req.param == 0x05)
    (s.onRing n fun r =>
      { r with svcOut := r.svcOut.filter fun x => x.req.dest != o.req.dest,
               svcQueue := if again then r.svcQueue ++ [o.req] else r.svcQueue }).raise (ringEvent n 12)

/-- Requests whose cycle r + 9 is `c` or past time out as it starts (R207). -/
def State.servicesDue (s : State) (n c : Nat) : State :=
  ((s.ring n).svcOut.filter fun o => decide (o.sentAt + 9 ≤ c)).foldl (fun s o => s.serviceTimeout n o) s

/-- The slot-0 frame of cycle `c` outside a fold: a resend that is due, else the first request that may go (R192, R207). -/
def State.slot0Service (s : State) (n c : Nat) : State :=
  let r := s.ring n
  match r.svcOut.find? (·.due) with
  | some o =>
    s.slot0Frame n c (svcFrame o.req o.msg) |>.onRing n fun r =>
      { r with svcOut := r.svcOut.map fun x => if x.req.dest == o.req.dest then { x with due := false, sentAt := c } else x }
  | none =>
    match r.svcQueue.find? fun q => !(r.svcOut.any fun o => o.req.dest == q.dest) with
    | none => s
    | some q =>
      let msg := (r.msgNo + 1) % 65536
      let out := if s.answers n q.dest then [⟨q, msg, c, 0, false⟩] else []
      s.slot0Frame n c (svcFrame q msg) |>.onRing n fun r =>
        { r with msgNo := msg, svcQueue := r.svcQueue.erase q, svcOut := r.svcOut ++ out }

/-- A frame to every node in slot 0 (R251, R260). -/
def State.slot0Broadcast (s : State) (n c param : Nat) (value : Octets) : State :=
  let msg := ((s.ring n).msgNo + 1) % 65536
  s.slot0Frame n c (svcFrame ⟨0xFF, 2, param, value⟩ msg) |>.onRing n fun r => { r with msgNo := msg }

/-- Slot 0 of cycle `c`: the frames of the heal and unfold sequences, the unfolded delays only once T + 1 has returned on PORTxW
(R251, R260); service only while FOLDED is clear (R254). An address whose offset has not been measured is left out of a delay list
(assumption log 71). -/
def State.slot0 (s : State) (n c : Nat) : State :=
  let r := s.ring n
  let addrs := (s.ringAddrs n).filter fun a => (r.delayOf a).offset.isSome
  let heal := fun k => match r.heal with | some b => c == b + k | none => false
  let unf := fun k => match r.unfold with | some t => t.2 && c == t.1 + k | none => false
  if heal 3 then s.slot0Broadcast n c 0x10 (delayList addrs fun a => (r.delayOf a).delay)
  else if unf 2 then
    (s.onRing n fun r => { r with delays := r.delays.map fun d => { d with delay := d.base } }).slot0Broadcast n c 0x10
      (delayList addrs fun a => (r.delayOf a).base)
  else if heal 4 || unf 3 then s.slot0Broadcast n c 0x14 (toLE 1 1)
  else if r.folded then s
  else s.slot0Service n c

/-- A fold is detected (R247, R248, R251): event, FOLDED from the next cycle, joins abandoned with their requests (R241). -/
def State.foldDetected (s : State) (n b : Nat) (eastLost : Bool) : State :=
  let s1 := s.onRing n fun r =>
    let joining := fun a => r.joins.any (·.addr == a)
    { r with foldDue := true, eastLost := r.eastLost || eastLost, heal := some b, joins := [], unfold := none,
             svcQueue := r.svcQueue.filter fun q => !joining q.dest, svcOut := r.svcOut.filter fun o => !joining o.req.dest,
             command := match r.command with
               | some g => if g.cmd = 4 then none else some g
               | none => none }
  s1.raise (ringEvent n 0)

/-- The looped nodes after a fold (Table 05-26). -/
def State.loopNodes (s : State) (n : Nat) : State :=
  let r := s.ring n
  let addrs := if r.order = [] then s.ringAddrs n else r.order
  let looped := addrs.filter fun a => s.nodeFlags n a fun f => bitAt f 1
  let near := if r.eastLost then 0 else looped.head?.getD 0x3F
  let far := if r.eastLost then looped.head?.getD 0x3F
    else match looped with
      | [] => 0x3F
      | [_] => 0x3F
      | _ :: x :: _ => x
  s.onRing n fun r => { r with loopNear := near, loopFar := far }

/-- A ring becomes RUNNING: SP_VALID is set from the caravan that follows (R821). -/
def State.ringRunning (s : State) (n : Nat) : State :=
  (s.setFn (.ring n) .running).onRing n fun r => { r with step := 0, stepCount := 0, firstSp := true }

/-- The ring's START (R237, R239, R267, R270, R783, R821, R822); a barrier in progress goes on (R266). -/
def State.ringStart (s : State) (n : Nat) : State :=
  let t := s.panTable n
  let s1 := s.onRing n fun r =>
    { r with cycle := none, step := 1, stepCount := 0, firstSp := false,
             entries := t.map fun e => ⟨zeros e.split, zeros e.split, false, false, false, 0, false⟩,
             shown := List.replicate 32 0, outE := [], outW := [], turns := [], undecided := [],
             caravan := none, slot0 := none, errors := [0, 0, 0, 0], strays := List.replicate 32 0, cuts := 0, retCut := 0,
             folded := false, eastLost := false, foldDue := false, heal := none, takeover := false, loopNear := 0x3F,
             loopFar := 0x3F, order := [], delays := r.delays.map fun d => { d with count := 0, sum2 := 0 },
             measure := none, lastMeasure := none, measureAt := [], command := none, unfold := none,
             svcQueue := [], svcOut := [], joins := [], lost := 0,
             tracking := { r.tracking with on := !s.pair.acting, lastHead := none } }
  if s.loopBack n then s1
  else if t = [] then s1.fault (.ring n) 0x0104
  else if t.any fun e => e.profile == 2 && (flowInfo s.way.table e.bind).isNone then s1.fault (.ring n) 0x0105
  else s1

/-- The answer to an identity read (R238): a difference faults the ring with 0x0103. -/
def State.identityAnswer (s : State) (n a param status : Nat) (value : Octets) : State :=
  let es := (s.entriesOf n a).map fun e => s.panEntry n e
  let bad := status != 0 ||
    (param == 0x04 && es.any fun e => e.profile != u8At value 0) ||
    (param == 0x05 && decide (u8At value 0 < es.length))
  if bad then s.fault (.ring n) 0x0103 else s

/-- Cycle `c` is the MEASURE cycle b + 2 of a heal sequence (R251). -/
def Ring.healMeasures (r : Ring) (c : Nat) : Bool := match r.heal with | some b => c == b + 2 | none => false

/-- Whether cycle `c` of a RUNNING ring is a MEASURE cycle: heal, join, or a measure request; never twice in a row
(R232, R241, R251, R787, R790). -/
def Ring.measureDue (r : Ring) (c : Nat) : Bool :=
  let prev := match r.caravan with | some k => k.kind == 3 | none => false
  !prev && (r.healMeasures c || r.measureAt.contains c ||
    (!r.folded && r.joins.any fun j => j.phase == 0 || j.phase == 2))

/-- Type of the caravan of cycle `c`: BEACON under loop-back and in step 1, MEASURE in step 2 and where one is due, else RUN (R237,
R251, R270, Table 05-11). -/
def State.caravanKind (s : State) (n c : Nat) : Nat :=
  let r := s.ring n
  if s.loopBack n then 2
  else if s.isRunning (.ring n) then (if r.measureDue c then 3 else 1)
  else if r.healMeasures c then 3
  else if r.step = 1 then 2 else if r.step = 2 then 3 else 1

end Sys2Proof.Machine
end

