-- ==== Sys2Proof/Machine/PairingOps.lean ====
section
/-! DEFINITION. Active and standby pairing: the ACTV interlock, ARMED, the pairing offset, requests and objects
(spec/19_standby_pairing.md). -/

namespace Sys2Proof.Machine

/-- The unit may raise ACTV_O once its claim delay has passed (R777, R795). -/
def State.mayClaim (s : State) : Bool :=
  !s.pair.actvI && !s.pair.actvO && !s.power.mainReset &&
  (s.pair.armed || s.pair.testRunning || (!s.pair.pairSel && !s.isRunning .pairing))

/-- Acting begins (R778, R783, R790, R795): tracking rings become master rings and take the ring over. A unit that acts again after the
other one acted and failed keeps the test result 3 of R796 (assumption log 73). -/
def State.beginActing (s : State) : State :=
  let s1 := s.onPair fun p => { p with acting := true, armed := false, takeoverDue := true }
  let s2 : State := { s1 with rings := s1.rings.zipIdx.map fun x =>
    let tr : Tracking := { x.1.tracking with on := false }
    { x.1 with tracking := tr, takeover := x.1.tracking.on && s.isRunning (.ring x.2), caravan := none } }
  let s3 := s2.raise 416
  if s.pair.testRunning then
    let s4 := s3.onPair fun p => { p with testRunning := false }
    if s.pair.testFailed then s4 else (s4.onPair fun p => { p with testResult := 2 }).raise 423
  else s3

/-- A level of ACTV_I (R779, R789, R793, R796, EV421). -/
def State.actvIn (s : State) (level : Bool) : State :=
  let fell := s.pair.actvI && !level
  let s1 := s.onPair fun p =>
    { p with actvI := level,
             releasePending := p.releasePending || (p.acting && p.pairSel && level && !p.actvI),
             actvO := if !p.acting && p.pairSel && p.actvO && level then false else p.actvO }
  let s2 := if fell && s.isRunning .pairing && !s.pair.acting then s1.raise 421 else s1
  let s3 := if fell && s.pair.testRunning && !s.pair.acting && !s.pair.testFailed then
      (s2.onPair fun p => { p with testResult := 3, testFailed := true }).raise 423
    else s2
  s3.updateArmed

/-- Pairing START (R798): the configuration check, MISMATCH cleared. -/
def State.pairingStart (s : State) : State :=
  let named := s.namedRings
  let s1 := s.onPair fun p => { p with mismatch := false }
  let same := match named with
    | [] => true
    | n :: r => r.all fun m => s.period m == s.period n
  if named.contains s.boardRing && same then s1 else s1.fault .pairing 0x0101

/-- Pairing status (Table 19-7). -/
def State.pairingStatus (s : State) : Nat :=
  let p := s.pair
  let qv := maskOf (indicesWhere p.q (·.isSome))
  qv <<< 16 ||| b2n p.mismatch <<< 5 ||| b2n p.armed <<< 4 ||| b2n p.acting <<< 3 ||| b2n p.actvI <<< 2 |||
  b2n p.actvO <<< 1 ||| b2n p.pairSel

/-- Values of the pairing RO objects. -/
def State.readPairing (s : State) (idx : Nat) : Option Octets :=
  if idx = 0x1C02 then some (toLE 4 s.pairingStatus)
  else if idx = 0x1C05 then some (toLE 1 s.pair.testResult)
  else if idx = 0x1C06 then some (toLE 8 (ofSigned 64 s.pair.theta))
  else none

/-- State check of the pairing requests (R787, R794, Table 19-8). -/
def State.checkPairing (s : State) (idx : Nat) : Option Nat :=
  if idx = 0x1C03 then if s.pair.acting then none else some abState
  else if idx = 0x1C04 then
    if s.pair.acting && s.isRunning .pairing && !s.pair.actvI then none else some abState
  else none

/-- An accepted pairing request (R787, R794). -/
def State.applyPairing (s : State) (idx : Nat) : State :=
  if idx = 0x1C03 then
    s.namedRings.foldl (fun s n =>
      let c := ((s.ring n).cycle).getD 0
      s.onRing n fun r => { r with measureAt := r.measureAt ++ [c + 2, c + 4] }) s
  else if idx = 0x1C04 then s.onPair fun p => { p with releasePending := true, testPending := true }
  else s

end Sys2Proof.Machine
end

