-- ==== Sys2Proof/Machine/Time.lean ====
section
/-! DEFINITION. The time base: servo, discipline states, ticks, requests and objects (spec/06_regulator_time_base.md). -/

namespace Sys2Proof.Machine

/-- The discipline runs: the time base RUNNING in a mode other than 0 (R281). -/
def State.disciplined (s : State) : Bool := s.isRunning .timeBase && s.time.disc != 0

/-- Entry to ACQUIRING (R280). -/
def TimeBase.acquire (t : TimeBase) : TimeBase :=
  { t with disc := 1, y := (t.inc : Int) - 2 ^ 49, accepted := false, discards := 0, lockRun := 0, announced := false }

/-- Entry to HOLDOVER (R282). -/
def TimeBase.holdover (t : TimeBase) : TimeBase :=
  { t with disc := 3, inc := ((2 : Int) ^ 49 + t.y).toNat, lockRun := 0 }

/-- 500 ppm in units of 2⁻⁴⁹, to the nearest (assumption log 60). -/
def ppm500 : Int := 281474976711

/-- A length of time in ns, in the units of θ. -/
def thetaUnits (ns : Nat) : Nat := 65536 * ns

/-- An accepted sample θ (2⁻¹⁶ ns) with interval τ (ns), in the state it finds (R280). A step is by −θ exactly. -/
def TimeBase.accept (t : TimeBase) (theta : Int) (tau : Nat) (stepThr : Nat) : TimeBase :=
  let t0 := { t with discards := 0, accepted := true, offset := clampInt (-2147483647) 2147483647 (roundEven theta 65536) }
  if t.disc = 1 ∧ theta.natAbs > thetaUnits stepThr then
    let v := ((t.fine : Int) - theta * 2 ^ 32).toNat
    { t0 with pendStep := some (v / 2 ^ 48 / 1000000000, v / 2 ^ 48 % 1000000000, v % 2 ^ 48), thetaLast := 0 }
  else
    let y := t.y - roundEven (theta * 2 ^ 49) (16 * thetaUnits tau)
    let f := clampInt (-ppm500) ppm500 (y - roundEven (theta * 2 ^ 49) (4 * thetaUnits tau))
    { t0 with thetaLast := theta, y := y, inc := ((2 : Int) ^ 49 + f).toNat }

/-- The discipline state after an accepted sample (Table 06-6). -/
def TimeBase.afterSample (t : TimeBase) (theta : Int) : TimeBase :=
  let run := if theta.natAbs ≤ thetaUnits 100 then t.lockRun + 1 else 0
  if t.disc = 1 ∧ run ≥ 16 then { t with disc := 2, lockRun := 0 }
  else if t.disc = 2 ∧ theta.natAbs > thetaUnits 1000 then t.acquire
  else { t with lockRun := if t.disc = 1 then run else 0 }

/-- An offset sample θ (2⁻¹⁶ ns) with interval τ (ns) (R280, R281). -/
def State.offsetSample (s : State) (theta : Int) (tau : Nat) : State :=
  if !s.disciplined then s
  else
    let t := s.time
    let outlier := s.cfg 0x3E06 1
    if t.accepted && decide ((theta - t.thetaLast).natAbs > thetaUnits outlier) && decide (t.discards < 4) then
      s.onTime fun t => { t with discards := t.discards + 1 }
    else
      -- HOLDOVER ends with an accepted sample (Table 06-6)
      let t1 := if t.disc = 3 then t.acquire else t
      let t2 := (t1.accept theta tau (s.cfg 0x3E06 2)).afterSample theta
      let s1 := s.onTime fun _ => t2
      if t1.disc = 1 ∧ t2.disc = 2 then s1.raise 16 else s1

/-- The timestamp of an edge on TB_PPS_IN in ns: the Regulator rounded to 2 ns (Table 06-10). -/
def TimeBase.ppsStamp (t : TimeBase) : Nat := (2 * roundEven (t.fine : Int) (2 ^ 49)).toNat

/-- θ of an edge on TB_PPS_IN: its timestamp minus the nearest whole second, in ns (R279). -/
def TimeBase.ppsTheta (t : TimeBase) : Int :=
  let ns := t.ppsStamp % 1000000000
  if ns ≤ 500000000 then (ns : Int) else (ns : Int) - 1000000000

/-- PPS_EDGE: an accepted rising edge on TB_PPS_IN at a ring time (R279, mode 1). -/
def execPpsEdge (at_ : Nat) (s : State) : Host.Outcome State Fault Refusal :=
  let s0 := s.advanceTo at_
  if s.time.mode = 1 then .next (s0.offsetSample (65536 * s0.time.ppsTheta) 1000000000) else .next s0

/-- Entry to HOLDOVER with its event. -/
def State.enterHoldover (s : State) : State :=
  if s.disciplined && (s.time.disc == 1 || s.time.disc == 2) then (s.onTime TimeBase.holdover).raise 17 else s

/-- DISCIPLINE_HOLDOVER_TIMEOUT (R281, R823). -/
def execDisciplineHoldoverTimeout (s : State) : Host.Outcome State Fault Refusal := .next s.enterHoldover

/-- TIME_PAIR_LATCH (R284): the clocks at the next whole millisecond of ring time, where the pair is latched. -/
def execTimePairLatch (s : State) : Host.Outcome State Fault Refusal :=
  .next (s.advanceTo ((s.time.ringNs / 1000000 + 1) * 1000000))

/-- Ticks until the nanoseconds carry into seconds (R271). -/
def TimeBase.ticksToCarry (t : TimeBase) : Nat :=
  (1000000000 * 2 ^ 48 - (t.ns * 2 ^ 48 + t.sub) + t.inc - 1) / t.inc

/-- SECONDS_CARRY (R271, R287): the clocks at the tick at which the nanoseconds next carry; TB_PPS_OUT rises. -/
def execSecondsCarry (s : State) : Host.Outcome State Fault Refusal :=
  let s1 := s.advanceTo (s.time.ringNs + (if s.time.pendStep.isSome || s.time.pendInc.isSome then 2 else 0))
  if s1.time.inc = 0 then .next s1
  else .next (s1.advanceTo (s1.time.ringNs + 2 * s1.time.ticksToCarry))

/-- PPS_OUT_PULSE_END (R287): TB_PPS_OUT falls. -/
def execPpsOutPulseEnd (s : State) : Host.Outcome State Fault Refusal :=
  .next (s.onTime fun t => { t with ppsOut := false })

/-- The time base passes to STARTING: the mode in force is taken (R277). -/
def State.timeBaseStart (s : State) : State := s.onTime fun t => { t with mode := s.cfg 0x3E04 0 }

/-- It passes to RUNNING: ACQUIRING in modes 1 to 3 (Table 06-6). -/
def State.timeBaseRunning (s : State) : State :=
  s.onTime fun t => if t.mode = 0 then t else t.acquire

/-- TIME96 of a time in seconds and nanoseconds (Table 00-2). -/
def time96 (sec ns : Nat) : Octets := toLE 8 sec ++ toLE 4 ns

/-- Values of the time base's RO objects other than the latched 0x3E01. -/
def State.readTime (s : State) (idx sub : Nat) : Option Octets :=
  let t := s.time
  if idx = 0x3E03 then some (toLE 8 t.inc)
  else if idx = 0x3E05 then some (toLE 8 (ofSigned 32 t.offset <<< 32 ||| t.disc))
  else if idx = 0x3E07 then
    some (if sub = 1 then time96 t.pairSec t.pairNs else time96 (t.pairRing / 1000000000) (t.pairRing % 1000000000))
  else none

/-- State check of the step and increment writes (R277, R278). -/
def State.checkTime (s : State) (idx : Nat) : Option Nat :=
  if (idx = 0x3E02 ∨ idx = 0x3E03) ∧ s.isActive .timeBase ∧ s.time.mode ≠ 0 then some abState else none

/-- An accepted step or increment write: it takes effect at the next tick (R277, R278). -/
def State.applyTime (s : State) (idx v : Nat) : State :=
  if idx = 0x3E02 then s.onTime fun t => { t with pendStep := some (v % 2 ^ 64, v / 2 ^ 64, 0) }
  else if idx = 0x3E03 then s.onTime fun t => { t with pendInc := some v }
  else s

end Sys2Proof.Machine
end

