-- ==== Sys2Proof/Machine/HostOps.lean ====
section
/-! DEFINITION. Host ports: link, addresses, ingress limits, services, PTP, trace datagrams (spec/16_host_ports.md). -/

namespace Sys2Proof.Machine

/-- Index of an object of port `n`. -/
def portIdx (n off : Nat) : Nat := 0x3C00 + 0x100 * n + off

/-- The link is up (R677). -/
def HostPort.link (p : HostPort) : Bool := !p.absent && !p.los && p.pcs

/-- HPn_TXDIS is high (R677). -/
def State.txDis (s : State) (n : Nat) : Bool := !s.isRunning (.hostPort n) || (s.port n).absent

/-- Millisecond of ring time. -/
def State.msNow (s : State) : Nat := s.time.ringNs / 1000000

/-- Count :`i` of port `n` increased; it sticks at its largest value and raises its event (R693). -/
def State.portCount (s : State) (n i : Nat) : State :=
  let c := nth (s.port n).counts (i - 1) 0
  if c = 0xFFFFFFFF then s
  else
    let s1 := s.onPort n fun p => { p with counts := upd p.counts (i - 1) fun c => c + 1 }
    if c + 1 = 0xFFFFFFFF then s1.raise (portEvent n 5) else s1

/-- A frame of a class within its ingress limit is accepted; one beyond it is discarded and counted (R684). No frame is served
while the port is not RUNNING or its link is down. -/
def State.portFrame (s : State) (n cls limit : Nat) : State × Bool :=
  if !(s.isRunning (.hostPort n) && (s.port n).link) then (s, false)
  else
    let ms := s.msNow
    let s1 := if (s.port n).ms = ms then s else s.onPort n fun p => { p with ms := ms, ingress := [] }
    let c := wordAt (s1.port n).ingress cls
    if c < limit then
      ((s1.onPort n fun p => { p with ingress := wordPut p.ingress cls (c + 1) }).portCount n 1, true)
    else
      let first := match (s1.port n).limitMs with | some m => decide (m + 1 < ms) | none => true
      let s2 := (s1.onPort n fun p => { p with limitMs := some ms }).portCount n 3
      (if first then s2.raise (portEvent n 2) else s2, false)

/-! ### Addresses -/

/-- IP configuration in force. -/
def State.ipCfg (s : State) (n : Nat) : Octets := s.obj (portIdx n 3) 0

/-- IPv4 address of a configuration, 0 for none. -/
def ip4 (c : Octets) : Nat := beNat (slice c 0 4)

/-- Global IPv6 address of a configuration, 0 for none. -/
def ip6 (c : Octets) : Nat := beNat (slice c 12 16)

/-- Link-local IPv6 address of port `n`: fe80::/64 with the modified EUI-64 of its MAC address (R679). -/
def linkLocal (n : Nat) : Nat :=
  let m := Config.macAddress n % 2 ^ 48
  0xFE80 * 2 ^ 112 + ((m >>> 24) ^^^ 0x020000) * 2 ^ 40 + 0xFFFE * 2 ^ 24 + m % 2 ^ 24

/-- Two addresses of `w` bits share a prefix of `p` bits. -/
def samePrefix (w p a b : Nat) : Bool := a >>> (w - p) == b >>> (w - p)

/-- A destination is on the port's prefix, or a gateway of its version is set (R681). IPv4 addresses lie below 2³². -/
def State.reaches (s : State) (n dest : Nat) : Bool :=
  let c := s.ipCfg n
  if dest < 2 ^ 32 then
    ip4 c != 0 && (samePrefix 32 (u8At c 4) (ip4 c) dest || beNat (slice c 8 4) != 0)
  else
    samePrefix 128 10 (0xFE80 * 2 ^ 112) dest ||
      (ip6 c != 0 && samePrefix 128 (u8At c 28) (ip6 c) dest) || beNat (slice c 32 16) != 0

/-- An address is one of the port's (R680). -/
def State.ownsAddr (s : State) (n : Nat) (v6 : Bool) (a : Nat) : Bool :=
  let c := s.ipCfg n
  if v6 then a == linkLocal n || (ip6 c != 0 && a == ip6 c) else ip4 c != 0 && a == ip4 c

/-- Tag control information of the frames that the port sends: its VLAN ID with priority 6, or no tag for VLAN ID 0 (R676). -/
def State.vlanTag (s : State) (n : Nat) : Nat :=
  let vid := s.cfg (portIdx n 1) 2
  if vid = 0 then 0 else 6 <<< 13 ||| vid

/-- A frame that leaves the port; with the link down it is discarded and counted (R677). -/
def State.portSend (s : State) (n : Nat) (x : HostTx) : State :=
  if (s.port n).link && s.isRunning (.hostPort n) then s.onPort n fun p => { p with sent := p.sent ++ [{ x with vlan := s.vlanTag n }] }
  else s.portCount n 6

/-- A datagram that leaves the port, through a gateway when its destination is off the prefix (R681). -/
def State.portDatagram (s : State) (n : Nat) (x : HostTx) : State :=
  if s.reaches n x.addr then s.portSend n x else s.portCount n 6

/-- The frames of an earlier command are gone. -/
def State.clearSent (s : State) (n : Nat) : State := s.onPort n fun p => { p with sent := [] }

/-! ### ARP, neighbour discovery, echo (R678) -/

/-- Body of an ARP packet. -/
def arpBody (op : Nat) (sha spa tha tpa : Octets) : Octets :=
  toBE 2 1 ++ toBE 2 0x0800 ++ toBE 1 6 ++ toBE 1 4 ++ toBE 2 op ++ sha ++ spa ++ tha ++ tpa

/-- MAC address of port `n` in transmission order. -/
def macOctets (n : Nat) : Octets := toBE 6 (Config.macAddress n)

/-- Body of a neighbour advertisement after its checksum: flags, target, target link-layer address option. -/
def advertisement (n flags target : Nat) : Octets := toBE 1 136 ++ toBE 1 0 ++ toBE 4 flags ++ toBE 16 target ++ toBE 2 0x0201 ++ macOctets n

/-- The link comes up: gratuitous ARP and one unsolicited neighbour advertisement (R678). -/
def State.linkUp (s : State) (n : Nat) : State :=
  let p := s.port n
  if p.link || p.absent || p.los then s
  else
    let s1 := ((s.clearSent n).onPort n fun p => { p with pcs := true }).raise (portEvent n 0)
    if s1.isRunning (.hostPort n) then
      let a := ip4 (s1.ipCfg n)
      let s2 := if a = 0 then s1 else
        s1.portSend n ⟨.gratuitousArp, 0xFFFFFFFF, 0, arpBody 1 (macOctets n) (toBE 4 a) (zeros 6) (toBE 4 a), 0⟩
      s2.portSend n ⟨.unsolicitedAdvertisement, 0xFF02 * 2 ^ 112 + 1, 0, advertisement n 0x20000000 (linkLocal n), 0⟩
    else s1

/-- The link goes down if it was up. -/
def State.linkLost (s : State) (n : Nat) (was : Bool) : State :=
  if was && !(s.port n).link then s.raise (portEvent n 1) else s

/-- An ARP request is answered when it names the port's IPv4 address. -/
def State.arpRequest (s : State) (n : Nat) (mac ip : Octets) (target : Octets) : State :=
  let f := (s.clearSent n).portFrame n 2 4
  if f.2 && s.ownsAddr n false (beNat target) then
    f.1.portSend n ⟨.arpReply, beNat ip, 0, arpBody 2 (macOctets n) target mac ip, 0⟩
  else f.1

/-- A neighbour solicitation is answered when it names one of the port's IPv6 addresses. -/
def State.solicitation (s : State) (n : Nat) (source target : Octets) : State :=
  let f := (s.clearSent n).portFrame n 2 4
  if f.2 && s.ownsAddr n true (beNat target) then
    f.1.portDatagram n ⟨.advertisement, beNat source, 0, advertisement n 0x60000000 (beNat target), 0⟩
  else f.1

/-- An echo request to one of the port's addresses is answered with its own body; any other is discarded (R680). -/
def State.echoRequest (s : State) (n : Nat) (v6 : Bool) (source target body : Octets) : State :=
  let s0 := s.clearSent n
  if !s.ownsAddr n v6 (beNat target) then (if s.isRunning (.hostPort n) && (s.port n).link then s0.portCount n 2 else s0)
  else
    let f := s0.portFrame n 2 4
    if f.2 then f.1.portDatagram n ⟨.echoReply, beNat source, 0, body, 0⟩ else f.1

/-! ### Point packets and trace datagrams -/

/-- A point packet that the port accepts (R688); its reserved octets are ignored (R6). -/
def State.pointPacketOk (s : State) (n : Nat) (v6 : Bool) (addr : Octets) (udp : Nat) (o : Octets) : Bool :=
  let sensor := u8At o 2
  let e := slice (s.obj (portIdx n 4) 0) (24 * sensor) 24
  decide (sensor < 32) && bitAt (u8At e 0) 0 && (bitAt (u8At e 0) 1 == v6) && u16At e 2 == udp &&
    slice e 4 16 == padTo 16 addr && decide (32 ≤ o.length) && u8At o 0 == 1 && u8At o 1 == 1 &&
    inRange 1 120 (u16At o 4) && o.length == 32 + 12 * u16At o 4 &&
    decide (u32At o 16 < 1000000000)

/-- A point packet that the port discards is counted, with its event (R688, R694). -/
def State.pointRefused (s : State) (n : Nat) : State :=
  let ms := s.msNow
  let first := match (s.port n).unboundMs with | some m => decide (m + 1 < ms) | none => true
  let s1 := (s.onPort n fun p => { p with unboundMs := some ms }).portCount n 4
  if first then s1.raise (portEvent n 3) else s1

/-- Trace destination of port `n`: enabled, UDP port, address. -/
def State.traceDest (s : State) (n : Nat) : Option (Nat × Nat) :=
  let d := s.obj (portIdx n 5) 0
  if bitAt (u8At d 0) 0 then
    some (u16At d 2, if bitAt (u8At d 0) 1 then beNat (slice d 4 16) else beNat (slice d 4 4))
  else none

/-- A trace block sent on every RUNNING port that has a destination, or discarded and counted on HP0 (R690). -/
def State.traceSend (s : State) (block : Octets) : State :=
  let on := fun n => s.isRunning (.hostPort n) && (s.traceDest n).isSome
  let s0 := (s.clearSent 0).clearSent 1
  if !((on 0 && (s.port 0).link) || (on 1 && (s.port 1).link)) then s0.portCount 0 7
  else
    [0, 1].foldl (fun x n =>
      match s.traceDest n with
      | some d => if on n then x.portDatagram n ⟨.trace, d.2, d.1, block, 0⟩ else x
      | none => x) s0

/-! ### PTP (R686, R687) -/

/-- The port runs a PTP instance. -/
def State.ptpRuns (s : State) (n : Nat) : Bool :=
  s.isRunning .timeBase && s.isRunning (.hostPort n) && s.time.mode == 2 + n

/-- A receive or transmit timestamp: Regulator time corrected by the external latency (R287, R288), in 2⁻¹⁶ ns. -/
def State.stamp (s : State) (n : Nat) (tx : Bool) : Int :=
  let lat := s.cfgInt 32 0x3E08 (1 + 2 * n + b2n tx)
  let ps := (s.time.fine : Int) * 1000 + (if tx then lat else -lat) * 2 ^ 48
  roundEven ps (1000 * 2 ^ 48) * 65536

/-- An interval of 2^x seconds in ns. -/
def logNs (x : Int) : Nat := if x ≥ 0 then 1000000000 * 2 ^ x.toNat else 1000000000 / 2 ^ (-x).toNat

/-- The timestamp in a message's body, 2⁻¹⁶ ns. -/
def ptpTime (m : PtpMsg) : Int := ((m.sec * 1000000000 + m.ns : Nat) : Int) * 65536

/-- Lists of numbers in order of comparison. -/
def lexLt : List Nat → List Nat → Bool
  | a :: r, b :: q => a < b || (a == b && lexLt r q)
  | _, _ => false

/-- The best qualified clock: two Announce messages within four intervals, the last within the timeout (IEEE 1588-2019). -/
def bestClock (l : List PtpClock) (now : Nat) : Option Nat :=
  let ok := l.filter fun c =>
    (match c.prev with | some p => decide (c.last - p ≤ 4 * c.interval) | none => false) && decide (now - c.last ≤ 3 * c.interval)
  (ok.foldl (fun b c => match b with
    | some x => if lexLt (c.rank ++ [c.ident]) (x.rank ++ [x.ident]) then some c else b
    | none => some c) none).map (·.ident)

/-- An Announce message. -/
def State.ptpAnnounce (s : State) (n : Nat) (m : PtpMsg) : State :=
  let now := s.time.ringNs
  let old := (s.port n).ptp.clocks.find? (·.ident == m.src)
  let c : PtpClock := { ident := m.src, rank := m.rank, interval := logNs m.logInterval, prev := old.map (·.last), last := now }
  let s1 := (s.onPort n fun p => { p with ptp := { p.ptp with clocks := c :: p.ptp.clocks.filter (·.ident != m.src) } }).onTime
    fun t => { t with announced := true }
  s1.setMaster n (bestClock (s1.port n).ptp.clocks now)

/-- The Sync exchange is complete: with a mean path delay known, the servo receives θ (R279). -/
def State.ptpSample (s : State) (n : Nat) (down : Int) (tau : Nat) : State :=
  let s1 := s.onPort n fun p => { p with ptp := { p.ptp with sync := none, down := some down } }
  match (s.port n).ptp.delay with
  | some d => s1.offsetSample (down - d) tau
  | none => s1

/-- Fields of a PTP message that the port sends: type, domain, sequence, a time of its body in ns and a requesting identity. -/
def ptpBody (kind domain seq : Nat) (t : Int) (req : Nat) : Octets :=
  toBE 1 kind ++ toBE 1 domain ++ toBE 2 seq ++ toBE 8 (t / 65536).toNat ++ toBE 10 req

/-- A PTP message that an instance takes. -/
def State.ptpTake (s : State) (n : Nat) (m : PtpMsg) : State :=
  let p := (s.port n).ptp
  let mech := s.cfg (portIdx n 6) 2
  let fromMaster := p.master == some m.src
  let mine := m.req == Config.portIdentity n
  if m.kind = 0x0B then s.ptpAnnounce n m
  else if m.kind = 0x00 then
    if !fromMaster then s
    else if m.twoStep then
      s.onPort n fun x => { x with ptp := { x.ptp with sync := some (m.seq, s.stamp n false, m.corr, logNs m.logInterval) } }
    else s.ptpSample n (s.stamp n false - ptpTime m - m.corr) (logNs m.logInterval)
  else if m.kind = 0x08 then
    match p.sync with
    | some x => if fromMaster && x.1 == m.seq then s.ptpSample n (x.2.1 - ptpTime m - x.2.2.1 - m.corr) x.2.2.2 else s
    | none => s
  else if m.kind = 0x09 then
    match p.request, p.down with
    | some x, some d =>
      if mech == 1 && fromMaster && mine && x.1 == m.seq then
        s.onPort n fun y => { y with ptp := { y.ptp with
          delay := some (roundEven (d + (ptpTime m - x.2 - m.corr)) 2), request := none, interval := logNs m.logInterval } }
      else s
    | _, _ => s
  else if m.kind = 0x02 then
    if mech = 2 then
      let t2 := s.stamp n false
      let d := s.draw
      let s1 := d.2.portSend n ⟨.pdelayResp, m.src, 0, ptpBody 3 m.domain m.seq t2 m.src, 0⟩
      s1.portSend n ⟨.pdelayRespFollowUp, m.src, 0, ptpBody 0x0A m.domain m.seq (t2 + 65536 * (d.1 : Int)) m.src, 0⟩
    else s
  else if m.kind = 0x03 then
    match p.request with
    | some x =>
      if mech == 2 && mine && x.1 == m.seq then
        let t4 := s.stamp n false
        if m.twoStep then s.onPort n fun y => { y with ptp := { y.ptp with response := some (ptpTime m, t4, m.corr) } }
        else s.onPort n fun y => { y with ptp := { y.ptp with
          delay := some (roundEven (t4 - x.2 - m.corr) 2), request := none } }
      else s
    | none => s
  else if m.kind = 0x0A then
    match p.request, p.response with
    | some x, some r =>
      if mech == 2 && mine && x.1 == m.seq then
        s.onPort n fun y => { y with ptp := { y.ptp with
          delay := some (roundEven ((r.2.1 - x.2) - (ptpTime m - r.1) - r.2.2 - m.corr) 2), request := none, response := none } }
      else s
    | _, _ => s
  else s

/-- A PTP message is taken by the port's instance, or discarded and counted (R686). -/
def State.ptpMessage (s : State) (n : Nat) (m : PtpMsg) : State :=
  let f := (s.clearSent n).portFrame n 1 8
  if !f.2 then f.1
  else if s.ptpRuns n && m.domain == s.cfg (portIdx n 6) 1 && m.transport == s.cfg (portIdx n 6) 3 then f.1.ptpTake n m
  else f.1.portCount n 5

/-- Delay_Req or Pdelay_Req leaves the port (R687). -/
def State.ptpRequest (s : State) (n : Nat) (peer : Bool) : State :=
  let p := (s.port n).ptp
  let mech := if peer then 2 else 1
  if s.ptpRuns n && s.cfg (portIdx n 6) 2 == mech && (peer || p.master.isSome) then
    let kind := if peer then 2 else 1
    let s1 := (s.clearSent n).portSend n
      ⟨if peer then .pdelayReq else .delayReq, p.master.getD 0, 0, ptpBody kind (s.cfg (portIdx n 6) 1) p.nextSeq 0 0, 0⟩
    s1.onPort n fun x => { x with ptp := { x.ptp with
      request := some (p.nextSeq, s.stamp n true), response := none, nextSeq := (p.nextSeq + 1) % 65536 } }
  else s

/-! ### Function, objects -/

/-- A test frame of a loop-back (R692): the frame before it was lost unless it came back intact. -/
def State.loopFrame (s : State) (n : Nat) (intact : Bool) : State :=
  if s.fnSt (.hostPort n) = .starting ∧ s.cfg (portIdx n 7) 0 ≠ 0 then
    let k := (s.port n).loopSent
    let s1 := if decide (0 < k) && !intact then s.portCount n 8 else s
    s1.onPort n fun p => { p with loopSent := k + 1, sent := [⟨.loopTest, 0, 0, (List.range 1518).map fun i => BitVec.ofNat 8 i, s.vlanTag n⟩] }
  else s

/-- START: counts clear (R691, R693). -/
def State.portStart (s : State) (n : Nat) : State :=
  s.onPort n fun p =>
    { p with
      counts := List.replicate 8 0, loopSent := 0, sent := [], ptp := Ptp.initial, ingress := [], limitMs := none,
      unboundMs := none }

/-- Port status 0x3C08:00 (Table 16-13). -/
def State.portStatus (s : State) (n : Nat) : Nat :=
  let p := s.port n
  b2n p.link ||| b2n (s.txDis n) <<< 1 ||| b2n p.absent <<< 2 ||| b2n p.los <<< 3 ||| b2n p.ptp.master.isSome <<< 4

/-- Host port objects that State computes. -/
def State.readPort (s : State) (n off sub : Nat) : Option Octets :=
  if off = 2 then some (toLE 8 (Config.macAddress n % 2 ^ 48))
  else if off = 8 then some (toLE 4 (s.portStatus n))
  else if off = 9 then some (toLE 4 (nth (s.port n).counts (sub - 1) 0))
  else none

/-- An IPv4 address that is multicast, broadcast or loopback, the broadcast address of its prefix among them. -/
def badIp4 (a p : Nat) : Bool :=
  a / 2 ^ 28 == 0xE || a == 0xFFFFFFFF || a / 2 ^ 24 == 127 || (decide (0 < p) && (a + 1) % 2 ^ (32 - p) == 0)

/-- An IPv6 address that is multicast or loopback. -/
def badIp6 (a : Nat) : Bool := a / 2 ^ 120 == 0xFF || a == 1

/-- Content check of an IP configuration of port `n` (R682); the value in force of an object is its present one (assumption log 73). -/
def State.ipCfgOk (s : State) (n : Nat) (o : Octets) : Bool :=
  let a := ip4 o
  let p := u8At o 4
  let g := beNat (slice o 8 4)
  let a6 := ip6 o
  let p6 := u8At o 28
  let g6 := beNat (slice o 32 16)
  let other := s.ipCfg (1 - n)
  (if a = 0 then p == 0 && g == 0
   else inRange 8 30 p && !badIp4 a p && a != ip4 other && (g == 0 || (samePrefix 32 p a g && !badIp4 g p))) &&
  (if a6 = 0 then p6 == 0 && g6 == 0 else inRange 48 64 p6 && !badIp6 a6 && a6 != ip6 other && (g6 == 0 || !badIp6 g6)) &&
  allZero (slice o 5 3) && allZero (slice o 29 3)

/-- Content check of the sensor sources of port `n` (R689). -/
def State.sourcesOk (s : State) (n : Nat) (o : Octets) : Bool :=
  let es := chunks 24 32 o
  let other := s.obj (portIdx (1 - n) 4) 0
  es.zipIdx.all (fun x =>
    let e := x.1
    let en := bitAt (u8At e 0) 0
    (if en then
      field (u8At e 0) 7 2 == 0 && u8At e 1 == 0 && u16At e 2 != 0 && u32At e 20 == 0 &&
        (bitAt (u8At e 0) 1 || allZero (slice e 8 12)) && !bitAt (u8At other (24 * x.2)) 0
     else allZero e)) &&
  decide ((es.filter fun e => bitAt (u8At e 0) 0).map (fun e => (u16At e 2, bitAt (u8At e 0) 1, slice e 4 16))).Nodup

/-- Range of a trace destination (Table 16-10). -/
def traceDestOk (o : Octets) : Bool :=
  let v6 := bitAt (u8At o 0) 1
  field (u8At o 0) 7 2 == 0 && u8At o 1 == 0 && (!bitAt (u8At o 0) 0 || u16At o 2 != 0) &&
    (if v6 then beNat (slice o 4 16) / 2 ^ 120 != 0xFF
     else beNat (slice o 4 4) / 2 ^ 28 != 0xE && beNat (slice o 4 4) != 0xFFFFFFFF && allZero (slice o 8 12))

/-- Content check of a DOMAIN of port `n`. -/
def State.checkPort (s : State) (n off : Nat) (o : Octets) : Bool :=
  if off = 3 then s.ipCfgOk n o else if off = 4 then s.sourcesOk n o else if off = 5 then traceDestOk o else true

/-! ### Commands -/

/-- LINK_UP (R677, R678). -/
def execLinkUp (n : Fin 2) (s : State) : Host.Outcome State Fault Refusal := .next (s.linkUp n)

/-- LINK_DOWN (R677). -/
def execLinkDown (n : Fin 2) (s : State) : Host.Outcome State Fault Refusal :=
  .next ((s.onPort n fun p => { p with pcs := false }).linkLost n (s.port n).link)

/-- MODULE_PRESENCE_CHANGE (R677). -/
def execModulePresenceChange (n : Fin 2) (absent los : Bool) (s : State) : Host.Outcome State Fault Refusal :=
  .next ((s.onPort n fun p => { p with absent := absent, los := los, pcs := p.pcs && !absent && !los }).linkLost n (s.port n).link)

/-- ARP_REQUEST (R678). -/
def execArpRequest (n : Fin 2) (senderMac senderIp target : Octets) (at_ : Nat) (s : State) : Host.Outcome State Fault Refusal :=
  .next ((s.advanceTo at_).arpRequest n senderMac senderIp target)

/-- NEIGHBOUR_SOLICITATION (R678). -/
def execNeighbourSolicitation (n : Fin 2) (source target : Octets) (at_ : Nat) (s : State) : Host.Outcome State Fault Refusal :=
  .next ((s.advanceTo at_).solicitation n source target)

/-- ECHO_REQUEST (R678). -/
def execEchoRequest (n : Fin 2) (v6 : Bool) (source target body : Octets) (at_ : Nat) (s : State) :
    Host.Outcome State Fault Refusal := .next ((s.advanceTo at_).echoRequest n v6 source target body)

/-- HOST_FRAME_DISCARDED (R675, R676, R680). -/
def execHostFrameDiscarded (n : Fin 2) (s : State) : Host.Outcome State Fault Refusal :=
  .next (if s.isRunning (.hostPort n) && (s.port n).link then s.portCount n 2 else s)

/-- PTP_MESSAGE (R686). -/
def execPtpMessage (n : Fin 2) (m : PtpMsg) (at_ : Nat) (s : State) : Host.Outcome State Fault Refusal :=
  .next ((s.advanceTo at_).ptpMessage n m)

/-- DELAY_REQ_TIMER (R687). -/
def execDelayReqTimer (n : Fin 2) (at_ : Nat) (s : State) : Host.Outcome State Fault Refusal :=
  .next ((s.advanceTo at_).ptpRequest n false)

/-- PDELAY_REQ_TIMER (R687). -/
def execPdelayReqTimer (n : Fin 2) (at_ : Nat) (s : State) : Host.Outcome State Fault Refusal :=
  .next ((s.advanceTo at_).ptpRequest n true)

/-- LOOPBACK_TEST_FRAME (R692). -/
def execLoopbackTestFrame (n : Fin 2) (intact : Bool) (s : State) : Host.Outcome State Fault Refusal := .next (s.loopFrame n intact)

/-- ANNOUNCE_TIMEOUT (R281, R686, R823): in modes 2 and 3, once an Announce has been received, the master is lost and the
servo enters HOLDOVER. -/
def execAnnounceTimeout (s : State) : Host.Outcome State Fault Refusal :=
  if 2 ≤ s.time.mode ∧ s.time.announced = true then .next ((s.setMaster (s.time.mode - 2) none).enterHoldover) else .next s

end Sys2Proof.Machine
end

