-- ==== Sys2Proof/Machine/Kinematics.lean ====
section
/-! DEFINITION. Kinematics and dynamics of an arm from its arm model: frames by the modified Denavit–Hartenberg convention, poses,
Jacobians, mass matrix, gravity, distances of capsules (spec/10_planning_solver.md Tables 10-2 to 10-6, R437 to R443). Sums and
products are exact; what is irrational, and the formats, which no rule gives, are opaque constants of Config (assumption log 72). -/

namespace Sys2Proof.Machine

/-! ### Vectors, orientations, places -/

/-- A vector in 10 µm, or a direction. -/
structure Vec where
  x : Rat
  y : Rat
  z : Rat
deriving DecidableEq, Repr

/-- An orientation as a quaternion. -/
structure Quat where
  w : Rat
  v : Vec
deriving DecidableEq, Repr

/-- A frame, or a pose: position and orientation. -/
structure Place where
  pos : Vec
  rot : Quat
deriving DecidableEq, Repr

def Vec.zero : Vec := ⟨0, 0, 0⟩
def Vec.add (a b : Vec) : Vec := ⟨a.x + b.x, a.y + b.y, a.z + b.z⟩
def Vec.scale (k : Rat) (a : Vec) : Vec := ⟨k * a.x, k * a.y, k * a.z⟩
def Vec.sub (a b : Vec) : Vec := a.add (b.scale (-1))
def Vec.dot (a b : Vec) : Rat := a.x * b.x + a.y * b.y + a.z * b.z
def Vec.cross (a b : Vec) : Vec := ⟨a.y * b.z - a.z * b.y, a.z * b.x - a.x * b.z, a.x * b.y - a.y * b.x⟩
def Vec.toList (a : Vec) : List Rat := [a.x, a.y, a.z]

/-- A vector from its components. -/
def vecOf (l : List Rat) : Vec := ⟨nth l 0 0, nth l 1 0, nth l 2 0⟩

/-- Three I32 at an offset. -/
def vecAt (o : Octets) (off : Nat) : Vec := vecOf ((List.range 3).map fun i => ((i32At o (off + 4 * i) : Int) : Rat))

/-- Product, conjugate, and a vector turned. -/
def Quat.mul (a b : Quat) : Quat :=
  ⟨a.w * b.w - a.v.dot b.v, ((b.v.scale a.w).add (a.v.scale b.w)).add (a.v.cross b.v)⟩
def Quat.conj (a : Quat) : Quat := ⟨a.w, a.v.scale (-1)⟩
def Quat.turn (a : Quat) (p : Vec) : Vec := ((a.mul ⟨0, p⟩).mul a.conj).v

/-- Four Q31 at an offset. -/
def quatAt (o : Octets) (off : Nat) : Quat :=
  let c := fun i => ((i32At o (off + 4 * i) : Int) : Rat) / 2147483648
  ⟨c 0, c 1, c 2, c 3⟩

/-- Turns by an angle in half-turns about x and about z. -/
def aboutX (h : Rat) : Quat := ⟨Config.cosine (h / 2), Config.sine (h / 2), 0, 0⟩
def aboutZ (h : Rat) : Quat := ⟨Config.cosine (h / 2), 0, 0, Config.sine (h / 2)⟩

/-- A place in a frame, seen from where the frame is; a point of a frame; the frame seen from a place in it. -/
def Place.comp (f g : Place) : Place := ⟨f.pos.add (f.rot.turn g.pos), f.rot.mul g.rot⟩
def Place.point (f : Place) (p : Vec) : Vec := f.pos.add (f.rot.turn p)
def Place.inverse (f : Place) : Place := ⟨(f.rot.conj.turn f.pos).scale (-1), f.rot.conj⟩

/-- Position as 3 × I32 and orientation as 4 × Q31 at an offset. -/
def placeAt (o : Octets) (off : Nat) : Place := ⟨vecAt o off, quatAt o (off + 12)⟩

/-- A pose as seven numbers, and back. -/
def Place.toList (f : Place) : List Rat := f.pos.toList ++ f.rot.w :: f.rot.v.toList
def placeOf (l : List Rat) : Place := ⟨vecOf l, nth l 3 0, vecOf (l.drop 4)⟩

/-! ### Forward kinematics (Tables 10-3, 10-4) -/

/-- Entry of the `i`-th joint in an arm model. -/
def modelEntry (m : Octets) (i : Nat) : Octets := slice m (64 + 96 * i) 96

/-- The joint is revolute. -/
def revolute (e : Octets) : Bool := u8At e 0 == 0

/-- Link frame i in link frame i − 1 at a joint position in counts: a rotation α about x, a translation a along x, a rotation θ
about z, a translation d along z. -/
def linkStep (e : Octets) (q : Rat) : Place :=
  let half := ((i32At e 16 : Int) : Rat) / 2147483648
  let d := ((i32At e 12 : Int) : Rat)
  let turns := q / (u32At e 20 : Rat)
  let theta := if revolute e then half + 2 * turns else half
  let off := if revolute e then d else d + 100000 * turns
  (Place.mk ⟨((i32At e 4 : Int) : Rat), 0, 0⟩ (aboutX (((i32At e 8 : Int) : Rat) / 2147483648))).comp ⟨⟨0, 0, off⟩, aboutZ theta⟩

/-- Frames 0 to n of an arm at given positions of its n joints. -/
def linkFrames (m : Octets) (q : List Rat) : List Place :=
  q.zipIdx.foldl (fun l x => l ++ [(l.getLastD (placeAt m 0)).comp (linkStep (modelEntry m x.2) x.1)]) [placeAt m 0]

/-- Frame of link 0 to 16, or of the tool for 17. -/
def linkFrame (m : Octets) (q : List Rat) (link : Nat) : Place :=
  let fs := linkFrames m q
  if link = 17 then (fs.getLastD (placeAt m 0)).comp (placeAt m 28) else nth fs link (placeAt m 0)

/-- What the front stage holds of a vector. -/
def Vec.held (a : Vec) : Vec := ⟨Config.frontValue a.x, Config.frontValue a.y, Config.frontValue a.z⟩

/-- Cell-frame position in 10 µm of a point of a link. -/
def linkPoint (m : Octets) (q : List Rat) (link : Nat) (p : Vec) : Vec := ((linkFrame m q link).point p).held

/-- Pose of the tool, or of the object carried through a grasp of 28 octets. -/
def toolPose (m grasp : Octets) (q : List Rat) : Place :=
  let f := linkFrame m q 17
  let g := if grasp.isEmpty then f else f.comp (placeAt grasp 0)
  ⟨g.pos.held, Config.frontValue g.rot.w, g.rot.v.held⟩

/-! ### Paths and errors between poses (R437 to R441) -/

/-- Square of the distance of two positions. -/
def Vec.dist2 (a b : Vec) : Rat := (a.sub b).dot (a.sub b)

/-- The rotation from one orientation to another, taken the short way round. -/
def Quat.between (a b : Quat) : Quat :=
  let r := b.mul a.conj
  if r.w < 0 then ⟨-r.w, r.v.scale (-1)⟩ else r

/-- Full angle between two orientations, in half-turns. -/
def Quat.angle (a b : Quat) : Rat := if (a.between b).v = Vec.zero then 0 else 2 * Config.arcCosine (a.between b).w

/-- Axis of the rotation between two orientations; zero where there is none. -/
def Quat.axis (a b : Quat) : Vec :=
  let v := (a.between b).v
  if v = Vec.zero then Vec.zero else v.scale (1 / Config.root (v.dot v))

/-- Orientation turned about the fixed axis of the rotation between two orientations, by `sigma` times the full angle. -/
def Quat.turned (a b : Quat) (sigma : Rat) : Quat :=
  let h := sigma * a.angle b / 2
  if (a.between b).v = Vec.zero then a else (Quat.mk (Config.cosine h) ((a.axis b).scale (Config.sine h))).mul a

/-- Path point of a pose path at σ: its position on the straight line, its orientation turned (R438). -/
def Place.along (f g : Place) (sigma : Rat) : Place :=
  ⟨f.pos.add ((g.pos.sub f.pos).scale sigma), f.rot.turned g.rot sigma⟩

/-- Difference of two poses in six components: linear in 10 µm, angular about the axis between them. -/
def Place.error (f g : Place) : List Rat :=
  ((f.pos.sub g.pos).held).toList ++
    ((((g.rot.axis f.rot).scale (g.rot.angle f.rot * Config.pi * Config.angularUnit)).held).toList)

/-! ### Jacobians (R441, R442) -/

/-- Counts of a joint to rad, or to metres. -/
def countUnit (e : Octets) : Rat := (if revolute e then 2 * Config.pi else 1) / (u32At e 20 : Rat)

/-- Linear and angular velocity in 10 µm and rad per count of joint `j` of a point `p` in the cell frame. -/
def jointTwist (m : Octets) (fs : List Place) (p : Vec) (j : Nat) : Vec × Vec :=
  let f := nth fs (j + 1) (placeAt m 0)
  let e := modelEntry m j
  let z := (f.rot.turn ⟨0, 0, 1⟩).scale (countUnit e)
  if revolute e then (z.cross (p.sub f.pos), z) else (z.scale 100000, Vec.zero)

/-- Rows of a list of columns of vectors. -/
def vecRows (l : List Vec) : List (List Rat) := [l.map (·.x), l.map (·.y), l.map (·.z)]

/-- Jacobian of the tool pose, or of the object's, in six rows. -/
def poseJacobian (m grasp : Octets) (q : List Rat) : List (List Rat) :=
  let fs := linkFrames m q
  let p := (toolPose m grasp q).pos
  let t := (List.range q.length).map (jointTwist m fs p)
  vecRows (t.map fun x => x.1.held) ++ vecRows (t.map fun x => (x.2.scale Config.angularUnit).held)

/-! ### Distances of capsules (R441, R443) -/

/-- A number held between 0 and 1. -/
def clampUnit (x : Rat) : Rat := if x < 0 then 0 else if 1 < x then 1 else x

/-- Places of least distance on the segments p + s d and q + t e. -/
def nearest (p d q e : Vec) : Rat × Rat :=
  let r := p.sub q
  let a := d.dot d
  let b := d.dot e
  let c := d.dot r
  let f := e.dot r
  let g := e.dot e
  if g = 0 then (if a = 0 then 0 else clampUnit (-c / a), 0)
  else if a = 0 then (0, clampUnit (f / g))
  else
    let den := a * g - b * b
    let s := if den = 0 then 0 else clampUnit ((b * f - c * g) / den)
    let t := (b * s + f) / g
    if t < 0 then (clampUnit (-c / a), 0) else if 1 < t then (clampUnit ((b - c) / a), 1) else (s, t)

/-- Nearest points of two segments, given by their ends in six numbers each. -/
def nearestPoints (x y : List Rat) : Vec × Vec :=
  let p := vecOf x
  let d := (vecOf (x.drop 3)).sub p
  let q := vecOf y
  let e := (vecOf (y.drop 3)).sub q
  let n := nearest p d q e
  (p.add (d.scale n.1), q.add (e.scale n.2))

/-- Distance in 10 µm between two segments. -/
def segmentDistance (x y : List Rat) : Rat := let n := nearestPoints x y; Config.root (n.1.dist2 n.2)

/-- The row nᵀJ of a separation row: n points from the other capsule to the own one, J is the Jacobian of the own nearest point,
which the joints up to its link move. -/
def separationRow (m : Octets) (q : List Rat) (link : Nat) (ends other : List Rat) : List Rat :=
  let n := nearestPoints ends other
  let d := n.1.sub n.2
  let dir := if d = Vec.zero then vecOf Config.contactNormal else d.scale (1 / Config.root (d.dot d))
  let fs := linkFrames m q
  (List.range q.length).map fun j => if j < link then Config.frontValue (dir.dot (jointTwist m fs n.1 j).1) else 0

/-! ### Dynamics (R441, R442) -/

/-- A body: mass in kg, centre of mass in the cell frame in 10 µm, frame of its inertia, inertia about the centre of mass in kg·m²,
and how many joints move it. -/
structure Body where
  mass : Rat
  com : Vec
  frame : Place
  inertia : Vec
  joints : Nat

/-- The links of an arm as bodies. -/
def linkBodies (m : Octets) (q : List Rat) : List Body :=
  let fs := linkFrames m q
  (List.range q.length).map fun i =>
    let e := modelEntry m i
    let f := nth fs (i + 1) (placeAt m 0)
    let u := fun o => (u32At e o : Rat) / 1000000
    ⟨(u32At e 24 : Rat) / 1000, f.point (vecAt e 28), f, ⟨u 40, u 44, u 48⟩, i + 1⟩

/-- The payload of an engaged group as a body that a member carries through its grasp, and its part in per mille: group record and
the member's place in the group. -/
def payloadBody (m rec : Octets) (place : Nat) (q : List Rat) : Body :=
  let f := (linkFrame m q 17).comp (placeAt rec (28 + 28 * place))
  ⟨(u32At rec 4 : Rat) / 1000, f.point (vecAt rec 8), f, Vec.zero, q.length⟩

/-- Share of a body in the mass matrix, in kg·m² or its like per count of joints `i` and `j`. -/
def Body.couple (b : Body) (m : Octets) (fs : List Place) (i j : Nat) : Rat :=
  if b.joints ≤ max i j then 0
  else
    let x := jointTwist m fs b.com i
    let y := jointTwist m fs b.com j
    let u := b.frame.rot.conj.turn x.2
    let v := b.frame.rot.conj.turn y.2
    b.mass * (x.1.dot y.1 / 10000000000) + (b.inertia.x * u.x * v.x + b.inertia.y * u.y * v.y + b.inertia.z * u.z * v.z)

/-- Force of a joint per count: N·m or N becomes the model's mN·m or mN by the joint's own unit. -/
def forceOf (m : Octets) (j : Nat) (x : Rat) : Rat := Config.frontValue (1000 * x / countUnit (modelEntry m j))

/-- Mass matrix M in mN·m or mN per count per planning cycle² for an interval of `t` ns; `rec` is the record of the arm's engaged
group or empty, `place` the arm's place in it. -/
def massMatrix (m rec : Octets) (place : Nat) (q : List Rat) (t : Nat) : List (List Rat) :=
  let fs := linkFrames m q
  let sec : Rat := (t : Rat) / 1000000000
  let carried := fun i j =>
    if rec.isEmpty then 0 else Config.payloadPart (u16At rec (20 + 2 * place)) * (payloadBody m rec place q).couple m fs i j
  (List.range q.length).map fun i => (List.range q.length).map fun j =>
    forceOf m i (((linkBodies m q).foldl (fun a b => a + b.couple m fs i j) (carried i j)) / (sec * sec))

/-- Bias h in mN·m or mN: the gravity of the links, and the arm's load share of the payload's weight. -/
def biasTorque (m rec : Octets) (place : Nat) (q : List Rat) : List Rat :=
  let fs := linkFrames m q
  let g := vecOf Config.gravity
  let weight := fun (b : Body) (j : Nat) => if b.joints ≤ j then 0 else -(b.mass * (g.dot (jointTwist m fs b.com j).1 / 100000))
  let carried := fun j =>
    if rec.isEmpty then 0 else (u16At rec (20 + 2 * place) : Rat) / 1000 * weight (payloadBody m rec place q) j
  (List.range q.length).map fun j => forceOf m j ((linkBodies m q).foldl (fun a b => a + weight b j) (carried j))

/-! ### Path speed (R437) -/

/-- Least number of planning cycles over which a fall by `a` a cycle can cover the path `rest`: n (n + 1) a ≥ 2 rest. -/
def fallCycles (a rest : Rat) : Nat :=
  let m := (2 * rest / a).ceil.toNat
  let k := isqrt m
  if m ≤ k * (k + 1) then k else k + 1

/-- Path speed from which a fall by `a` each planning cycle, σ advancing by the speed of each, reaches 0 at the end of the path
`rest`: v + (v − a) + … over the least number n of cycles is `rest`. -/
def fallSpeed (a rest : Rat) : Rat :=
  let n : Rat := (fallCycles a rest : Nat)
  if n = 0 then 0 else rest / n + a * (n - 1) / 2

end Sys2Proof.Machine
end

