-- ==== Sys2Proof/Machine/Percep.lean ====
section
/-! DEFINITION. Voxel builder and separation engine (spec/11_perception_separation.md). -/

namespace Sys2Proof.Machine

/-! ### Geometry -/

/-- Inner product. -/
def dot (a b : List Int) : Int := (a.zip b).foldl (fun s x => s + x.1 * x.2) 0

/-- Difference of two points. -/
def sub3 (a b : List Int) : List Int := (a.zip b).map fun x => x.1 - x.2

/-- ⌊ℓ⌋ for the distance ℓ from a point to a segment (R488): exact in integers. -/
def segDistance (p a b : List Int) : Nat :=
  let ab := sub3 b a
  let ap := sub3 p a
  let t := dot ap ab
  let l := dot ab ab
  if t ≤ 0 then isqrt (dot ap ap).toNat
  else if l ≤ t then isqrt (dot (sub3 p b) (sub3 p b)).toNat
  else isqrt ((dot ap ap * l - t * t) / l).toNat

/-- Voxel edge e in 10 µm (R468). -/
def State.voxelEdge (s : State) : Nat := 1000 * 2 ^ s.cfg 0x2C01 4

/-- Map origin. -/
def State.mapOrigin (s : State) : List Int := [s.cfgInt 32 0x2C01 1, s.cfgInt 32 0x2C01 2, s.cfgInt 32 0x2C01 3]

/-- Linear index of a voxel (R469). -/
def voxelIndex (x y z : Nat) : Nat := x + 640 * (y + 512 * z)

/-- Brick of a voxel (R469). -/
def brickOf (v : Nat) : Nat := v % 640 / 8 + 80 * (v / 640 % 512 / 8 + 64 * (v / 327680 / 8))

/-- Centre of a voxel (R468). -/
def State.voxelCentre (s : State) (v : Nat) : List Int :=
  let e : Int := s.voxelEdge
  (s.mapOrigin.zip [v % 640, v / 640 % 512, v / 327680]).map fun x => x.1 + (2 * (x.2 : Int) + 1) * e / 2

/-- Centre of a brick (R490). -/
def State.brickCentre (s : State) (b : Nat) : List Int :=
  let e : Int := s.voxelEdge
  (s.mapOrigin.zip [b % 80, b / 80 % 64, b / 5120]).map fun x => x.1 + (8 * (x.2 : Int) + 4) * e

/-- Entry of the rotation matrix of a quaternion in units of 2⁻⁶², rounded to Q31 with 1 saturated (R476). -/
def rotEntry (x : Int) : Int := clampInt (-2147483648) 2147483647 (roundEven x 2147483648)

/-- Rotation matrix of a Q31 quaternion, row by row (R476). -/
def rotation (w x y z : Int) : List Int :=
  let one : Int := 2 ^ 62
  [one - 2 * (y * y + z * z), 2 * (x * y - w * z), 2 * (x * z + w * y),
   2 * (x * y + w * z), one - 2 * (x * x + z * z), 2 * (y * z - w * x),
   2 * (x * z - w * y), 2 * (y * z + w * x), one - 2 * (x * x + y * y)].map rotEntry

/-- A Q31 quaternion whose squared norm differs from 1 by at most 2⁻²⁰ (R426, R472). -/
def quatOk (o : Octets) : Bool :=
  let c := (List.range 4).map fun i => i32At o (4 * i)
  decide ((dot c c - 2 ^ 62).natAbs ≤ 2 ^ 42)

/-! ### Sensors and points -/

/-- Record of sensor `n` in the sensor table (R471, Table 11-4). -/
def State.sensorRec (s : State) (n : Nat) : Octets := slice (s.obj 0x2C03 0) (64 * n) 64

/-- A sensor record of an enabled sensor. -/
def sensorOn (r : Octets) : Bool := bitAt (u8At r 0) 0

/-- Content checks of the sensor table (R472). -/
def sensorTableOk (o : Octets) : Bool :=
  let rs := chunks 64 32 o
  rs.all (fun r =>
    if sensorOn r then
      field (u8At r 0) 7 1 == 0 && u24At r 1 == 0 && allZero (slice r 46 18) && inRange 1 240000 (u32At r 4) &&
        decide (u32At r 36 < u32At r 40) && inRange 1 1000 (u16At r 44) && quatOk (slice r 20 16)
    else allZero r) &&
  decide ((rs.filter sensorOn).foldl (fun a r => a + u32At r 4) 0 ≤ 240000)

/-- Content checks of the capsule table (R480). -/
def capsuleTableOk (o : Octets) : Bool :=
  (chunks 32 192 o).all fun c =>
    if u8At c 0 = 0xFF then allZero (c.drop 1)
    else decide (u8At c 0 ≤ 11) && decide (u8At c 1 ≤ 17) && u16At c 2 == 0 && inRange 1 100000 (u32At c 28)

/-- The map window `m` changed; it opens with its first packet. -/
def State.onWindow (s : State) (m : Nat) (f : MapWindow → MapWindow) : State :=
  s.onPer fun p =>
    if p.windows.any (·.m == m) then { p with windows := p.windows.map fun w => if w.m == m then f w else w }
    else { p with windows := p.windows ++ [f ⟨m, [], [], List.replicate 8 0⟩] }

/-- A window count increased by a number. -/
def MapWindow.count (w : MapWindow) (i n : Nat) : MapWindow := { w with counts := upd w.counts (i - 1) fun c => c + n }

/-- Count :`i` of window `m`. -/
def State.windowCount (s : State) (m i : Nat) : Nat :=
  match s.per.windows.find? (·.m == m) with
  | some w => nth w.counts (i - 1) 0
  | none => 0

/-- What becomes of a point: the count it is dropped under, or its voxel (R475 to R478). -/
def State.pointVoxel (s : State) (n : Nat) (p : List Int) : Nat ⊕ Nat :=
  let r := s.sensorRec n
  let d := isqrt (dot p p).toNat
  if d < u32At r 36 ∨ u32At r 40 < d then .inl 5
  else
    let rot := nth s.per.rot n []
    let e : Int := s.voxelEdge
    let o := s.mapOrigin
    let v := (List.range 3).map fun i =>
      (i32At r (8 + 4 * i) + roundEven (dot (slice3 rot i) p) 2147483648 - nth o i 0) / e
    let x := nth v 0 0
    let y := nth v 1 0
    let z := nth v 2 0
    if 0 ≤ x ∧ x < 640 ∧ 0 ≤ y ∧ y < 512 ∧ 0 ≤ z ∧ z < 128 then
      let i := voxelIndex x.toNat y.toNat z.toNat
      if bitAt (s.objOctet 0x2C04 0 (brickOf i / 8)) (brickOf i % 8) then .inl 7 else .inr i
    else .inl 6
where
  /-- Row `i` of a matrix of nine entries. -/
  slice3 (m : List Int) (i : Nat) : List Int := (m.drop (3 * i)).take 3

/-- The points of an accepted packet are dropped and counted, or staged (R475 to R478). -/
def State.stage (s : State) (m n : Nat) (pts : List (List Int)) : State :=
  let v := pts.map (s.pointVoxel n)
  s.onWindow m fun w => v.foldl (fun w x =>
    match x with
    | .inl i => w.count i 1
    | .inr i => { w with hits := w.hits ++ [i] }) w

/-- A packet discarded by the builder: counted in the window of its arrival, with the event of the first (R474, R499). -/
def State.packetRefused (s : State) (arrival i : Nat) : State :=
  let m := arrival / 1000000
  let s1 := s.onWindow m fun w => w.count i 1
  if s1.windowCount m i = 1 then (if i = 2 then s1.raise 323 else if i = 3 then s1.raise 324 else s1) else s1

/-- A packet that the port has accepted comes to the voxel builder with its receive timestamp in ns (R28, R29, R473, R474). A packet of a
window that opened before the builder's first one has no window to be accepted for or counted in: R474 and R496 are silent, and it
is dropped without a count (DESIGN CHOICE, assumption log 72). -/
def State.buildPacket (s : State) (o : Octets) (received : Nat) : State :=
  if !s.isRunning .voxel then s
  else
    let n := u8At o 2
    let r := s.sensorRec n
    let count := u16At o 4
    let t := s.toRing (u64At o 8 * 1000000000 + u32At o 16)
    let arrival := s.toRing received
    let m := t / 1000000
    let at_ := arrival.toNat
    if !sensorOn r || decide (arrival < t) then s.packetRefused at_ 4
    else if (m + 1) * 1000000 + 250000 < arrival then s.packetRefused at_ 2
    else if m < s.per.first then s
    else
      let w := m.toNat
      let used := match s.per.windows.find? (·.m == w) with | some x => wordAt x.points n | none => 0
      if u32At r 4 < used + count then s.packetRefused at_ 3
      else
        let pts := (List.range count).map fun i => (List.range 3).map fun j => i32At o (32 + 12 * i + 4 * j)
        let s1 := s.onWindow w fun x => { x.count 1 1 with points := wordPut x.points n (used + count) }
        s1.stage w n pts

/-- A point packet arrives at port `n` (R688). -/
def State.pointPacket (s : State) (n : Nat) (v6 : Bool) (addr : Octets) (udp : Nat) (o : Octets) : State :=
  if !(s.isRunning (.hostPort n) && (s.port n).link) then s
  else if !s.pointPacketOk n v6 addr udp o then s.pointRefused n
  else
    let f := s.portFrame n (3 + u8At o 2) 2048
    if f.2 then f.1.buildPacket o (s.stamp n false / 65536).toNat else f.1

/-! ### Pose sets and capsules -/

/-- Position of joint `j` published for cycle `c` (Table 09-6). -/
def State.pubPosition (s : State) (j c : Nat) : Int :=
  let m := nth s.le.pubs (c % 4) []
  toSigned 48 (wordAt m (16 * j + 3) + wordAt m (16 * j + 4) * 2 ^ 24)

/-- Ring of a joint: that of its pannier entry, else the board reference ring. -/
def State.ringOf (s : State) (j : Nat) : Nat := match s.jointEntry j with | some x => x.1 | none => s.boardRing

/-- Positions of the 96 joints as octets of a Bazaar buffer, eight each, and back (assumption log 72). -/
def positionOctets (l : List Int) : Octets := l.flatMap fun x => toLE 8 (ofSigned 64 x)
def octetPositions (o : Octets) : List Int := (List.range 96).map fun j => i64At o (8 * j)

/-- Arms that are STARTING, RUNNING or STOPPING (R482). -/
def State.armsUsed (s : State) : Nat :=
  maskOf ((List.range 12).filter fun a => (s.fnSt (.arm a)).active || s.fnSt (.arm a) == .stopping)

/-- The last cycle of a ring of period `p` that started before `t`, plus 1 (0 for none). -/
def cyclesBefore (p t : Nat) : Nat := if cycleStart p (cycleAt p t) = t then cycleAt p t else cycleAt p t + 1

/-- Position of a joint of an arm for the window that ended at `t`, once the cycle that it is taken from has ended (R481). -/
def State.windowPosition (s : State) (t j : Nat) : Option Int :=
  let p := s.period (s.ringOf j)
  let c := cyclesBefore p t
  if !((List.range 12).any fun a => (s.members a).contains j) then some 0
  else if c = 0 then some 0
  else if cycleStart p c ≤ s.now then some (s.pubPosition j (c + 3))
  else none

/-- A pose set with the positions that can be copied now. -/
def State.fillPoses (s : State) (x : PoseSet) : PoseSet :=
  { x with positions := x.positions.zipIdx.map fun y => y.1.or (s.windowPosition ((x.m + 1) * 1000000) y.2) }

/-- At the start of a board cycle the Waystation goes on with the pose sets (R481): one is opened for a window that ended during
the cycle before, and every set takes the positions whose cycle has ended. -/
def State.capturePoses (s : State) : State :=
  let c := s.boardCycle
  let p := s.period s.boardRing
  let ms := cycleStart p c / 1000000
  let fresh := s.isActive .voxel && decide (0 < c) && decide (cycleStart p (c - 1) < ms * 1000000)
  let opened : List PoseSet := if fresh then [⟨ms - 1, s.armsUsed, List.replicate 96 none⟩] else []
  s.onPer fun q => { q with poses := (opened ++ q.poses.take 3).map s.fillPoses }

/-- The pose set of window `m` as it has been copied: arms used and positions. A set of which nothing has been copied names no arm. -/
def State.poseSet (s : State) (m : Nat) : Nat × List Int :=
  match s.per.poses.find? (·.m == m) with
  | some x => (x.arms, x.positions.map fun y => y.getD 0)
  | none => (0, List.replicate 96 0)

/-- Arm, link, ends in the link frame and radius of capsule `c` (R479, Table 11-7). -/
def State.capsule (s : State) (c : Nat) : Octets := slice (s.obj 0x2C05 0) (32 * c) 32

/-- Cell-frame position of a capsule's end at `off` of its entry, at given joint positions of its arm. -/
def State.capsulePoint (s : State) (a : Nat) (q : List Rat) (link : Nat) (e : Octets) (off : Nat) : List Rat :=
  (linkPoint (s.obj (0x5006 + 0x40 * a) 0) q link (vecAt e off)).toList

/-- Capsules of the arms of a mask whose Link is 0, 17 or no greater than the member count, with their cell-frame ends at given joint
positions (R482), rounded to nearest with ties to even. -/
def State.usedCapsules (s : State) (arms : Nat) (pos : List Int) : List (Nat × List Int) :=
  (List.range 192).filterMap fun c =>
    let e := s.capsule c
    let a := u8At e 0
    let link := u8At e 1
    if a ≤ 11 ∧ bitAt arms a = true ∧ (link = 0 ∨ link = 17 ∨ link ≤ (s.members a).length) then
      let q := (s.members a).map fun j => ((nth pos j 0 : Int) : Rat)
      let pt := fun off => s.capsulePoint a q link e off
      some (c, (pt 4).map ratRound ++ (pt 16).map ratRound)
    else none

/-! ### Items of the stages -/

/-- An item at a service position of a class. -/
def State.serving (s : State) (c : Consumer) (p : Item → Bool) : Option Item :=
  (List.range c.places.2).findSome? fun i => (nth s.way.positions (c.places.1 + i) none).filter p

/-- An item of a flow with a tag is still with the Waystation: held, queued or in service. -/
def State.itemLives (s : State) (flow tag : Nat) : Bool :=
  let p := fun (i : Item) => i.flow == flow && i.tag == tag
  s.way.held.any p || (s.way.queue.any fun q => p q.item) || s.way.positions.any fun x => x.any p

/-! ### The window update -/

/-- The voxel builder is at an update: its window's item has not left the Waystation (R484). -/
def State.updateBusy (s : State) : Bool :=
  match s.per.updating with
  | some u => s.itemLives 115 u.tag
  | none => false

/-- Acceptance of the next window closes and its update starts with the item on flow 115, whose buffer holds the pose set
(R481, R484). -/
def State.closeWindow (s : State) : State :=
  let m := s.per.first
  if s.isRunning .voxel && !s.updateBusy then
    let s1 := s.advanceTo ((m + 1) * 1000000 + 250000)
    let x := s1.poseSet m
    let b := s1.planningBuffer
    let t := b.2.draw
    let tag := t.1 % 2 ^ 32
    let s2 := t.2.onPer fun p =>
      { p with updating := some ⟨m, tag, x.1, false⟩, first := m + 1, sepFresh := s1.isActive .separation }
    s2.post ⟨115, 0x10013, b.1, 768, 0, tag, positionOctets x.2, 0⟩
  else s

/-- Voxel `v` lies in the self-filter of a capsule (Table 11-8 row 1). -/
def State.selfFiltered (s : State) (caps : List (Nat × List Int)) (v : Nat) : Bool :=
  let c := s.voxelCentre v
  caps.any fun x => decide (segDistance c (x.2.take 3) (x.2.drop 3) ≤ u32At (s.capsule x.1) 28 + s.cfg 0x2C02 3)

/-- The map after the update of window `m` (R485). -/
def State.updatedMap (s : State) (m : Nat) (caps : List (Nat × List Int)) (hits : List Nat) : List (Nat × Nat) :=
  let g := if m % s.cfg 0x2C02 1 = 0 then 1 else 0
  let aged := s.per.map.filterMap fun x =>
    if hits.contains x.1 || decide (x.2 ≤ g) || s.selfFiltered caps x.1 then none else some (x.1, x.2 - g)
  hits.foldl (fun l v => if s.selfFiltered caps v then l else wordPut l v 3) aged

/-- Sensors silent in window `m`, given the last window plus 1 in which each was accepted (R487). -/
def State.silentSensors (s : State) (m : Nat) (accepted : List (Nat × Nat)) : List Nat :=
  (List.range 32).filter fun n =>
    let r := s.sensorRec n
    let l := wordAt accepted n
    sensorOn r && (l == 0 || decide (l + u16At r 44 < m + 2))

/-- The map, summaries, counts and SILENT after the update of a window with its used capsules (R485 to R487). -/
def State.updateMap (s : State) (m : Nat) (caps : List (Nat × List Int)) : State :=
  let w := (s.per.windows.find? (·.m == m)).getD ⟨m, [], [], List.replicate 8 0⟩
  let map := s.updatedMap m caps w.hits
  let accepted := w.points.foldl (fun l x => wordPut l x.1 (m + 1)) s.per.lastAccepted
  let silent := s.silentSensors m accepted
  let fresh := silent.filter fun n => !s.per.silent.contains n
  let filtered := (w.hits.filter (s.selfFiltered caps)).length
  let s1 := s.onPer fun p =>
    { p with
      map := map, windows := p.windows.filter (fun x => decide (m < x.m)), window := m, occ := map.length,
      lastAccepted := accepted, silent := silent, sensorPoints := w.points, counts := (w.count 8 filtered).counts }
  fresh.foldl (fun s _ => s.raise 325) s1

/-- The update ends, by the item on flow 115 in service, and the pose set goes on with the item on flow 116 (R481, R485 to R487). -/
def State.updateEnd (s : State) : State :=
  match s.per.updating with
  | none => s
  | some u =>
    match s.serving .voxel (fun i => i.flow == 115 && i.tag == u.tag) with
    | none => s
    | some it =>
      let s1 := s.updateMap u.m (s.usedCapsules u.arms (octetPositions it.payload))
      let b := s1.planningBuffer
      let t := b.2.draw
      let tag := t.1 % 2 ^ 32
      let next : StageWindow := ⟨u.m, tag, u.arms, !s1.per.silent.isEmpty⟩
      let s2 := t.2.onPer fun p => { p with updating := none, sep := if s1.isActive .separation then some next else none }
      s2.post ⟨116, 0x10014, b.1, 768, 0, tag, it.payload, 0⟩

/-! ### The separation engine -/

/-- Occupied voxels of a brick in ascending linear index. -/
structure Brick where
  num : Nat
  voxels : List (Nat × Nat)

/-- The occupied bricks of a map in ascending number. -/
def bricksOf (map : List (Nat × Nat)) : List Brick :=
  let nums := (map.map fun x => brickOf x.1).foldl (fun l b => wordPut l b 1) []
  nums.map fun b => ⟨b.1, map.filter fun x => brickOf x.1 == b.1⟩

/-- Bricks in scope (R492). -/
def bricksInScope (full : Bool) (bs : List Brick) : List Brick :=
  if full then
    let rec go (sum : Nat) : List Brick → List Brick
      | [] => []
      | b :: r => if sum + b.voxels.length ≤ 524288 then b :: go (sum + b.voxels.length) r else []
    go 0 bs
  else bs

/-- h and H_b of Table 11-11. -/
def allowances (edge : Nat) : Nat × Nat := if edge = 0 then (867, 6064) else if edge = 1 then (1733, 12126) else (3465, 24250)

/-- G of a voxel state (R489). -/
def State.growth (s : State) (st : Nat) : Nat := if st = 3 then 0 else if st = 2 then s.cfg 0x2C02 2 else 2 * s.cfg 0x2C02 2

/-- d(c, v) (R489). -/
def State.voxelDistance (s : State) (c : Nat × List Int) (v st : Nat) : Nat :=
  segDistance (s.voxelCentre v) (c.2.take 3) (c.2.drop 3) - u32At (s.capsule c.1) 28 - (allowances (s.cfg 0x2C01 4)).1 - s.growth st

/-- B(c, b) (R490). -/
def State.brickBound (s : State) (c : Nat × List Int) (b : Brick) : Nat :=
  let st := b.voxels.foldl (fun a x => max a x.2) 0
  segDistance (s.brickCentre b.num) (c.2.take 3) (c.2.drop 3) - u32At (s.capsule c.1) 28 - (allowances (s.cfg 0x2C01 4)).2 -
    (allowances (s.cfg 0x2C01 4)).1 - s.growth st

/-- Progress of the procedure of R491: work, best distance with its voxel and capsule, and whether the budget ended it. -/
structure SepRun where
  work : Nat
  best : Option (Nat × Nat × Nat)
  stopped : Bool

/-- The voxels of one brick (R491). -/
def State.sepVoxels (s : State) (budget : Nat) (c : Nat × List Int) (r : SepRun) (b : Brick) : SepRun :=
  b.voxels.foldl (fun r v =>
    if r.stopped then r
    else if budget ≤ r.work then { r with stopped := true }
    else
      let d := s.voxelDistance c v.1 v.2
      let better := match r.best with | some x => decide (d < x.1) | none => true
      { r with work := r.work + 1, best := if better then some (d, v.1, c.1) else r.best }) r

/-- A brick put at its place: rising bound, ties in rising number. -/
def insertBrick (x : Nat × Brick) : List (Nat × Brick) → List (Nat × Brick)
  | [] => [x]
  | y :: r => if x.1 < y.1 ∨ (x.1 = y.1 ∧ x.2.num < y.2.num) then x :: y :: r else y :: insertBrick x r

/-- The bricks of one capsule in rising bound, until one lies beyond the best (R491). -/
def State.sepBricks (s : State) (budget : Nat) (c : Nat × List Int) : SepRun → List (Nat × Brick) → SepRun
  | r, [] => r
  | r, x :: l =>
    let beyond := match r.best with | some b => decide (b.1 < x.1) | none => false
    if r.stopped || beyond then r else s.sepBricks budget c (s.sepVoxels budget c r x.2) l

/-- One capsule (R491). -/
def State.sepCapsule (s : State) (budget : Nat) (bs : List Brick) (r : SepRun) (c : Nat × List Int) : SepRun :=
  if r.stopped then r
  else if budget < r.work + bs.length then { r with work := budget, stopped := true }
  else
    s.sepBricks budget c { r with work := r.work + bs.length } (bs.foldr (fun b l => insertBrick (s.brickBound c b, b) l) [])

/-- Result of an arm (Table 11-14), before SAT. -/
def armSep (used : Bool) (best : Option (Nat × Nat × Nat)) (cap : Bool) (base : Nat) : ArmSep :=
  let fl := base ||| b2n cap <<< 2 ||| b2n used <<< 7
  match best with
  | some b => ⟨b.1, b.2.2, fl, b.2.1⟩
  | none => ⟨0xFFFFFFFF, 0xFF, fl ||| 0x40, 0xFFFFFFFF⟩

/-- The results of a window for arms 0 to 11 (R491 to R493). -/
def State.separate (s : State) (caps : List (Nat × List Int)) (silent full : Bool) : List ArmSep :=
  let budget := s.cfg 0x2C11 0
  let bs := bricksInScope full (bricksOf s.per.map)
  let base := b2n silent <<< 4 ||| b2n full <<< 1
  let step := fun (acc : SepRun × List ArmSep) (a : Nat) =>
    let mine := caps.filter fun c => u8At (s.capsule c.1) 0 == a
    if mine.isEmpty then (acc.1, acc.2 ++ [armSep false none false base])
    else
      let r := mine.foldl (s.sepCapsule budget bs) { acc.1 with best := none }
      (r, acc.2 ++ [armSep true r.best r.stopped base])
  let l := ((List.range 12).foldl step (⟨0, none, false⟩, [])).2
  if full || silent || l.any (fun x => bitAt x.flags 2) then l.map fun x => { x with flags := x.flags ||| 1 } else l

/-- Results before the first window (Table 11-14, Table 11-15). -/
def noResults : List ArmSep := List.replicate 12 ⟨0, 0, 0, 0xFFFFFFFF⟩

/-- The latest results and their window. -/
def Perception.latest (p : Perception) : Nat × List ArmSep := match p.results with | x :: _ => x | [] => (0, noResults)

/-- Results of a window become the latest. -/
def State.putResults (s : State) (m : Nat) (l : List ArmSep) : State :=
  s.onPer fun p => { p with results := (m, l) :: p.results.take 3, sep := none }

/-- The separation engine has measured a window with its used capsules (R491 to R494, R497). -/
def State.separated (s : State) (x : StageWindow) (caps : List (Nat × List Int)) : State :=
  let full := decide (524288 < s.per.occ)
  let l := s.separate caps x.silent full
  let before := s.per.latest.2
  let had := fun b => before.any fun y => bitAt y.flags b
  let s1 := s.putResults x.m l
  let s2 := if full then
      let c := s1.per.saturations
      let s2 := s1.onPer fun p => { p with saturations := stick 32 (c + 1) }
      let s3 := if c + 1 = 0xFFFFFFFF then s2.raise 326 else s2
      if had 1 then s3 else s3.raise 320
    else s1
  let s3 := if l.any (fun y => bitAt y.flags 2) && !had 2 then s2.raise 321 else s2
  if s3.fnSt .separation = .starting ∧ s3.per.sepFresh = true then s3.setFn .separation .running else s3

/-- The separation engine completes a window, by the item on flow 116 in service, with an item on flow 117 (R491 to R494, R497). -/
def State.sepComplete (s : State) : State :=
  match s.per.sep with
  | none => s
  | some x =>
    match s.serving .separation (fun i => i.flow == 116 && i.tag == x.tag) with
    | none => s
    | some it =>
      let s4 := s.separated x (s.usedCapsules x.arms (octetPositions it.payload))
      let b := s4.planningBuffer
      let t := b.2.draw
      t.2.post ⟨117, 0x10015, b.1, 0, 0, t.1 % 2 ^ 32, [], 0⟩

/-- Results not complete at (m + 2) ms: those of window m − 1 stand in their place with LATE (R493, R494). -/
def State.sepLate (s : State) : State :=
  match s.per.sep with
  | none => s
  | some x =>
    let s1 := s.advanceTo ((x.m + 2) * 1000000)
    (s1.putResults x.m (s1.per.latest.2.map fun y => { y with flags := y.flags ||| 0x09 })).raise 322

/-- Separation result that the planner uses at a boundary at ring time `t` (R30). -/
def State.sepAt (s : State) (t a : Nat) : ArmSep :=
  match s.per.results.find? fun x => decide ((x.1 + 2) * 1000000 ≤ t) with
  | some x => nth x.2 a ⟨0, 0, 0, 0xFFFFFFFF⟩
  | none => ⟨0, 0, 0, 0xFFFFFFFF⟩

/-! ### Start and objects -/

/-- START of the voxel builder (R496). -/
def State.voxelStart (s : State) : State :=
  let rot := (List.range 32).map fun n =>
    let r := s.sensorRec n
    rotation (i32At r 20) (i32At r 24) (i32At r 28) (i32At r 32)
  s.onPer fun p =>
    { p with map := [], rot := rot, windows := [], poses := [], updating := none, lastAccepted := [], silent := [], occ := 0 }

/-- The voxel builder passes to RUNNING at the next whole millisecond of ring time (R496). -/
def State.voxelRun (s : State) : State :=
  if s.fnSt .voxel = .starting then
    let ms := s.time.ringNs / 1000000 + 1
    ((s.advanceTo (ms * 1000000)).onPer fun p => { p with first := ms }).setFn .voxel .running
  else s

/-- STOP of the voxel builder: every staged hit is discarded, those of a window whose update is in progress as well (R498; DEDUCED,
assumption log 72). -/
def State.voxelStop (s : State) : State := s.onPer fun p => { p with windows := p.windows.map fun w => { w with hits := [] } }

/-- START of the separation engine (R497). -/
def State.sepStart (s : State) : State := s.onPer fun p => { p with sep := none, sepFresh := false }

/-- Brick summaries 0x2C08:00 (Tables 11-9, 11-10). -/
def brickSummaries (map : List (Nat × Nat)) : Octets :=
  (List.range 81920).flatMap fun b =>
    let v := map.filter fun x => brickOf x.1 == b
    toLE 2 ((v.foldl (fun a x => max a x.2) 0) <<< 10 ||| v.length)

/-- Perception objects that State computes. -/
def State.readPercep (s : State) (idx sub : Nat) : Option Octets :=
  let p := s.per
  if idx = 0x2C06 then some (toLE 4 (nth p.counts (sub - 1) 0))
  else if idx = 0x2C07 then
    some (toLE 8 (p.window % 2 ^ 32 <<< 32 ||| p.occ <<< 6 ||| b2n (!p.silent.isEmpty) <<< 1 ||| b2n (decide (524288 < p.occ))))
  else if idx = 0x2C08 then some (brickSummaries p.map)
  else if idx = 0x2C09 then some (toLE 4 (b2n (p.silent.contains (sub - 1)) <<< 31 ||| wordAt p.sensorPoints (sub - 1)))
  else if idx = 0x2C12 then some (toLE 4 p.saturations)
  else if idx = 0x2C20 then
    let x := nth p.latest.2 (sub - 1) ⟨0, 0, 0, 0xFFFFFFFF⟩
    some (toLE 8 (x.dist <<< 32 ||| x.capsule <<< 24 ||| x.flags))
  else if idx = 0x2C21 then some (toLE 4 (nth p.latest.2 (sub - 1) ⟨0, 0, 0, 0xFFFFFFFF⟩).witness)
  else if idx = 0x2C22 then some (toLE 8 p.latest.1)
  else none

/-- Content checks of perception DOMAINs. -/
def checkPercep (idx : Nat) (o : Octets) : Bool :=
  if idx = 0x2C03 then sensorTableOk o else if idx = 0x2C05 then capsuleTableOk o else true

/-! ### Commands -/

/-- POINT_PACKET (R688, R473 to R478). -/
def execPointPacket (n : Fin 2) (v6 : Bool) (addr : Octets) (udp : Nat) (octets : Octets) (at_ : Nat) (s : State) :
    Host.Outcome State Fault Refusal := .next ((s.advanceTo at_).pointPacket n v6 addr udp octets)

/-- WINDOW_ACCEPTANCE_CLOSE (R484). -/
def execWindowAcceptanceClose (s : State) : Host.Outcome State Fault Refusal := .next s.closeWindow

/-- MAP_UPDATE_END (R485 to R487). -/
def execMapUpdateEnd (s : State) : Host.Outcome State Fault Refusal := .next s.updateEnd

/-- SEPARATION_COMPLETE (R491 to R494, R497). -/
def execSeparationComplete (s : State) : Host.Outcome State Fault Refusal := .next s.sepComplete

/-- SEPARATION_LATE (R494). -/
def execSeparationLate (s : State) : Host.Outcome State Fault Refusal := .next s.sepLate

/-- VOXEL_BUILDER_RUN (R496). -/
def execVoxelBuilderRun (s : State) : Host.Outcome State Fault Refusal := .next s.voxelRun

end Sys2Proof.Machine
end

