-- ==== Sys2Proof/Machine/SolverOps.lean ====
section
/-! DEFINITION. The fixed-point solver: block formats, assembly of a problem from its terms, the interior-point iteration
(spec/10_planning_solver.md R441 to R453). -/

namespace Sys2Proof.Machine

/-! ### Block formats (R445 to R447) -/

/-- 2^e. -/
def pow2 (e : Int) : Rat := if e ≥ 0 then ((2 ^ e.toNat : Nat) : Rat) else 1 / ((2 ^ (-e).toNat : Nat) : Rat)

/-- Value of a mantissa of a block with exponent `e`. -/
def blockValue (e m : Int) : Rat := (m : Rat) * pow2 (e - 31)

/-- A value stored into a block: rounded to nearest with ties to even, saturated outside the range (R446). -/
def store (e : Int) (x : Rat) : Int × Bool :=
  let m := ratRound (x / pow2 (e - 31))
  if m > 2147483647 then (2147483647, true) else if m < -2147483648 then (-2147483648, true) else (m, false)

/-- The reciprocal unit: 1/p in the reciprocal format, and whether it lies outside (R447, R450, R452). -/
def recip (eR e m : Int) : Int × Bool :=
  if m = 0 then (Config.reciprocalOfZero eR, true) else store eR (1 / blockValue e m)

/-- A sparse row: columns with their mantissas or values. -/
abbrev Row := List (Nat × Rat)

/-- Product of a row and a vector. -/
def rowDot (r : Row) (v : List Rat) : Rat := r.foldl (fun a x => a + x.2 * nth v x.1 0) 0

/-- A row added into a vector with a factor. -/
def rowAdd (v : List Rat) (r : Row) (k : Rat) : List Rat := r.foldl (fun v x => upd v x.1 fun y => y + k * x.2) v

/-- A stored row as values. -/
def rowValues (e : Int) (r : List (Nat × Int)) : Row := r.map fun x => (x.1, blockValue e x.2)

/-- Vectors. -/
def vzero (n : Nat) : List Rat := List.replicate n 0
def vadd (a b : List Rat) : List Rat := (a.zip b).map fun x => x.1 + x.2
def vmul (a b : List Rat) : List Rat := (a.zip b).map fun x => x.1 * x.2
def values (e : Int) (l : List Int) : List Rat := l.map (blockValue e)
def storeAll (e : Int) (l : List Rat) : List Int × Bool :=
  let r := l.map (store e)
  (r.map (·.1), r.any (·.2))

/-- Largest magnitude of a list of mantissas. -/
def normInf (l : List Int) : Nat := l.foldl (fun a x => max a x.natAbs) 0

/-! ### The range record (Table 10-13) -/

/-- Record of a problem in the range table. -/
structure RangeRec where
  mask : Nat
  n : Nat
  h : Nat
  s : Nat
  exps : List Int
  thr : List Int
deriving DecidableEq, Repr

/-- The record at offset 96 a of a range table. -/
def rangeRec (o : Octets) (a : Nat) : RangeRec :=
  let r := slice o (96 * a) 96
  { mask := u16At r 0, n := u8At r 2, h := u8At r 3, s := u16At r 4,
    exps := (List.range 15).map fun i => toSigned 8 (u8At r (8 + i)), thr := (List.range 13).map fun i => i32At r (24 + 4 * i) }

/-- Exponents: 0 Hessian, 1 gradient, 2 C, 3 f, 4 x, 5 s, 6 λ, 7 w, 8 L, 9 D, 10 R, 11 r_d, 12 r_p, 13 μ, 14 step. -/
def RangeRec.e (r : RangeRec) (i : Nat) : Int := nth r.exps i 0

/-- Thresholds: 0 EPS_P, 1 EPS_D, 2 EPS_MU, 3 USE_P, 4 USE_D, 5 PIV_MIN, 6 DELTA, 7 S_FLOOR, 8 L_FLOOR, 9 W_Q, 10 W_X, 11 W_A,
12 W_E. -/
def RangeRec.t (r : RangeRec) (i : Nat) : Int := nth r.thr i 0

/-- Content check of one used record (R463). -/
def RangeRec.ok (r : RangeRec) : Bool :=
  r.exps.all (fun e => decide (-64 ≤ e) && decide (e ≤ 63)) && r.thr.all (fun t => decide (0 < t)) &&
  decide (r.t 0 ≤ r.t 3) && decide (r.t 1 ≤ r.t 4) && decide (r.t 5 ≤ r.t 6) && !(recip (r.e 10) (r.e 9) (r.t 6)).2

/-- Reserved fields of a range record (Table 10-13). -/
def rangeReservedOk (o : Octets) : Bool := u16At o 6 == 0 && u8At o 23 == 0 && allZero (slice o 76 20)

/-- Content check of a range table (R463): the reserved fields of every record, the values of the used ones. -/
def rangeTableOk (o : Octets) : Bool :=
  (List.range 12).all fun a =>
    rangeReservedOk (slice o (96 * a) 96) && ((rangeRec o a).mask == 0 || (rangeRec o a).ok)

/-! ### The problem from its terms (R441, R444) -/

/-- A weighted squared term W (r·x − t)² of the objective. -/
structure Term where
  weight : Rat
  row : Row
  target : Rat

/-- An inequality row r·x ≤ f. -/
structure Ineq where
  row : Row
  bound : Rat

/-- Entry of column `c` in a row. -/
def rowAt (r : Row) (c : Nat) : Rat := r.foldl (fun a x => if x.1 = c then a + x.2 else a) 0

/-- Columns of a row, rising, each once. -/
def rowCols (d : Nat) (r : Row) : List Nat := (List.range d).filter fun c => r.any fun x => x.1 == c

/-- A row stored in a block: column and mantissa, zeros left out. -/
def storeRow (e : Int) (d : Nat) (r : Row) : List (Nat × Int) × Bool :=
  let l := (rowCols d r).map fun c => (c, store e (rowAt r c))
  ((l.map fun x => (x.1, x.2.1)).filter (·.2 != 0), l.any fun x => x.2.2)

/-- Hessian of the sum of the terms: second derivatives 2 Σ W r rᵀ, as rows. -/
def hessian (d : Nat) (ts : List Term) : List Row :=
  (List.range d).map fun i =>
    let mine := ts.filterMap fun t => let k := rowAt t.row i; if k = 0 then none else some (2 * t.weight * k, t.row)
    (List.range d).filterMap fun j =>
      let v := mine.foldl (fun a x => a + x.1 * rowAt x.2 j) 0
      if v = 0 then none else some (j, v)

/-- Gradient of the sum of the terms at x = 0. -/
def gradient (d : Nat) (ts : List Term) : List Rat := ts.foldl (fun g t => rowAdd g t.row (-2 * t.weight * t.target)) (vzero d)

/-- The problem's blocks with the start of R453: x = 0, s = max(f − Cx, S_FLOOR), λ as given. -/
def assemble (r : RangeRec) (d : Nat) (warm : List (List Int)) (ts : List Term) (qs : List Ineq) (dual : List Int)
    (mass : List (List Rat)) (bias : List Rat) (closed : Bool) : Assembled :=
  let h := (hessian d ts).map (storeRow (r.e 0) d)
  let g := storeAll (r.e 1) (gradient d ts)
  let c := qs.map fun q => storeRow (r.e 2) d q.row
  let f := storeAll (r.e 3) (qs.map (·.bound))
  let s := f.1.map fun m => let v := store (r.e 5) (blockValue (r.e 3) m); (max v.1 (r.t 7), v.2)
  { dim := d, warm := warm, hess := h.map (·.1), grad := g.1, rows := c.map (·.1), bound := f.1, slack := s.map (·.1), dual := dual,
    mass := mass, bias := bias, closed := closed,
    saturated := h.any (·.2) || g.2 || c.any (·.2) || f.2 || s.any (·.2) }

/-! ### The iteration (R448 to R452) -/

/-- An iterate, and the flags of the solve so far. -/
structure Iterate where
  x : List Int
  s : List Int
  lam : List Int
  sat : Bool
  piv : Bool
deriving DecidableEq, Repr

/-- Residuals and duality measure of an iterate as they are stored. -/
structure Residuals where
  rd : List Int
  rp : List Int
  mu : Int
  sat : Bool

/-- Cᵀ v. -/
def transposed (d : Nat) (rows : List Row) (v : List Rat) : List Rat :=
  (rows.zip v).foldl (fun a x => rowAdd a x.1 x.2) (vzero d)

/-- The head of the loop (R448). -/
def residuals (r : RangeRec) (a : Assembled) (it : Iterate) : Residuals :=
  let x := values (r.e 4) it.x
  let s := values (r.e 5) it.s
  let l := values (r.e 6) it.lam
  let c := a.rows.map (rowValues (r.e 2))
  let hx := a.hess.map fun h => rowDot (rowValues (r.e 0) h) x
  let rd := storeAll (r.e 11) (vadd (vadd hx (values (r.e 1) a.grad)) (transposed a.dim c l))
  let rp := storeAll (r.e 12) ((c.zip (s.zip a.bound)).map fun y => rowDot y.1 x + y.2.1 - blockValue (r.e 3) y.2.2)
  let m := a.rows.length
  let mu := store (r.e 13) (if m = 0 then 0 else (vmul s l).foldl (· + ·) 0 / (m : Rat))
  ⟨rd.1, rp.1, mu.1, rd.2 || rp.2 || mu.2⟩

/-- The tests at the top of the loop end the solve converged. -/
def Residuals.converged (r : RangeRec) (z : Residuals) : Bool :=
  decide ((normInf z.rd : Int) ≤ r.t 1) && decide ((normInf z.rp : Int) ≤ r.t 0) && decide (z.mu ≤ r.t 2)

/-- The iterate is usable (R456). -/
def Residuals.usable (r : RangeRec) (z : Residuals) : Bool :=
  decide ((normInf z.rp : Int) ≤ r.t 3) && decide ((normInf z.rd : Int) ≤ r.t 4)

/-- A pivot as it is used, its reciprocal, whether it was regularised, and saturation (R451, R452). -/
def pivot (r : RangeRec) (m : Int) : Int × Int × Bool × Bool :=
  let q := recip (r.e 10) (r.e 9) m
  if m ≤ r.t 5 ∨ q.2 = true then
    let p := (m.natAbs : Int) + r.t 6
    let p' := min p 2147483647
    (p', (recip (r.e 10) (r.e 9) p').1, true, decide (2147483647 < p))
  else (m, q.1, false, false)

/-- A factorisation in progress: finished rows of L below the diagonal, pivots and reciprocals, flags. -/
structure Factor where
  l : List (List Rat)
  d : List Rat
  inv : List Rat
  sat : Bool
  piv : Bool

/-- Row `i` of L D Lᵀ from the rows above it (R448, R451). -/
def factorRow (r : RangeRec) (f : Factor) (k : List Rat) (i : Nat) : Factor :=
  let step := fun (acc : List Rat × Bool) (j : Nat) =>
    let lj := nth f.l j []
    let sum := (List.range j).foldl (fun a t => a + nth acc.1 t 0 * nth lj t 0 * nth f.d t 0) 0
    let v := store (r.e 8) ((nth k j 0 - sum) * nth f.inv j 0)
    (acc.1 ++ [blockValue (r.e 8) v.1], acc.2 || v.2)
  let row := (List.range i).foldl step ([], false)
  let sum := (List.range i).foldl (fun a t => a + nth row.1 t 0 * nth row.1 t 0 * nth f.d t 0) 0
  let p0 := store (r.e 9) (nth k i 0 - sum)
  let p := pivot r p0.1
  { l := f.l ++ [row.1], d := f.d ++ [blockValue (r.e 9) p.1], inv := f.inv ++ [blockValue (r.e 10) p.2.1],
    sat := f.sat || row.2 || p0.2 || p.2.2.2, piv := f.piv || p.2.2.1 }

/-- K = L D Lᵀ. -/
def factorise (r : RangeRec) (k : List (List Rat)) : Factor :=
  (k.zipIdx).foldl (fun f x => factorRow r f x.1 x.2) ⟨[], [], [], false, false⟩

/-- Forward substitution L y = b. -/
def forward (l : List (List Rat)) (b : List Rat) : List Rat :=
  (l.zip b).foldl (fun y x => y ++ [x.2 - (vmul x.1 y).foldl (· + ·) 0]) []

/-- Back substitution Lᵀ x = z, each x stored in the step format. -/
def backward (r : RangeRec) (l : List (List Rat)) (z : List Rat) : List Int × Bool :=
  let n := z.length
  ((List.range n).reverse).foldl (fun acc i =>
    let sum := (acc.1.zipIdx).foldl (fun a x => a + nth (nth l (i + 1 + x.2) []) i 0 * blockValue (r.e 14) x.1) 0
    let v := store (r.e 14) (nth z i 0 - sum)
    (v.1 :: acc.1, acc.2 || v.2)) ([], false)

/-- Largest step that keeps a vector non-negative: the least v·(−1/Δ) over the rows that fall, R450 leaving rows out. -/
def stepBound (r : RangeRec) (v : List Rat) (dv : List Int) : Option Rat :=
  (v.zip dv).foldl (fun (b : Option Rat) (x : Rat × Int) =>
    if x.2 < 0 then
      let q := recip (r.e 10) (r.e 14) (-x.2)
      if q.2 then b
      else
        let t := x.1 * blockValue (r.e 10) q.1
        match b with | some y => some (if t < y then t else y) | none => some t
    else b) none

/-- One iteration (R448): quantities that Table 10-13 gives a block are stored in it, all others stay exact. -/
def iterate (r : RangeRec) (a : Assembled) (z : Residuals) (it : Iterate) : Iterate :=
  let c := a.rows.map (rowValues (r.e 2))
  let s := values (r.e 5) it.s
  let l := values (r.e 6) it.lam
  let rs := it.s.map (recip (r.e 10) (r.e 5))
  let rsv := rs.map fun q => blockValue (r.e 10) q.1
  let w := storeAll (r.e 7) (vmul l rsv)
  let wv := values (r.e 7) w.1
  let rp := values (r.e 12) z.rp
  let centre := rsv.map fun q => blockValue (r.e 13) z.mu * q / 8
  let kRows := (List.range a.dim).map fun i =>
    let base := rowAdd (vzero a.dim) (rowValues (r.e 0) (nth a.hess i [])) 1
    (c.zip wv).foldl (fun v x => let k := rowAt x.1 i; if k = 0 then v else rowAdd v x.1 (x.2 * k)) base
  let k := kRows.map (storeAll (r.e 0))
  let f := factorise r (k.map fun x => values (r.e 0) x.1)
  let t := (wv.zip (rp.zip (centre.zip l))).map fun y => y.1 * y.2.1 + y.2.2.1 - y.2.2.2
  let rhs := ((values (r.e 11) z.rd).zip (transposed a.dim c t)).map fun y => -y.1 - y.2
  let dx := backward r f.l (vmul (forward f.l rhs) f.inv)
  let dxv := values (r.e 14) dx.1
  let cdx := c.map fun y => rowDot y dxv
  let ds := storeAll (r.e 14) ((rp.zip cdx).map fun y => -y.1 - y.2)
  let dl := storeAll (r.e 14) ((wv.zip (cdx.zip (rp.zip (centre.zip l)))).map fun y =>
    y.1 * (y.2.1 + y.2.2.1) + y.2.2.2.1 - y.2.2.2.2)
  let theta : Rat := 127 / 128
  let lim := fun (b : Option Rat) (x : Rat) => match b with | some y => if theta * y < x then theta * y else x | none => x
  let alpha := lim (stepBound r l dl.1) (lim (stepBound r s ds.1) 1)
  let move := fun (e : Int) (v : List Int) (d : List Int) =>
    storeAll e ((v.zip d).map fun y => blockValue e y.1 + alpha * blockValue (r.e 14) y.2)
  let x' := move (r.e 4) it.x dx.1
  let s' := move (r.e 5) it.s ds.1
  let l' := move (r.e 6) it.lam dl.1
  { x := x'.1, s := s'.1, lam := l'.1, piv := it.piv || f.piv,
    sat := it.sat || rs.any (·.2) || w.2 || k.any (·.2) || f.sat || dx.2 || ds.2 || dl.2 || x'.2 || s'.2 || l'.2 }

/-- How a run of the loop ended: iterate, its number, converged, capped (else stopped at the given number), usable. -/
structure SolveRun where
  it : Iterate
  count : Nat
  converged : Bool
  capped : Bool
  usable : Bool

/-- The loop (R448, R449): from iterate `count`, with `left` iterations before the cap, stopped after `stop` iterations where one
is given, each boundary's tests applied first (R455). -/
def solveLoop (r : RangeRec) (a : Assembled) (stop : Option Nat) : Nat → Nat → Iterate → SolveRun
  | left, count, it =>
    let z := residuals r a it
    let it := { it with sat := it.sat || z.sat }
    let fin := fun conv cap => SolveRun.mk it count conv cap (conv || z.usable r)
    match left with
    | 0 => fin (z.converged r) (!z.converged r)
    | left + 1 =>
      if z.converged r then fin true false
      else if stop = some count then fin false false
      else solveLoop r a stop left (count + 1) (iterate r a z it)

/-- A solve from its warm start with the cap of Table 10-15. -/
def solve (r : RangeRec) (a : Assembled) (cap : Nat) (stop : Option Nat) : SolveRun :=
  solveLoop r a stop cap 0 ⟨List.replicate a.dim 0, a.slack, a.dual, a.saturated, false⟩

/-- Knots of an iterate: the warm start moved by x, in 2⁻¹⁶ count. -/
def solvedKnots (r : RangeRec) (a : Assembled) (n : Nat) (x : List Int) : List (List Int) :=
  match a.warm with
  | [] => []
  | k0 :: ks =>
    k0 :: (ks.zipIdx.map fun k => k.1.zipIdx.map fun q =>
      q.1 + openRound (blockValue (r.e 4) (nth x (k.2 * n + q.2) 0) * 65536))

end Sys2Proof.Machine
end

