-- ==== Sys2Proof/Machine/WayOps.lean ====
section
/-! DEFINITION. The Waystation: its table, start and stop, completions, gates, delay lists, dispatch
(spec/07_waystation_scheduler.md). -/

namespace Sys2Proof.Machine

/-! ### The Waystation table (R327 to R329) -/

/-- Flows that a table configures, in the order of its entries. -/
def wayFlows (t : Octets) : List Octets := chunks 8 (wayF t) (t.drop 1040)

/-- Gate entries of a table. -/
def wayGates (t : Octets) : List Octets := chunks 8 (wayG t) (t.drop (1040 + 8 * wayF t))

/-- Edges of a table: source and gate. -/
def wayEdges (t : Octets) : List (Nat × Nat) :=
  (chunks 4 (wayE t) (t.drop (1040 + 8 * wayF t + 8 * wayG t))).map fun e => (u16At e 0, u16At e 2)

/-- Tick of delay list `d` in ns. -/
def wayTick (t : Octets) (d : Nat) : Nat := 1000 * u16At t (8 + 2 * d)

/-- Numbers that rise. -/
def rising : List Nat → Bool
  | a :: b :: r => decide (a < b) && rising (b :: r)
  | _ => true

/-- Topological sort: flows that no remaining arc enters are removed with their arcs (R329). -/
def acyclic : Nat → List (Nat × Nat) → Bool
  | 0, arcs => arcs.isEmpty
  | n + 1, arcs =>
    let r := arcs.filter fun a => arcs.any fun b => b.2 == a.1
    if r.length = arcs.length then arcs.isEmpty else acyclic n r

/-- A flow entry within the ranges of Table 07-11. -/
def flowEntryOk (e : Octets) : Bool :=
  inRange 128 1023 (u16At e 0) && field (u8At e 2) 6 3 == 0 && u8At e 3 == 0 && inRange 1 4096 (u16At e 4) &&
    decide (u16At e 6 ≤ 8191)

/-- A gate entry within the ranges of Table 07-11. -/
def gateEntryOk (e : Octets) : Bool :=
  inRange 128 1023 (u16At e 0) && decide (1 ≤ u8At e 2) && field (u8At e 3) 7 2 == 0 && u16At e 6 == 0

/-- The content checks of Table 07-13. -/
def wayTableOk (t : Octets) : Bool :=
  let f := wayF t
  let g := wayG t
  let e := wayE t
  decide (1040 ≤ t.length) && decide (t.length = 1040 + 8 * f + 8 * g + 4 * e) &&
  decide (f ≤ 896) && decide (g ≤ 1024) && decide (e ≤ 4096) && u16At t 6 == 0 &&
  (List.range 4).all (fun d => inRange 1 1000 (u16At t (8 + 2 * d))) &&
  (let flows := wayFlows t
   let gates := wayGates t
   let edges := wayEdges t
   let nums := flows.map fun x => u16At x 0
   let isFlow := fun x => nums.contains x || (fixedFlow x).isSome
   (chunks 2 512 (t.drop 16)).all (fun r =>
      let v := leNat r
      let x := field v 9 0
      field v 12 10 == 0 && (x == 118 || x == 119 || nums.contains x)) &&
   flows.all flowEntryOk && rising nums &&
   decide ((flows.foldl (fun a x => a + u16At x 4) 0) ≤ 3536) &&
   gates.all (fun x => gateEntryOk x && nums.contains (u16At x 0)) &&
   edges.all (fun x => isFlow x.1 && decide (x.2 < g)) &&
   decide edges.Nodup && (List.range g).all (fun i => edges.any fun x => x.2 == i) &&
   acyclic e (edges.map fun x => (x.1, u16At (nth gates x.2 []) 0)))

/-! ### Start and stop -/

/-- A gate at its initial count with its wait counter loaded (R314, R318). -/
def gateLoad (e : Octets) (fired : Nat) (held : Option Item) : Gate :=
  { count := u8At e 2, wait := if u16At e 4 = 0 then none else some (u16At e 4), fired := fired, held := held, late := false }

/-- An engine whose three positions are emptied (R330). -/
def Engine.emptied (e : Engine) : Engine :=
  { e with slot := none, normal := none, urgent := none, inUrgent := false, halted := false, haltDue := false }

/-- START: every entry, list and position empty, gates and wait counters loaded from the table in force (R330). -/
def State.wayStart (s : State) : State :=
  let t := s.obj 0x2010 0
  (s.onWay fun w => { w with queue := [], delayed := [], positions := List.replicate 112 none, finished := [], held := [],
                             table := t, gates := (wayGates t).map fun e => gateLoad e 0 none,
                             ticks := List.replicate 4 s.time.ringNs }).onLe fun l =>
    { l with engines := l.engines.map Engine.emptied }

/-- STOP: queued and held items are discarded (R332). -/
def State.wayStop (s : State) : State :=
  s.onWay fun w => { w with queue := [], delayed := [], held := [], gates := w.gates.map fun g => { g with held := none } }

/-! ### Completions and gates -/

/-- The gates that a flow feeds, in ascending number, which is the order of their Origins (R299). -/
def Waystation.gatesOf (w : Waystation) (flow : Nat) : List Nat :=
  let fed := ((wayEdges w.table).filter fun e => e.1 == flow).map (·.2)
  (List.range (wayG w.table)).filter fun g => fed.contains g

/-- Entry of gate `g` in the table in force. -/
def Waystation.gateEntry (w : Waystation) (g : Nat) : Octets := slice w.table (gateOff w.table g) 8

/-- Gate `g` changed. -/
def State.onGate (s : State) (g : Nat) (f : Gate → Gate) : State :=
  s.onWay fun w => { w with gates := upd w.gates g f }

/-- The item of a gate's firing (R316). -/
def gateItem (target g fired : Nat) (late : Bool) : Item :=
  ⟨target, 0x400 + g, 0xFFFFFFFF, 0, if late then 0x20 else 0, fired, [], 0⟩

/-- One completion counted at gate `g`: at 0 it fires, reloads and posts its item, holds it, or discards it for the one it
holds (R315 to R317, R320). -/
def State.gateCount (s : State) (g : Nat) : State :=
  match s.way.gates[g]? with
  | none => s
  | some x =>
    if x.count > 1 then s.onGate g fun x => { x with count := x.count - 1 }
    else
      let e := s.way.gateEntry g
      let target := u16At e 0
      let fired := (x.fired + 1) % 2 ^ 32
      let it := gateItem target g fired x.late
      match x.held with
      | some h => ((s.onGate g fun _ => gateLoad e fired (some h)).setSticky 0x08).raise 3
      | none =>
        if s.way.hasRoom target then (s.onGate g fun _ => gateLoad e fired none).enqueue it
        else ((s.onGate g fun _ => gateLoad e fired (some it)).setSticky 0x04).raise 0

/-- An item whose completion is reported leaves the Waystation: error status, gates, capacity (R305, R315). While the
Waystation does not run, it is discarded (R332). -/
def State.completed (s : State) (it : Item) (err : Bool) : State :=
  if !s.isRunning .waystation then s.refreshReady
  else
    let s1 := if err then (s.setSticky 0x01).raise 2 else s
    let s2 := if 96 ≤ it.flow ∧ it.flow ≤ 103 then s1.pwmItemDone (it.flow - 96) it.cyc else s1
    ((s2.way.gatesOf it.flow).foldl State.gateCount s2).refreshReady

/-- Position `p` reports its completion (R305). A loop-engine position reports the items its engine has finished, oldest first
(R350); a position that holds no item sends the Waystation into FAULT 0x0102. -/
def State.reportCompletion (s : State) (p : Nat) (err : Bool) : State :=
  match s.way.finished.find? (·.1 == p) with
  | some x =>
    (s.onWay fun w => { w with finished := w.finished.erase x }).completed x.2.1 x.2.2
  | none =>
    match nth s.way.positions p none with
    | none => s.faultActive .waystation 0x0102
    | some it => if p < 48 then s else (s.setPos p none).completed it err

/-- Gate `g` posts the item it holds once its target flow has room (R317). -/
def State.gatePost (s : State) (g : Nat) : State :=
  match s.way.gates[g]? with
  | some x =>
    match x.held with
    | some it => if s.isRunning .waystation && s.way.hasRoom it.flow then (s.onGate g fun x => { x with held := none }).enqueue it else s
    | none => s
  | none => s

/-- The held item that enters next: lowest origin among those whose flow has room; of one source the oldest (R299, R320). -/
def Waystation.nextHeld (w : Waystation) : Option Item :=
  (w.held.filter fun i => w.hasRoom i.flow).foldl
    (fun b i => match b with | some x => if i.origin < x.origin then some i else b | none => some i) none

/-! ### Delay lists -/

/-- Delay list `d` ticks at ring time `t`: due items are released in the order of their posts, then the wait counters of the
gates that use the list count down (R311 to R313, R318). -/
def State.delayTick (s : State) (d t : Nat) : State :=
  let s1 := s.onWay fun w => { w with
    ticks := upd w.ticks d fun _ => t
    delayed := w.delayed.map fun x => if x.list = d then { x with ticks := x.ticks - 1 } else x }
  let due := s1.way.delayed.filter fun x => x.list == d && x.ticks == 0
  let s2 := s1.onWay fun w => { w with delayed := w.delayed.filter fun x => !(x.list == d && x.ticks == 0) }
  let s3 := due.foldl (fun s x => s.enqueueAt (t * 2 / 5) d x.item) s2
  let count := fun (x : Gate × Nat) =>
    if u8At (s3.way.gateEntry x.2) 3 = d then { x.1 with wait := x.1.wait.map fun n => n - 1 } else x.1
  s3.onWay fun w => { w with gates := w.gates.zipIdx.map count }

/-- Gate `g` has waited in vain: EV1, its wait counter stops, its next item is late (R319). -/
def State.gateTimeout (s : State) (g : Nat) : State :=
  match s.way.gates[g]? with
  | some x =>
    if x.wait = some 0 ∧ s.isRunning .waystation = true then
      ((s.onGate g fun x => { x with wait := none, late := true }).setSticky 0x02).raise 1
    else s
  | none => s

/-! ### Dispatch -/

/-- Consumer class of a number 0 to 7 (Table 07-3). -/
def consumerOf : Nat → Consumer
  | 0 => .loopEngine | 1 => .front | 2 => .solver | 3 => .interp | 4 => .voxel | 5 => .separation | 6 => .management
  | _ => .trace

/-- The consumers of a class take items: their function is RUNNING (R338), the management processor is out of reset. -/
def State.consumes (s : State) : Consumer → Bool
  | .loopEngine => s.isRunning .loopEngines | .front => s.isRunning .front | .solver => s.isRunning .solver
  | .interp => s.isRunning .interp | .voxel => s.isRunning .voxel | .separation => s.isRunning .separation
  | .management => s.power.mgmtUp | .trace => s.isRunning .trace

/-- One candidate for dispatch: its place in the queue, its flow's priority, when it became ready, and its item. -/
structure Candidate where
  at_ : Nat
  priority : Nat
  ready : Nat
  item : Item

/-- Candidate `a` goes before `b` (R301). -/
def Candidate.before (a b : Candidate) : Bool :=
  b.priority < a.priority ||
    (a.priority == b.priority && (a.ready < b.ready || (a.ready == b.ready && a.item.flow < b.item.flow)))

/-- A candidate put at its place. -/
def insertCandidate (a : Candidate) : List Candidate → List Candidate
  | [] => [a]
  | b :: r => if a.before b then a :: b :: r else b :: insertCandidate a r

/-- Ready items of a class in the order of R301. -/
def Waystation.candidates (w : Waystation) (c : Consumer) : List Candidate :=
  (w.queue.zipIdx.filterMap fun x =>
    match x.1.ready, flowInfo w.table x.1.item.flow with
    | some t, some i => if i.cls = c then some ⟨x.2, i.priority, t, x.1.item⟩ else none
    | _, _ => none).foldr insertCandidate []

/-- Where an item of a class goes (R302, R306): loop engine and position, or a position. -/
def State.placeFor (s : State) (c : Consumer) (urgent : Bool) : Option (Nat × Nat) :=
  match c with
  | .loopEngine => s.pickEngine urgent
  | _ => ((List.range c.places.2).find? fun i => (nth s.way.positions (c.places.1 + i) none).isNone).map fun i =>
      (c.places.1 + i, 0)

/-- Candidate `x` is urgent and finds no engine (R308). -/
def State.mustWait (s : State) (c : Consumer) (x : Candidate) : Bool :=
  c == .loopEngine && x.priority == 7 && (s.placeFor c true).isNone

/-- The queued items at these places have raised EV5; how many had not before. -/
def Waystation.wait (w : Waystation) (at_ : List Nat) : Waystation × Nat :=
  let fresh := (w.queue.zipIdx.filter fun x => at_.contains x.2 && !x.1.waited).length
  ({ w with queue := w.queue.zipIdx.map fun x => if at_.contains x.2 then { x.1 with waited := true } else x.1 }, fresh)

/-- The first ready item of a class that finds a place enters it (R301, R302, R306). An urgent item for which every engine has
an urgent item in service stays ready and raises EV5 once (R308). Answers the item that went into service, with its buffer read. -/
def State.dispatch (s : State) (c : Consumer) : State × Option Item :=
  if !(s.isRunning .waystation && s.consumes c) then (s, none)
  else
    let cs := s.way.candidates c
    let place := fun (x : Candidate) => s.placeFor c (c == .loopEngine && x.priority == 7)
    let w := s.way.wait ((cs.filter fun x => s.mustWait c x).map (·.at_))
    let s1 := s.onWay fun _ => w.1
    let tell := fun (y : State) => if w.2 = 0 then y else (y.setSticky 0x10).raiseAll (List.replicate w.2 5)
    match cs.find? fun x => (place x).isSome with
    | none => (tell s1, none)
    | some x =>
      match place x with
      | none => (tell s1, none)
      | some p =>
        let s2 := s1.onWay fun w => { w with queue := w.queue.eraseIdx x.at_ }
        let it := s2.fetchItem x.item
        let s3 := match c with | .loopEngine => s2.placeLe x.item p.1 p.2 | _ => s2.setPos p.1 (some it)
        (tell s3.refreshReady, some it)

/-! ### Status objects -/

/-- Free item entries (R290). -/
def Waystation.free (w : Waystation) : Nat :=
  4096 - (w.queue.length + w.delayed.length + (w.positions.filter Option.isSome).length + w.finished.length)

/-- Waystation status 0x2030:00 (Table 07-16). -/
def Waystation.status (w : Waystation) : Nat :=
  w.free <<< 19 ||| ((w.positions.filter Option.isSome).length + w.finished.length) <<< 12 ||| w.sticky

/-- Status of a flow 0x2033:00 (Table 07-20). -/
def Waystation.flowStatus (w : Waystation) (f : Nat) : Nat :=
  let heldGate := w.gates.any fun g => match g.held with | some i => i.flow == f | none => false
  w.waiting f <<< 19 ||| w.inService f <<< 12 ||| b2n (flowInfo w.table f).isSome <<< 1 |||
    b2n (w.held.any (fun i => i.flow == f) || heldGate)

/-- Waystation objects that State computes (R324, Tables 07-15, 07-19). -/
def State.readWay (s : State) (idx sub : Nat) : Option Octets :=
  if idx = 0x2020 then some (toLE 4 (s.way.pend.toNat >>> (32 * (sub - 1))))
  else if idx = 0x2030 then some (toLE 4 s.way.status)
  else if idx = 0x2033 then some (toLE 4 (s.way.flowStatus (s.cfg 0x2032 0)))
  else none

/-- Events raised and sticky bits set in the present control cycle, which a clear in it leaves set (R326, R333). -/
def State.coincident (s : State) : BitVec 512 × Nat :=
  if s.time.ticking = true ∧ s.way.recentCycle = s.controlCycle then (s.way.recentEvents, s.way.recentSticky) else (0#512, 0)

/-- Writes that act on the Waystation at once (R324, R326, R333). -/
def State.applyWay (s : State) (idx v : Nat) : State :=
  let keep := s.coincident
  if idx = 0x2021 then s.onWay fun w => { w with pend := w.pend &&& (~~~ BitVec.ofNat 512 (1 <<< v) ||| keep.1) }
  else if idx = 0x2022 then s.raise v
  else if idx = 0x2031 then s.onWay fun w => { w with sticky := clearBits w.sticky (clearBits v keep.2) }
  else s

end Sys2Proof.Machine
end

