-- ==== Sys2Proof/Machine/PlanOps.lean ====
section
/-! DEFINITION. Planning: boundaries, mailbox commands, guides, speed scaling, assembly and end of a solve, interpolation
(spec/10_planning_solver.md). -/

namespace Sys2Proof.Machine

/-! ### Arms and guides -/

/-- Arm model of arm `a`. -/
def State.armModel (s : State) (a : Nat) : Octets := s.obj (0x5006 + 0x40 * a) 0

/-- Entry of the `i`-th joint of arm `a` in its model (Table 10-4). -/
def State.jointModel (s : State) (a i : Nat) : Octets := slice (s.armModel a) (64 + 96 * i) 96

/-- Planning ratio N in force: the front stage's as it last passed to RUNNING, or as boot loaded it (R16, R141), and horizon H. -/
def State.planRatio (s : State) : Nat := s.plan.ratio
def State.horizon (s : State) : Nat := s.cfg 0x2801 2

/-- Ring time of planning boundary `k` (R423). -/
def State.boundaryAt (s : State) (k : Nat) : Nat := cycleStart (s.period s.boardRing) (k * s.planRatio)

/-- Hold positions of the joints of an arm. -/
def State.holdPoint (s : State) (a : Nat) : List Rat := (s.members a).map fun j => (((s.joint j).holdPos : Int) : Rat)

/-- Path point of a guide (R438): joints move in proportion; a pose moves on a straight line and turns about one axis. -/
def Guide.at (g : Guide) (sigma : Rat) : List Rat :=
  if g.kind = 1 then (g.start.zip g.target).map fun x => x.1 + sigma * (x.2 - x.1)
  else ((placeOf g.start).along (placeOf g.target) sigma).toList

/-- The active motion command of an arm. -/
def State.guideOf (s : State) (a : Nat) : Option Guide := s.plan.guides.find? fun g => bitAt g.mask a

/-- Grasp of an arm in its group, when the group is engaged: 28 octets, else none. -/
def State.graspOf (s : State) (a : Nat) : Octets :=
  match s.groupOf a with
  | some g =>
    if bitAt s.plan.engaged g then
      let i := ((bitsOf 12 (s.groupMask g)).takeWhile (· != a)).length
      slice (s.groupRec g) (28 + 28 * i) 28
    else []
  | none => []

/-- Payload record of an arm's engaged group, else none, and the arm's place in the group. -/
def State.payloadOf (s : State) (a : Nat) : Octets × Nat :=
  match s.groupOf a with
  | some g =>
    if bitAt s.plan.engaged g then (s.groupRec g, ((bitsOf 12 (s.groupMask g)).takeWhile (· != a)).length) else ([], 0)
  | none => ([], 0)

/-- The object's pose from a member's tool pose, and the tool pose from the object's. -/
def State.toObject (s : State) (a : Nat) (p : List Rat) : List Rat :=
  if (s.graspOf a).isEmpty then p else ((placeOf p).comp (placeAt (s.graspOf a) 0)).toList
def State.toTool (s : State) (a : Nat) (p : List Rat) : List Rat :=
  if (s.graspOf a).isEmpty then p else ((placeOf p).comp (placeAt (s.graspOf a) 0).inverse).toList

/-- The guide point of an arm: tool pose or joints, and the point. -/
def State.guidePoint (s : State) (a : Nat) : Bool × List Rat :=
  match s.guideOf a with
  | some g => (g.kind != 1, if g.kind = 3 then s.toTool a (g.at g.sigma) else g.at g.sigma)
  | none => match (s.armPlan a).point with | some x => x | none => (false, s.holdPoint a)

/-- Smallest speed scale of the arms of a mask, each taking the smallest of its group (R440). -/
def State.scaleOf (s : State) (mask : Nat) : Nat :=
  let arms := (bitsOf 12 mask).flatMap fun a => match s.groupOf a with | some g => bitsOf 12 (s.groupMask g) | none => [a]
  arms.foldl (fun m a => min m (s.armPlan a).scale) 65536

/-- A least value over those that are given. -/
def ratMin (l : List Rat) : Option Rat :=
  l.foldl (fun b x => match b with | some y => some (if x < y then x else y) | none => some x) none

/-- V_σ and A_σ of a command (Table 10-10) for an interval of `t` ns; what does not move is left out, and where nothing moves the
path is done at once. -/
def State.pathLimits (s : State) (g : Guide) (t : Nat) : Rat × Rat :=
  let r := (s.mslot g.slot).record
  let speed : Rat := (u16At r 10 : Rat) / 1000
  -- a safety stop request has an acceleration limit of 1 000 per mille (R519)
  let accel : Rat := if (bitsOf 12 g.mask).any fun a => (s.armPlan a).safeStop then 1 else (u16At r 12 : Rat) / 1000
  let ms : Rat := (t : Rat) / 1000000
  let lims : List (Rat × Rat) :=
    if g.kind = 1 then
      let a := (bitsOf 12 g.mask).headD 0
      ((g.start.zip g.target).zipIdx.filterMap fun x =>
        let d := x.1.2 - x.1.1
        let e := s.jointModel a x.2
        if d = 0 then none
        else some (speed * (u32At e 72 : Rat) * ms / d.abs, accel * (u32At e 76 : Rat) * ms * ms / d.abs))
    else
      let from_ := placeOf g.start
      let to_ := placeOf g.target
      let sq := from_.pos.dist2 to_.pos
      let dx := Config.root sq / 100
      let dth := from_.rot.angle to_.rot * Config.pi * 1000
      let sec := ms / 1000
      (if sq = 0 then [] else
        [(speed * (s.cfg 0x2831 5 : Rat) * sec / dx, accel * (s.cfg 0x2831 6 : Rat) * sec * sec / dx)]) ++
      (if dth = 0 then [] else
        [(speed * (s.cfg 0x2831 7 : Rat) * sec / dth, accel * (s.cfg 0x2831 8 : Rat) * sec * sec / dth)])
  match ratMin (lims.map (·.1)), ratMin (lims.map (·.2)) with
  | some v, some a => (v, a)
  | _, _ => (1, 1)

/-- An arm counts as held: by HOLD, by a safety stop request, or while it is STOPPING (R433, R435, R519). -/
def State.armHeld (s : State) (a : Nat) : Bool :=
  (s.armPlan a).held || (s.armPlan a).safeStop || s.fnSt (.arm a) == .stopping

/-- A channel asks for a stop of an arm (R519). -/
def State.stopRequested (s : State) (a : Nat) : Bool :=
  (nth s.saf.chA.arms a ArmSafe.initial).stopReq || (nth s.saf.chB.arms a ArmSafe.initial).stopReq

/-- The path of a guide advanced by one planning cycle (R437): the fall is judged on the path as s stretches it, and at s = 0 the
path does not advance. -/
def State.advanceGuide (s : State) (t : Nat) (g : Guide) : Guide :=
  let l := s.pathLimits g t
  let held := (s.mslot g.slot).cancelled || (bitsOf 12 g.mask).any s.armHeld
  let v : Rat := if held then 0 else l.1
  let scale : Rat := (s.scaleOf g.mask : Rat) / 65536
  let brake := if scale = 0 then v else fallSpeed l.2 ((1 - g.sigma) / scale)
  let want := if brake < v then brake else v
  let up := if g.rate + l.2 < want then g.rate + l.2 else want
  let rate := if up < g.rate - l.2 then g.rate - l.2 else up
  let rate := if rate < 0 then 0 else rate
  let sigma := g.sigma + scale * rate
  { g with rate := rate, sigma := if 1 < sigma then 1 else sigma }

/-- The guide `i` planning cycles on at the current scale (R438). -/
def State.guideAhead (s : State) (t : Nat) (g : Guide) : Nat → Guide
  | 0 => g
  | i + 1 => s.guideAhead t (s.advanceGuide t g) i

/-! ### Speed scaling (R440, R495) -/

/-- The target scale between D_STOP and D_FULL in 2⁻¹⁶, from the quotient's terms (R440). -/
def scaleQuotient (num den : Nat) : Nat := (openRound (mkRat (num * 65536 : Nat) den)).toNat

/-- The scale of an arm at a boundary at ring time `t`. -/
def State.scaleArm (s : State) (t a : Nat) : State :=
  let r := s.sepAt t a
  let stop := 100 * s.cfg 0x2831 1
  let full := 100 * s.cfg 0x2831 2
  let d := if !bitAt r.flags 7 then 0 else if bitAt r.flags 6 then full else r.dist
  let t0 := if d ≤ stop then 0 else if full ≤ d then 65536 else scaleQuotient (d - stop) (full - stop)
  let sat := bitAt r.flags 0 && decide (s.cfg 0x2831 4 < t0)
  let target := if bitAt r.flags 0 then min t0 (s.cfg 0x2831 4) else t0
  let p := s.armPlan a
  let ramp := s.cfg 0x2831 3
  let scale := if p.scale < target then min target (p.scale + ramp) else max target (p.scale - ramp)
  let slowed := decide (target < 65536)
  let s1 := s.onArmPlan a fun p => { p with scale := scale, slowed := slowed, satSlow := sat }
  let s2 := if slowed && !p.slowed then s1.raise 295 else s1
  if sat && !p.satSlow then s2.raise 296 else s2

/-! ### Mailbox commands at a boundary (R431 to R434, R439) -/

/-- Every arm of a mask is at standstill. -/
def State.allStill (s : State) (mask : Nat) : Bool := (bitsOf 12 mask).all s.atStandstill

/-- Target table of a command: octets and size of an entry. -/
def State.targetTable (s : State) (m : MboxSlot) : Octets × Nat :=
  let a := (bitsOf 12 m.mask).headD 0
  if m.kind = 1 then (s.obj (0x5002 + 0x40 * a) 1, 128)
  else if m.kind = 2 then (s.obj (0x5002 + 0x40 * a) 2, 32)
  else match (List.range 6).find? fun g => s.groupMask g == m.mask with
    | some g => (s.obj (0x2850 + g) 0, 32)
    | none => ([], 32)

/-- A pose entry as position and quaternion. -/
def poseOf (e : Octets) : List Rat :=
  ((List.range 3).map fun i => ((i32At e (4 * i) : Int) : Rat)) ++
    (List.range 4).map fun i => ((i32At e (12 + 4 * i) : Int) : Rat) / 2147483648

/-- Target point of a command. -/
def State.targetPoint (s : State) (m : MboxSlot) : List Rat :=
  let t := s.targetTable m
  let e := slice t.1 (t.2 * m.target) t.2
  if m.kind = 1 then
    let a := (bitsOf 12 m.mask).headD 0
    (List.range (s.members a).length).map fun i => ((i64At e (8 * i) : Int) : Rat)
  else poseOf e

/-- The After command of a command is done (R431). -/
def MboxSlot.afterDone (m : MboxSlot) : Bool := m.after == 0 || m.afterEnd == 3

/-- Its After command ended cancelled or rejected (R432). -/
def MboxSlot.afterLost (m : MboxSlot) : Bool := m.after != 0 && (m.afterEnd == 4 || m.afterEnd == 5)

/-- The planner rejects a command that would become active (R432). -/
def State.rejects (s : State) (m : MboxSlot) : Bool :=
  let t := s.targetTable m
  let a := (bitsOf 12 m.mask).headD 0
  let out := m.kind == 1 && ((s.targetPoint m).zipIdx.any fun x =>
    let e := s.jointModel a x.2
    decide (x.1 < (i64At e 56 : Rat)) || decide ((i64At e 64 : Rat) < x.1))
  let coop := match (List.range 6).find? fun g => s.groupMask g == m.mask with
    | some g => !bitAt s.plan.engaged g
    | none => true
  let single := match s.groupOf a with | some g => bitAt s.plan.engaged g | none => false
  decide (t.1.length ≤ t.2 * m.target) || out || (if m.kind = 3 then coop else single) || m.afterLost

/-- Tool position of a guide at a path point: of the arm at joint positions, or of the pose. -/
def State.toolAt (s : State) (g : Guide) (p : List Rat) : Vec :=
  if g.kind = 1 then linkPoint (s.armModel ((bitsOf 12 g.mask).headD 0)) p 17 Vec.zero else vecOf p

/-- The remaining tool distance of an active command is no more than its blend radius of `r` tenths of a millimetre (R439). -/
def State.withinBlend (s : State) (g : Guide) (r : Nat) : Bool :=
  let d := (s.toolAt g (g.at g.sigma)).dist2 (s.toolAt g g.target)
  decide (0 < r) && decide (d ≤ ((10 * r) * (10 * r) : Nat))

/-- Positions of an arm's joints at knot 0 of the plan in use, else its hold positions. -/
def State.plannedPoint (s : State) (a : Nat) : List Rat :=
  let r := s.armSlice a
  match (s.problem (s.problemOf a)).knots with
  | k :: _ => ((k.drop r.1).take r.2).map fun (x : Int) => (x : Rat) / 65536
  | [] => s.holdPoint a

/-- The current guide point of an arm as a path of a kind starts from it (R437): joints, the tool pose, or the object pose. -/
def State.startPoint (s : State) (kind a : Nat) : List Rat :=
  let p := s.guidePoint a
  if kind = 1 then (if p.1 then Config.jointPoint (s.armModel a) p.2 (s.plannedPoint a) else p.2)
  else
    let tool := if p.1 then p.2 else (toolPose (s.armModel a) [] p.2).toList
    if kind = 3 then s.toObject a tool else tool

/-- A command becomes active with its start at the current guide point. -/
def State.activate (s : State) (i : Nat) (m : MboxSlot) : State :=
  let a := (bitsOf 12 m.mask).headD 0
  let g : Guide :=
    { slot := i, kind := m.kind, mask := m.mask, start := s.startPoint m.kind a, target := s.targetPoint m, sigma := 0, rate := 0 }
  (s.onSlotM i fun m => { m with st := 2 }).onPlan fun p => { p with guides := p.guides ++ [g] }

/-- A motion command that has taken effect becomes active, blends from the active one, is rejected, or waits (R431, R432, R439). -/
def State.tryActivate (s : State) (k i : Nat) : State :=
  let m := s.mslot i
  if m.st != 1 || decide (k < m.effect) then s
  else
    let rivals := (List.range 64).filter fun j =>
      let x := s.mslot j
      x.open && x.motion && decide (x.order < m.order) && (x.mask &&& m.mask) != 0
    let blends := match rivals with
      | [j] => (match s.plan.guides.find? (·.slot == j) with
        | some g => if !(s.mslot j).cancelled && s.withinBlend g (u16At (s.mslot j).record 14) then some j else none
        | none => none)
      | _ => none
    let ready := (rivals.isEmpty || blends.isSome) && (bitsOf 12 m.mask).all fun a => s.isRunning (.arm a)
    if !ready || !(m.afterDone || m.afterLost) then s
    else if s.rejects m then s.slotEnd i 5
    else
      let s1 := s.activate i m
      match blends with
      | some j => s1.slotEnd j 3
      | none => s1

/-- A CANCEL in slot `i` takes effect (R433, R434): a queued command is cancelled at once, an active one is marked, and the CANCEL
is done once the command that it names has ended. -/
def State.cancelEffect (s : State) (i : Nat) : State :=
  let m := s.mslot i
  let s1 := s.onSlotM i fun m => { m with st := 2 }
  if m.afterEnd ≠ 0 then s1
  else
    match s.slotOf m.after with
    | none => s1.onSlotM i fun m => { m with afterEnd := 3 }
    | some j => if (s.mslot j).st = 1 then s1.slotEnd j 4 else s1.onSlotM j fun n => { n with cancelled := true }

/-- HOLD, RESUME and CANCEL take effect (R433, R434). -/
def State.takeEffect (s : State) (i : Nat) : State :=
  let m := s.mslot i
  let hold := fun (h : Bool) => (bitsOf 12 m.mask).foldl (fun s a => s.onArmPlan a fun p => { p with held := h }) s
  if m.kind = 4 then (hold true).onSlotM i fun m => { m with st := 2 }
  else if m.kind = 5 then (hold false).slotEnd i 3
  else s.cancelEffect i

/-- An active command that ends at a boundary: a cancelled one at standstill of its arms, else a motion command at σ = 1 or a HOLD
at that standstill, a CANCEL whose command has ended (R433, R434, R439). -/
def State.endActive (s : State) (i : Nat) : State :=
  let m := s.mslot i
  let still := s.allStill m.mask
  if m.st != 2 then s
  else if m.kind = 6 ∧ m.afterEnd ≠ 0 then s.slotEnd i 3
  else if m.cancelled then (if still then s.slotEnd i 4 else s)
  else if m.kind = 4 then (if still then s.slotEnd i 3 else s)
  else if (s.plan.guides.any fun g => g.slot == i && g.sigma == 1) && still then s.slotEnd i 3
  else s

/-- The guide points that arms keep when their commands end. -/
def State.keepPoints (s : State) : State :=
  (List.range 12).foldl (fun s a =>
    match s.guideOf a with
    | some _ => let p := s.guidePoint a; s.onArmPlan a fun x => { x with point := some p }
    | none => s) s

/-- The command in slot `i` at boundary `k`, and those active commands that end with its effect. -/
def State.commandDue (s : State) (k i : Nat) : State :=
  let m := s.mslot i
  if m.st != 1 || decide (k < m.effect) then s
  else if m.motion then s.tryActivate k i
  else let s1 := s.takeEffect i; s1.slotsInOrder.foldl State.endActive s1

/-- The planner's work at boundary `k` at ring time `t`, for a planning cycle of `len` ns: scales, commands that have ended, every
command that has taken effect in the order of acceptance (R152), the advance of the guides. -/
def State.plannerBoundary (s : State) (k t len : Nat) : State :=
  let s0 := (List.range 12).foldl (fun s a => s.onArmPlan a fun p => { p with safeStop := s.stopRequested a }) s
  let s1 := (List.range 12).foldl (fun s a => if (s.members a).isEmpty then s else s.scaleArm t a) s0
  let order := s1.slotsInOrder
  let s2 := order.foldl State.endActive s1
  let s3 := order.foldl (fun s i => s.commandDue k i) s2
  (s3.onPlan fun p => { p with guides := p.guides.map (s3.advanceGuide len) }).keepPoints

/-! ### Planning boundary (R423 to R425, R428, R429, R465) -/

/-- A problem is to be solved: it exists and every arm is STARTING, RUNNING or STOPPING (R429). -/
def State.solvable (s : State) (a : Nat) : Bool :=
  !(s.problemJoints a).isEmpty &&
    (s.problemArms a).all fun b => s.isActive (.arm b) || s.fnSt (.arm b) == .stopping

/-- What the Waystation copies into the buffer of the item on flow 112 at a boundary at ring time `t` (R425): the position of every
joint from the publication of the last cycle of its ring that has ended by then. -/
def State.boundaryPositions (s : State) (t : Nat) : List Int :=
  (List.range 96).map fun j => s.pubPosition j (cycleAt (s.period (s.ringOf j)) t + 3)

/-- A problem at a boundary: its plan is that of the previous cycle from now on, and it is to be solved or not. -/
def Problem.atBoundary (p : Problem) (due : Bool) : Problem :=
  if due then { p with due := true, asm := none, before := p.knots, currentBefore := p.current }
  else { Problem.initial with
    fallback := p.fallback, ending := p.ending, iter := p.iter, rangeSat := p.rangeSat, pivotReg := p.pivotReg }

/-- Planning boundary `k` takes place (R38, R425). -/
def State.boundary (s : State) (k : Nat) : State :=
  let t := s.boundaryAt k
  let len := s.boundaryAt (k + 1) - t
  let s1 := (s.onPlan fun p => { p with
      cycle := k
      boundary := some k
      engaged := maskOf ((List.range 6).filter fun g => s.cfg 0x2841 (g + 1) == 1) }).onSensors
    fun x => { x with derateInForce := x.derate }
  let s2 := if s1.fnSt .interp = .starting then s1.setFn .interp .running else s1
  -- arms whose first segment is in force (R465)
  let s3 := (List.range 12).foldl (fun s a =>
    if s.fnSt (.arm a) = .starting ∧ ((s.problem (s.problemOf a)).segs.any fun g => g.cycle == k) = true then
      s.setFn (.arm a) .running
    else s) s2
  let s4 := if s3.isRunning .planner then s3.plannerBoundary k t len else s3
  if !s4.isRunning .front then s4
  else
    let due := fun a => s4.isRunning .solver && s4.solvable a
    let b := s4.planningBuffer
    let d := b.2.draw
    let s5 := d.2.onPlan fun p =>
      { p with
        latched := some ⟨k, len, d.1 % 2 ^ 32⟩, solving := (List.range 12).any due,
        problems := p.problems.zipIdx.map fun x => x.1.atBoundary (due x.2) }
    s5.post ⟨112, 0x10010, b.1, 768, 0, d.1 % 2 ^ 32, positionOctets (s4.boundaryPositions t), 0⟩

/-! ### Assembly (R441 to R444) -/

/-- Range record of the problem named by arm `a`. -/
def State.range (s : State) (a : Nat) : RangeRec := rangeRec (s.obj 0x2812 0) a

/-- A plan shifted by one knot, its last knot repeated (R453). -/
def shiftKnots (k : List (List Int)) : List (List Int) :=
  match k with
  | [] => []
  | _ :: r => r ++ [r.getLastD []]

/-- Warm-start knots of a problem with `h` knots (R453): the shifted plan, or from hold positions along the guide. -/
def State.warmKnots (s : State) (a h len : Nat) : List (List Int) :=
  let p := s.problem a
  if p.solved then shiftKnots p.knots
  else
    (List.range (h + 1)).map fun i => (s.problemArms a).flatMap fun b =>
      let q := match s.guideOf b with
        | some g => if i = 0 ∨ g.kind ≠ 1 then s.holdPoint b else (s.guideAhead len g i).at (s.guideAhead len g i).sigma
        | none => s.holdPoint b
      q.map fun x => openRound (x * 65536)

/-- Coefficients of v_i and a_i on knots, for horizon `h` (the definitions before R441). -/
def velRow (h i : Nat) : List (Nat × Rat) := if i < h then [(i + 1, 1 / 2), (i - 1, -1 / 2)] else [(i, 1), (i - 1, -1)]
def accRow (h i : Nat) : List (Nat × Rat) :=
  if i < h then [(i + 1, 1), (i, -2), (i - 1, 1)]
  else [(i - 2, Config.lastAcceleration.1), (i - 1, Config.lastAcceleration.2.1), (i, Config.lastAcceleration.2.2)]

/-- The row over unknowns of a combination of knots of joint `j` among `n`; knot 0 is fixed. -/
def knotRow (n j : Nat) (l : List (Nat × Rat)) : Row :=
  l.filterMap fun x => if x.1 = 0 then none else some ((x.1 - 1) * n + j, x.2)

/-- Its value at given knots in counts. -/
def knotValue (q : List (List Rat)) (j : Nat) (l : List (Nat × Rat)) : Rat :=
  l.foldl (fun a x => a + x.2 * nth (nth q x.1 []) j 0) 0

/-- Capsules of an arm. -/
def State.armCapsules (s : State) (a : Nat) : List Nat :=
  (List.range 192).filter fun c => u8At (s.capsule c) 0 == a && decide (u8At (s.capsule c) 1 ≤ 17)

/-- Ends of a capsule at given joint positions of its arm. -/
def State.capsuleEnds (s : State) (a c : Nat) (q : List Rat) : List Rat :=
  let e := s.capsule c
  s.capsulePoint a q (u8At e 1) e 4 ++ s.capsulePoint a q (u8At e 1) e 16

/-- Positions in counts of an arm at latched positions of all joints. -/
def State.latchedAt (s : State) (pos : List Int) (a : Nat) : List Rat :=
  (s.members a).map fun j => ((nth pos j 0 : Int) : Rat)

/-- Positions in counts of an arm at knot `i` of its problem's plan of the previous planning cycle, else as latched (R441). -/
def State.planAt (s : State) (pos : List Int) (b i : Nat) : List Rat :=
  let r := s.armSlice b
  match (s.problem (s.problemOf b)).before[i]? with
  | some k => ((k.drop r.1).take r.2).map fun (x : Int) => (x : Rat) / 65536
  | none => s.latchedAt pos b

/-- A candidate pair for a separation row: distance at knot 0, pair number, own arm and capsule, other arm and capsule. -/
structure CapsulePair where
  dist : Rat
  num : Nat
  own : Nat × Nat
  other : Nat × Nat

/-- A pair put at its place: rising distance, ties to the lower number (R443). -/
def insertPair (x : CapsulePair) : List CapsulePair → List CapsulePair
  | [] => [x]
  | y :: r => if x.dist < y.dist ∨ (x.dist = y.dist ∧ x.num < y.num) then x :: y :: r else y :: insertPair x r

/-- The `n` capsule pairs nearest at knot 0 between a problem and the arms of others (R443). -/
def State.nearestPairs (s : State) (pos : List Int) (a n : Nat) (own : Nat → Nat → List Rat) : List CapsulePair :=
  let mine := s.problemArms a
  let others := (List.range 12).filter fun b => !mine.contains b && !(s.members b).isEmpty
  let radius := fun c => (u32At (s.capsule c) 28 : Rat)
  let pairs := mine.flatMap fun b => (s.armCapsules b).flatMap fun c => others.flatMap fun b' => (s.armCapsules b').map fun c' =>
    let d := segmentDistance (s.capsuleEnds b c (own b 0)) (s.capsuleEnds b' c' (s.planAt pos b' 1)) - radius c - radius c'
    CapsulePair.mk d (192 * min c c' + max c c') (b, c) (b', c')
  (pairs.foldr insertPair []).take n

/-- What an arm is to follow at knot `i` of a cycle of `len` ns (R438): a pose or joints, the point as the problem's rows take it (of
the carried object in an engaged group). -/
def State.guideAtKnot (s : State) (a len i : Nat) : Bool × List Rat :=
  let p := match s.guideOf a with
    | some g =>
      let x := s.guideAhead len g i
      (g.kind != 1, if g.kind = 3 then s.toTool a (x.at x.sigma) else x.at x.sigma)
    | none => s.guidePoint a
  if p.1 then (true, s.toObject a p.2) else p

/-- The problem named by arm `a` as the front stage writes it, with the positions of the item on flow 112. -/
def State.assembleProblem (s : State) (a : Nat) (l : Latched) (pos : List Int) : Assembled :=
  let r := s.range a
  let h := s.horizon
  let n := (s.problemJoints a).length
  let arms := s.problemArms a
  let warm := s.warmKnots a h l.interval
  let q := warm.map fun k => k.map fun (x : Int) => (x : Rat) / 65536
  let w := fun i => blockValue (r.e 0) (r.t i)
  let ms : Rat := (l.interval : Rat) / 1000000
  let off := fun b => (s.armSlice b).1
  let cnt := fun b => (s.armSlice b).2
  let own := fun b i => ((nth q i []).drop (off b)).take (cnt b)
  let latched := s.latchedAt pos
  let knots := (List.range h).map (· + 1)
  let colsOf := fun (i b : Nat) (row : List Rat) => row.zipIdx.map fun x => ((i - 1) * n + off b + x.2, x.1)
  -- the objective
  let track := knots.flatMap fun i => arms.flatMap fun b =>
    let pt := s.guideAtKnot b l.interval i
    if pt.1 then
      if (s.graspOf b).isEmpty || arms.headD 0 == b then
        let e := (placeOf pt.2).error (toolPose (s.armModel b) (s.graspOf b) (own b i))
        ((poseJacobian (s.armModel b) (s.graspOf b) (latched b)).zip e).map fun x => Term.mk (w 10) (colsOf i b x.1) x.2
      else []
    else
      (List.range (cnt b)).map fun j => Term.mk (w 9) [((i - 1) * n + off b + j, 1)] (nth pt.2 j 0 - nth (own b i) j 0)
  let smooth := knots.flatMap fun i => (List.range n).map fun j =>
    Term.mk (w 11) (knotRow n j (accRow h i)) (-knotValue q j (accRow h i))
  let closed := arms.length > 1 && !(s.graspOf (arms.headD 0)).isEmpty
  let chain := if !closed then [] else knots.flatMap fun i => (arms.drop 1).flatMap fun b =>
    let b0 := arms.headD 0
    let e := (toolPose (s.armModel b0) (s.graspOf b0) (own b0 i)).error (toolPose (s.armModel b) (s.graspOf b) (own b i))
    let j0 := poseJacobian (s.armModel b0) (s.graspOf b0) (latched b0)
    let j1 := poseJacobian (s.armModel b) (s.graspOf b) (latched b)
    ((j1.zip j0).zip e).map fun x => Term.mk (w 12) (colsOf i b x.1.1 ++ colsOf i b0 (x.1.2.map fun y => -y)) x.2
  -- the inequality rows, knot by knot
  let both := fun (row : Row) (v lim : Rat) => [Ineq.mk row (lim - v), Ineq.mk (row.map fun x => (x.1, -x.2)) (lim + v)]
  let mass := fun b => massMatrix (s.armModel b) (s.payloadOf b).1 (s.payloadOf b).2 (latched b) l.interval
  let bias := fun b => biasTorque (s.armModel b) (s.payloadOf b).1 (s.payloadOf b).2 (latched b)
  let pairs := s.nearestPairs pos a r.s own
  -- an unused row holds whatever the deviation; its bound lies within the formats of f and s (assumption log 72)
  let inactive := Ineq.mk [] (pow2 (min (r.e 3) (r.e 5) - 1))
  let rows := knots.flatMap fun i =>
    (arms.flatMap fun b => (List.range (cnt b)).flatMap fun j =>
      let e := s.jointModel b j
      let col := off b + j
      let qi := nth (own b i) j 0
      let tau := (nth (mass b) j []).zipIdx.flatMap fun x => (knotRow n (off b + x.2) (accRow h i)).map fun y => (y.1, x.1 * y.2)
      let tauV := (nth (mass b) j []).zipIdx.foldl (fun t x => t + x.1 * knotValue q (off b + x.2) (accRow h i)) 0 + nth (bias b) j 0
      [Ineq.mk [((i - 1) * n + col, 1)] ((i64At e 64 : Rat) - qi), Ineq.mk [((i - 1) * n + col, -1)] (qi - (i64At e 56 : Rat))] ++
      both (knotRow n col (velRow h i)) (knotValue q col (velRow h i)) ((u32At e 72 : Rat) * ms) ++
      both (knotRow n col (accRow h i)) (knotValue q col (accRow h i)) ((u32At e 76 : Rat) * ms * ms) ++
      both tau tauV (u32At e 80 : Rat)) ++
    (List.range r.s).map fun x =>
      match pairs[x]? with
      | none => inactive
      | some p =>
        let ends := s.capsuleEnds p.own.1 p.own.2 (own p.own.1 i)
        let other := s.capsuleEnds p.other.1 p.other.2 (s.planAt pos p.other.1 (min (i + 1) h))
        let d := segmentDistance ends other - (u32At (s.capsule p.own.2) 28 : Rat) - (u32At (s.capsule p.other.2) 28 : Rat)
        let nj := separationRow (s.armModel p.own.1) (latched p.own.1) (u8At (s.capsule p.own.2) 1) ends other
        Ineq.mk (colsOf i p.own.1 (nj.map fun y => -y)) (d - Config.separationMinimum)
  let p := s.problem a
  let per := 8 * n + r.s
  let dual := if p.solved ∧ p.dual.length = h * per then
      let x := p.dual.drop per
      (x ++ x.drop (x.length - per)).map fun m => max m (r.t 8)
    else List.replicate (h * per) (r.t 8)
  let block := arms.flatMap fun b => (mass b).map fun row =>
    List.replicate (off b) 0 ++ row ++ List.replicate (n - off b - cnt b) 0
  assemble r (n * h) warm (track ++ smooth ++ chain) rows dual block (arms.flatMap bias) closed

/-- The front stage has assembled the problem named by arm `a` (R424, R444). -/
def State.assemblyDone (s : State) (a : Nat) : State :=
  match s.plan.latched with
  | some l =>
    let p := s.problem a
    match s.serving .front (fun i => i.flow == 112 && i.tag == l.tag) with
    | none => s
    | some it =>
    if p.due && p.asm.isNone && s.isRunning .front then
      let x := s.assembleProblem a l (octetPositions it.payload)
      let s1 := s.onProblem a fun p => { p with asm := some x, closed := x.closed }
      let s2 := if x.saturated then s1.raise 291 else s1
      let b := s2.planningBuffer
      let d := b.2.draw
      d.2.post ⟨113, 0x10011, b.1, 2, 0, d.1 % 2 ^ 32, toLE 2 a, 0⟩
    else s
  | none => s

/-! ### End of a solve (R454 to R458) -/

/-- A current in Q23 from a torque and the torque constant (R459). -/
def torqueCurrent (tau : Rat) (const : Nat) : Int := satSigned 24 (openRound (tau / (const : Rat) * 8388608))

/-- Currents of a problem's joints at knots 1 and 2 of a plan (R459). -/
def State.knotCurrents (s : State) (a : Nat) (x : Assembled) (k : List (List Int)) : List Int :=
  let consts := (s.problemArms a).flatMap fun b => (List.range (s.members b).length).map fun i => u32At (s.jointModel b i) 52
  let q := k.map fun l => l.map fun (y : Int) => (y : Rat) / 65536
  (List.range 2).flatMap fun i =>
    consts.zipIdx.map fun c =>
      let tau := (nth x.mass c.2 []).zipIdx.foldl (fun t m => t + m.1 * knotValue q m.2 (accRow (k.length - 1) (i + 1))) 0
      torqueCurrent (tau + nth x.bias c.2 0) c.1

/-- After the last problem of the cycle an item goes to flow 114 (R424). -/
def State.solvesEnded (s : State) : State :=
  if s.plan.solving && s.plan.problems.all (fun p => !p.due) then
    let s1 := s.onPlan fun p => { p with solving := false }
    let b := s1.planningBuffer
    let d := b.2.draw
    d.2.post ⟨114, 0x10012, b.1, 0, 0, d.1 % 2 ^ 32, [], 0⟩
  else s

/-- The segment in force at the boundary before planning cycle `k`, whose knot-1 values start the next one (R459). -/
def State.segmentBefore (s : State) (a k : Nat) : Option Segment := (s.problem a).segs.find? fun g => g.cycle + 1 == k

/-- v_0 of a plan accepted in planning cycle `k` (R436, R459). -/
def State.startSpeed (s : State) (a k : Nat) : List Int :=
  match s.segmentBefore a (k + 1) with
  | some g => g.v1
  | none => List.replicate (s.problemJoints a).length 0

/-- The current at knot 2 stands at knots 1 and 2 of a plan that is shifted. -/
def shiftCurrents (l : List Int) : List Int := l.drop (l.length / 2) ++ l.drop (l.length / 2)

/-- A plan that the front stage has not assembled is the warm start in this cycle (R457). -/
def Problem.takeWarm (p : Problem) (warm : List (List Int)) : Problem :=
  if warm.isEmpty then p else { p with knots := warm, current := shiftCurrents p.current }

/-- The shifted plan is used (R457, R458). -/
def State.fallBack (s : State) (a : Nat) (warm : List (List Int)) : State :=
  let p := s.problem a
  let n := s.plan.fallbacks
  let s1 := s.onProblem a fun p => { p.takeWarm warm with fallback := true, falls := p.falls + 1 }
  let s2 := s1.onPlan fun p => { p with fallbacks := stick 32 (n + 1) }
  let s3 := (s2.record 0x0040 0 (toLE 1 a)).raise 289
  let s4 := if n + 1 = 0xFFFFFFFF then s3.raise 290 else s3
  if p.falls + 1 = s.cfg 0x2811 3 then (s4.raise 297).faultActive .planner 0x0102 else s4

/-- The solve of the problem named by arm `a` ends: of itself, or after `stop` iterations at the deadline (R35). -/
def State.solveEnds (s : State) (a : Nat) (stop : Option Nat) : State :=
  let p := s.problem a
  let r := s.range a
  match p.asm with
  | none => s
  | some x =>
    let run := solve r x (s.cfg 0x2811 2) stop
    let deadline := !run.converged && !run.capped
    let k := if run.usable then solvedKnots r x (s.problemJoints a).length run.it.x else x.warm
    let ending := if run.converged then 0 else if run.usable then (if deadline then 2 else 1) else if deadline then 4 else 3
    let s1 := s.onProblem a fun p =>
      { p with
        due := false, valid := true, solved := true, knots := k, v0 := s.startSpeed a s.plan.cycle, dual := if run.usable then run.it.lam else x.dual,
        iter := run.count, ending := ending, fallback := false, rangeSat := run.it.sat, pivotReg := run.it.piv,
        falls := if run.usable then 0 else p.falls }
    let s2 := s1.onProblem a fun p => { p with current := s1.knotCurrents a x k }
    let s3 := if run.it.sat && !x.saturated then s2.raise 291 else s2
    let s4 := if deadline then s3.raise 288 else s3
    (if run.usable then s4 else s4.fallBack a []).solvesEnded

/-- SOLVE_END: the problem's item is in service and its loop ends by its own tests. -/
def State.solveEnd (s : State) (a : Nat) : State :=
  if (s.problem a).due && s.isRunning .solver && (s.serving .solver fun i => i.flow == 113 && u16At i.payload 0 == a).isSome then
    s.solveEnds a none
  else s

/-- SOLVER_DEADLINE with `count` iterates accepted: every problem that is still due ends on its last iterate; one that has not
been assembled has none and falls back (R454 to R457). -/
def State.solveDeadline (s : State) (a count : Nat) : State :=
  let p := s.problem a
  if !(p.due && s.isRunning .solver) then s
  else
    match p.asm, s.plan.latched with
    | some _, _ => s.solveEnds a (some count)
    | none, some l =>
      let warm := s.warmKnots a s.horizon l.interval
      let s1 := s.onProblem a fun p => { p with due := false, valid := true, solved := true, v0 := s.startSpeed a s.plan.cycle, iter := 0, ending := 4 }
      ((s1.raise 288).fallBack a warm).solvesEnded
    | none, none => s

/-! ### Interpolation (R459 to R462) -/

/-- The segment of a problem for planning cycle `k` between knots `i` and `i + 1` of its plan. -/
def State.segmentOf (s : State) (a k : Nat) : Segment :=
  let p := s.problem a
  let n := (s.problemJoints a).length
  let z := List.replicate n (0 : Int)
  let knot := fun i => nth p.knots i z
  let vel := ((knot 2).zip (knot 0)).map fun x => x.1 - x.2
  let hold := (s.problemArms a).flatMap fun b => (s.holdPoint b).map fun x => openRound (x * 65536)
  let cur := p.current.take n
  match s.segmentBefore a k with
  | some g => ⟨k, g.q1, g.v1, g.i1, knot 1, vel, cur, p.fallback⟩
  | none => ⟨k, hold, z, z, knot 1, vel, cur, p.fallback⟩

/-- The interpolator writes the segments that take force at the next boundary (R424, R459). -/
def State.writeSegments (s : State) : State :=
  match s.plan.latched with
  | some l =>
    if s.isRunning .interp && !s.plan.solving && (s.serving .interp (·.flow == 114)).isSome then
      (List.range 12).foldl (fun s a =>
        let p := s.problem a
        if p.valid && p.solved && !(p.segs.any fun g => g.cycle == l.cycle + 1) then
          let g := s.segmentOf a (l.cycle + 1)
          s.onProblem a fun p => { p with segs := g :: p.segs.take 3 }
        else s) s
    else s
  | none => s

/-- The segment for planning cycle `k` between knots 1 and 2 of the plan in force, when none has been written (R462): that plan is the
one of the planning cycle before `k`'s own, which the boundary between them has set aside. -/
def State.lateSegment (s : State) (a k : Nat) : Option Segment :=
  let p := s.problem a
  match s.segmentBefore a k with
  | none => none
  | some g =>
    let n := g.q1.length
    let knot := fun i => nth p.before i (List.replicate n 0)
    some ⟨k, g.q1, g.v1, g.i1, knot 2, ((knot 3).zip (knot 1)).map fun x => x.1 - x.2, p.currentBefore.drop n, g.fallback⟩

/-- A basis value rounded to Q31 (R460); the value 1 lies one step above the format. -/
def toBasis (x : Rat) : Rat :=
  let m := ratRound (x * 2147483648)
  (if m = 2147483648 ∧ Config.basisSaturates = true then 2147483647 else m : Rat) / 2147483648

/-- A multiple of 2⁻³¹ nearest to a value. -/
def toQ31 (x : Rat) : Rat := (ratRound (x * 2147483648) : Rat) / 2147483648

/-- r on a segment at u, for joint `i` of the problem: a whole count (R460). -/
def Segment.r (g : Segment) (i : Nat) (u : Rat) : Int :=
  let v := fun (l : List Int) (k : Rat) => ((nth l i 0 : Int) : Rat) / k
  ratRound (toBasis (2 * u * u * u - 3 * u * u + 1) * v g.q0 65536 + toBasis (u * u * u - 2 * u * u + u) * v g.v0 131072 +
    toBasis (3 * u * u - 2 * u * u * u) * v g.q1 65536 + toBasis (u * u * u - u * u) * v g.v1 131072)

/-- Words 0–6 of the reference slot of a joint for cycle `c` (Table 10-17), on its segment or none. -/
def State.refWords (s : State) (b i j c : Nat) (seg : Option Segment) : List Nat :=
  let n := s.ringOf j
  let p := s.period n
  let ok := s.isActive (.arm b)
  match seg with
  | some g =>
    if !ok then [0, 0, 0, 0, 0, 0, c % 2 ^ 24]
    else
      let t0 := s.boundaryAt g.cycle
      let len : Rat := ((s.boundaryAt (g.cycle + 1) - t0 : Nat) : Rat)
      let u := fun x => toQ31 ((((cycleStart p x : Nat) : Rat) - (t0 : Rat)) / len)
      let k := (s.armSlice b).1 + i
      let r := g.r k (u c)
      let d := g.r k (u (c + 1)) - r
      let vff := satSigned 24 (d / 2 ^ (u8At (s.jointModel b i) 1))
      let iff := satSigned 24 (openRound (((nth g.i0 k 0 : Int) : Rat) + u c * ((nth g.i1 k 0 - nth g.i0 k 0 : Int) : Rat)))
      let w := ofSigned 64 r
      [w / 256 % 2 ^ 24, ofSigned 24 vff, ofSigned 24 iff, w % 2 ^ 24, w / 2 ^ 24 % 2 ^ 24, 1 ||| b2n g.fallback <<< 1, c % 2 ^ 24]
  | none => [0, 0, 0, 0, 0, 0, c % 2 ^ 24]

/-- A reference that the planner supplies is the joint's hold position until another is (R388). -/
def State.refSupplied (s : State) (j : Nat) (w : List Nat) : State :=
  if bitAt (nth w 5 0) 0 then s.onJoint j fun x => { x with holdPos := toSigned 48 (nth w 3 0 + nth w 4 0 * 2 ^ 24) } else s

/-- Segments that are missing for planning cycle `k` at the first write for it are those of R462, with EV292. -/
def State.lateSegments (s : State) (k : Nat) : State :=
  let step := fun (acc : State × Bool) (a : Nat) =>
    let p := acc.1.problem a
    if (p.segs.any fun g => g.cycle == k) || !(s.problemArms a).any (fun b => s.isActive (.arm b)) then acc
    else
      match acc.1.lateSegment a k with
      | some g => (acc.1.onProblem a fun p => { p with segs := g :: p.segs.take 3 }, true)
      | none => acc
  let r := (List.range 12).foldl step (s, false)
  if r.2 then r.1.raise 292 else r.1

/-- Planning cycle that contains a ring time. -/
def State.planningCycleAt (s : State) (t : Nat) : Nat :=
  let base := t / (max 1 (s.boundaryAt 1))
  ([base + 1, base, base - 1].find? fun k => decide (s.boundaryAt k ≤ t)).getD base

/-- Words 0–6 of the reference slots of the joints of ring `n` for its cycle `c`, by joint (Table 10-17). -/
def State.refSlots (s : State) (n c : Nat) : List (Nat × List Nat) :=
  let k := s.planningCycleAt (cycleStart (s.period n) c)
  (List.range 12).flatMap fun b =>
    let seg := (s.problem (s.problemOf b)).segs.find? fun g => g.cycle == k
    ((s.members b).zipIdx.filter fun x => s.ringOf x.1 == n).map fun x => (x.1, s.refWords b x.2 x.1 c seg)

/-- The Waystation writes a reference slot, read from the interpolator's buffer at `at_`, into bank c mod 4 (R461). -/
def State.bankWrite (s : State) (c at_ j : Nat) : State :=
  let w := (chunks 4 7 (s.bazOctets at_ 28)).map leNat
  let put := fun (m : Words) => w.zipIdx.foldl (fun m y => wordPut m (0x800 + 16 * j + y.2) y.1) m
  (s.onLe fun l => { l with refs := upd l.refs (c % 4) put }).refSupplied j w

/-- The reference slots of cycle `c` of ring `n` (R32, R461): the interpolator writes them into a Bazaar buffer, four octets a word
(assumption log 72), and the Waystation writes them into bank c mod 4. -/
def State.writeRefs (s : State) (n c : Nat) : State :=
  let s1 := s.lateSegments (s.planningCycleAt (cycleStart (s.period n) c))
  let slots := s1.refSlots n c
  let b := s1.drawBuffer 0x200000 (0x300000 - 32 * 96)
  let s2 := b.2.onFab fun f => { f with mem := bazWrite f.mem b.1 (slots.flatMap fun x => padTo 32 (x.2.flatMap (toLE 4))) }
  slots.zipIdx.foldl (fun s x => s.bankWrite c (b.1 + 32 * x.2) x.1.1) s2

/-- At the start of a board cycle, the slots of every cycle up to two ahead of each ring's current one are written (R461). -/
def State.referenceWrite (s : State) : State :=
  if !s.isRunning .interp then s
  else
    (List.range 4).foldl (fun s n =>
      let c := cycleAt (s.period n) s.now + 2
      let d := nth s.plan.refDone n 0
      let cs := (List.range 4).filterMap fun i => let x := c + i - 3; if 3 ≤ c + i ∧ d < x ∧ x ≤ c then some x else none
      let s1 := cs.foldl (fun s c => s.writeRefs n c) s
      s1.onPlan fun p => { p with refDone := upd p.refDone n fun y => max y c }) s

/-! ### Functions and objects -/

/-- Start check of the front stage: entries of an arm model beyond the member count are zero (R464, Table 10-18). -/
def State.frontOk (s : State) : Bool :=
  (List.range 12).all fun a => allZero ((s.armModel a).drop (64 + 96 * (s.members a).length))

/-- Start check of the solver: exactly the problems have range records, which match them (R464, Table 10-18). -/
def State.solverOk (s : State) : Bool :=
  (List.range 12).all fun a =>
    let r := s.range a
    let arms := s.problemArms a
    if (s.problemJoints a).isEmpty then r.mask == 0
    else r.mask == maskOf arms && r.n == (s.problemJoints a).length && r.h == s.horizon

/-- Start check of the planner (R464, Table 10-18). -/
def State.plannerOk (s : State) : Bool := decide (s.cfg 0x2831 1 < s.cfg 0x2831 2)

/-- START of an arm: its problem starts anew (R429, R453). -/
def State.armStart (s : State) (a : Nat) : State :=
  (s.onArmPlan a fun _ => ArmPlan.initial).onProblem (s.problemOf a) fun p => { p with solved := false, knots := [], before := [], v0 := [], segs := [], due := false }

/-- An arm that is STOPPING has come to standstill: its commands are cancelled (R435). -/
def State.armStopped (s : State) (a : Nat) : State := s.cancelArm a

/-- Solver status of the problem named by arm `a` (Table 10-20). -/
def Problem.status (p : Problem) : Nat :=
  p.iter <<< 24 ||| p.ending <<< 20 ||| b2n p.fallback <<< 5 ||| b2n p.rangeSat <<< 4 ||| b2n p.pivotReg <<< 3 |||
    b2n p.closed <<< 2 ||| b2n p.valid

/-- Arm plan status (Table 10-22). -/
def State.armStatus (s : State) (a : Nat) : Nat :=
  let p := s.armPlan a
  let x := s.problem (s.problemOf a)
  p.scale <<< 15 ||| b2n (s.hasPlan a && s.atStandstill a) <<< 3 ||| b2n (s.armHeld a) <<< 2 ||| b2n p.satSlow <<< 1 |||
    b2n (match x.segs.find? (fun g => g.cycle == s.plan.cycle) with | some g => g.fallback | none => false)

/-- Planning objects that State computes. -/
def State.readPlan (s : State) (idx sub : Nat) : Option Octets :=
  if idx = 0x2803 then some (toLE 8 s.plan.cycle)
  else if idx = 0x2813 then some (toLE 4 (s.problem (sub - 1)).status)
  else if idx = 0x2814 then some (toLE 4 s.plan.fallbacks)
  else if idx = 0x2881 then
    let m := s.mslot (sub - 1)
    some (toLE 8 (m.ident <<< 32 ||| m.st))
  else if 0x5000 ≤ idx ∧ idx < 0x5300 ∧ (idx - 0x5000) % 0x40 = 7 then some (toLE 4 (s.armStatus ((idx - 0x5000) / 0x40)))
  else none

/-- A joint entry of an arm model (R426). -/
def jointEntryOk (e : Octets) : Bool :=
  decide (u8At e 0 ≤ 1) && decide (u8At e 1 ≤ 24) && u16At e 2 == 0 && decide (i64At e 56 < i64At e 64) &&
  u32At e 20 != 0 && u32At e 52 != 0 && allZero (slice e 84 12)

/-- Content check of an arm model for an arm of `n` member joints (R426): an entry of zeros passes only where no member uses it
(assumption log 53). -/
def armModelOk (n : Nat) (o : Octets) : Bool :=
  quatOk (slice o 12 16) && quatOk (slice o 40 16) && allZero (slice o 56 8) &&
  (chunks 96 16 (o.drop 64)).zipIdx.all fun e => jointEntryOk e.1 || (decide (n ≤ e.2) && allZero e.1)

/-- Content check of the cooperative groups (R427). -/
def groupsOk (o : Octets) : Bool :=
  let rs := chunks 128 6 o
  let masks := rs.map fun r => u16At r 0
  rs.all (fun r =>
    let m := u16At r 0
    let n := popCount 12 m
    (m == 0 && allZero r) || (decide (m < 4096) && inRange 2 3 n && u16At r 2 == 0 && u16At r 26 == 0 && allZero (slice r 112 16) &&
      decide ((List.range 3).foldl (fun a i => a + u16At r (20 + 2 * i)) 0 = 1000) &&
      (List.range 3).all fun i =>
        if i < n then quatOk (slice r (28 + 28 * i + 12) 16) else u16At r (20 + 2 * i) == 0 && allZero (slice r (28 + 28 * i) 28))) &&
  (List.range 12).all fun a => decide ((masks.filter fun m => bitAt m a).length ≤ 1)

/-- Content check of a table of pose targets (Tables 10-8, 10-9). -/
def poseTableOk (o : Octets) : Bool :=
  o.length % 32 == 0 && (chunks 32 (o.length / 32) o).all fun e => quatOk (slice e 12 16) && u32At e 28 == 0

/-- Content checks of planning DOMAINs, with the member count of the arm they belong to. -/
def checkPlan (n idx sub : Nat) (o : Octets) : Bool :=
  if idx = 0x2812 then rangeTableOk o
  else if idx = 0x2840 then groupsOk o
  else if 0x2850 ≤ idx ∧ idx ≤ 0x2855 then poseTableOk o
  else if 0x5000 ≤ idx ∧ idx < 0x5300 then
    let off := (idx - 0x5000) % 0x40
    if off = 6 then armModelOk n o
    else if off = 2 then (if sub = 1 then o.length % 128 == 0 else poseTableOk o)
    else true
  else true

/-- A group engage write is refused while a command of a member arm is queued or active (R430). -/
def State.engageRefused (s : State) (g : Nat) : Bool :=
  s.dict.mbox.any fun m => m.open && (m.mask &&& s.groupMask g) != 0

/-! ### Commands -/

/-- PLANNING_BOUNDARY (R423): the current board cycle is a multiple of N whose boundary has not taken place. -/
def execPlanningBoundary (s : State) : Host.Outcome State Fault Refusal :=
  let c := s.boardCycle
  let n := s.planRatio
  if s.time.ticking = true ∧ c % n = 0 ∧ s.plan.boundary ≠ some (c / n) then .next (s.boundary (c / n)) else .next s

/-- ASSEMBLY_DONE (R424, R441 to R444). -/
def execAssemblyDone (a : Fin 12) (s : State) : Host.Outcome State Fault Refusal := .next (s.assemblyDone a)

/-- SOLVE_END (R448 to R453, R456 to R458). -/
def execSolveEnd (a : Fin 12) (s : State) : Host.Outcome State Fault Refusal := .next (s.solveEnd a)

/-- SOLVER_DEADLINE (R454, R455). -/
def execSolverDeadline (a : Fin 12) (iterates : Nat) (s : State) : Host.Outcome State Fault Refusal :=
  .next (s.solveDeadline a iterates)

/-- INTERPOLATOR_SEGMENTS_WRITTEN (R459). -/
def execInterpolatorSegmentsWritten (s : State) : Host.Outcome State Fault Refusal := .next s.writeSegments

end Sys2Proof.Machine
end

