-- ==== Sys2Proof/Machine/SafetyBase.lean ====
section
/-! DEFINITION. The safety configuration: layouts, content checks, check value (spec/12_safety_functions.md "Configuration",
spec/13_safety_io_black_channel.md). -/

namespace Sys2Proof.Machine

/-! ### Layouts -/

/-- Record of arm `a` in the settings (Table 12-11). -/
def safArm (o : Octets) (a : Nat) : Octets := slice o (64 + 64 * a) 64

/-- A flag of an arm record. -/
def armFlag (r : Octets) (b : Nat) : Bool := bitAt (u8At r 1) b

/-- Member joints of an arm record. -/
def safMembers (r : Octets) : List Nat := ((slice r 32 16).map (·.toNat)).filter (· ≤ 95)

/-- Record of an input (Table 13-5), a pair (Table 13-7), a binding (Table 13-9), a demand entry (Table 12-15), a zone. -/
def inputRec (o : Octets) (n : Nat) : Octets := slice o (8 * n) 8
def pairRec (o : Octets) (n : Nat) : Octets := slice o (8 * n) 8
def bindRec (o : Octets) (e : Nat) : Octets := slice o (16 * e) 16
def demandRec (o : Octets) (e : Nat) : Octets := slice o (8 * e) 8
def zoneRec (o : Octets) (z : Nat) : Octets := slice o (32 * z) 32

/-! ### Content checks (R544, R579, R580) -/

/-- An arm record; an all-zero one is unused. -/
def safArmOk (r : Octets) : Bool :=
  allZero r ||
  (u8At r 1 < 128 && inRange 10 10000 (u16At r 2) && (List.range 4).all (fun i => decide (1 ≤ u16At r (4 + 2 * i))) &&
   inRange 1 10000 (u16At r 12) && inRange 2 1000 (u16At r 14) && inRange 1600 2500 (u16At r 24) &&
   (u8At r 26 ≤ 15 || u8At r 26 == 0xFF) && allZero (slice r 27 5) &&
   (slice r 32 16).all (fun b => b.toNat ≤ 95 || b.toNat == 0xFF) && allZero (slice r 48 16) &&
   (!armFlag r 0 || u8At r 0 != 0) && (!armFlag r 6 || u8At r 26 != 0xFF))

/-- Safety function settings. -/
def safSettingsOk (o : Octets) : Bool :=
  let rs := (List.range 12).map (safArm o)
  let used := rs.filter fun r => !allZero r
  inRange 1000 60000 (u16At o 0) && inRange 1 250 (u16At o 2) && inRange 1 16 (u16At o 4) && u16At o 6 == 0 &&
  inRange 3600 604800 (u32At o 8) && allZero (slice o 12 52) && rs.all safArmOk &&
  (List.range 8).all (fun n => decide ((rs.filter fun r => bitAt (u8At r 0) n).length ≤ 1)) &&
  (List.range 96).all fun j => decide ((used.filter fun r => (safMembers r).contains j).length ≤ 1)

/-- Joint safety limits. -/
def safLimitsOk (o : Octets) : Bool :=
  (chunks 48 96 o).all fun r => allZero r || (decide (i64At r 0 < i64At r 8) && u16At r 46 == 0)

/-- Safety kinematics (R426 on the offsets that Table 12-14's text uses). -/
def safKinematicsOk (o : Octets) : Bool :=
  (chunks 1600 12 o).all fun r => allZero r ||
    (quatOk (slice r 12 16) && quatOk (slice r 40 16) && allZero (slice r 56 8) &&
     (chunks 96 16 (r.drop 64)).all fun e =>
       allZero e || (decide (u8At e 0 ≤ 1) && allZero (slice e 1 3) && u32At e 20 != 0 && allZero (e.drop 24)))

/-- Safety capsules (R480). -/
def safCapsulesOk (o : Octets) : Bool :=
  (chunks 32 96 o).all fun c =>
    if u8At c 0 = 0xFF then allZero (c.drop 1)
    else decide (u8At c 0 ≤ 11) && decide (u8At c 1 ≤ 17) && u16At c 2 == 0 && inRange 1 100000 (u32At c 28)

/-- Zones. -/
def safZonesOk (o : Octets) : Bool :=
  (chunks 32 16 o).all fun z =>
    u8At z 0 < 16 && u8At z 1 == 0 && u16At z 2 < 4096 && u32At z 28 == 0 &&
    (!bitAt (u8At z 0) 0 || (List.range 3).all fun i => decide (i32At z (4 + 4 * i) < i32At z (16 + 4 * i)))

/-- A box of bricks inside the grid, corners in order. -/
def boxOk (b : Octets) : Bool :=
  decide (u8At b 0 ≤ u8At b 3) && decide (u8At b 1 ≤ u8At b 4) && decide (u8At b 2 ≤ u8At b 5) &&
  decide (u8At b 3 < 80) && decide (u8At b 4 < 64) && decide (u8At b 5 < 16)

/-- SSM map. -/
def safSsmOk (o : Octets) : Bool :=
  u32At o 12 == 0 && (chunks 6 32 (o.drop 16)).all fun b => allZero b || boxOk b

/-- Demand table. -/
def safDemandOk (o : Octets) : Bool :=
  (chunks 8 32 o).all fun e =>
    u8At e 0 ≤ 1 && u16At e 6 == 0 &&
    (u8At e 0 == 0 || (u8At e 1 ≤ 15 && inRange 1 7 (u8At e 2) && u8At e 3 ≤ 15 && u16At e 4 < 4096))

/-- A pulse source octet. -/
def pulseSourceOk (v : Nat) : Bool := v == 0xFF || v ≤ 0x0F

/-- Safety inputs (R579). -/
def safInputsOk (o : Octets) : Bool :=
  (chunks 8 16 o).all fun r =>
    if u8At r 0 = 0 then allZero r
    else u8At r 0 ≤ 2 && inRange 1 200 (u8At r 1) && inRange 1 1000 (u16At r 2) && pulseSourceOk (u8At r 4) &&
      pulseSourceOk (u8At r 5) && u16At r 6 == 0 && (u8At r 0 != 2 || u8At r 5 == 0xFF)

/-- OSSD pairs (R579). -/
def safPairsOk (o : Octets) : Bool :=
  let rs := chunks 8 8 o
  rs.all (fun r =>
    if u8At r 0 = 0 then allZero r
    else u8At r 0 ≤ 2 && (u8At r 1 ≤ 7 || u8At r 1 == 0xFF) &&
      (if u8At r 1 = 0xFF then u16At r 2 == 0 else inRange 10 1000 (u16At r 2)) && inRange 50 300 (u16At r 4) &&
      inRange 1 100 (u16At r 6)) &&
  (List.range 8).all fun m => decide ((rs.filter fun r => u8At r 0 != 0 && u8At r 1 == m).length ≤ 1)

/-- Telegram bindings (R580). -/
def safBindingsOk (o : Octets) : Bool :=
  let rs := (chunks 16 104 o).filter fun r => u8At r 0 != 0
  (chunks 16 104 o).all (fun r =>
    if u8At r 0 = 0 then allZero r
    else u8At r 0 ≤ 2 && u8At r 1 ≤ 3 && inRange 1 32 (u8At r 2) && u8At r 3 ≤ 3 &&
      (if u8At r 0 = 1 then u8At r 4 ≤ 95 else u8At r 4 ≤ 7) && u8At r 5 == 0 && inRange 2 1000 (u16At r 6) &&
      u32At r 8 != 0 && u32At r 12 == 0) &&
  decide (rs.map fun r => (u8At r 1, u8At r 2, u8At r 3)).Nodup && decide (rs.map fun r => (u8At r 0, u8At r 4)).Nodup &&
  decide (rs.map fun r => u32At r 8).Nodup

/-- Content check of a SAFE DOMAIN. -/
def checkSafe (idx : Nat) (o : Octets) : Bool :=
  if idx = 0xA100 then safSettingsOk o
  else if idx = 0xA102 then safLimitsOk o
  else if idx = 0xA110 then safKinematicsOk o
  else if idx = 0xA111 then safCapsulesOk o
  else if idx = 0xA120 then safZonesOk o
  else if idx = 0xA130 then safSsmOk o
  else if idx = 0xA140 then safDemandOk o
  else if idx = 0xA160 then safBindingsOk o
  else if idx = 0xA170 then safInputsOk o
  else if idx = 0xA180 then safPairsOk o
  else true

/-- The conditions between objects of a set (R579). -/
def safBetweenOk (g : Nat → Octets) : Bool :=
  let inputs := (List.range 16).map (inputRec (g 0xA170))
  let pairs := (List.range 8).map (pairRec (g 0xA180))
  let role := fun n => u8At (nth pairs n []) 0
  let sourceOk := fun (r : Octets) (v : Nat) =>
    v == 0xFF || (role (v % 8) == 2 && decide (u16At (nth pairs (v % 8) []) 4 < 10 * u16At r 2))
  inputs.all (fun r => u8At r 0 == 0 || (sourceOk r (u8At r 4) && sourceOk r (u8At r 5))) &&
  (chunks 8 32 (g 0xA140)).all (fun e => u8At e 0 == 0 || u8At (nth inputs (u8At e 1) []) 0 != 0) &&
  (List.range 12).all fun a =>
    let r := safArm (g 0xA100) a
    !armFlag r 0 ||
      ((u8At r 26 == 0xFF || u8At (nth inputs (u8At r 26) []) 0 != 0) && (bitsOf 8 (u8At r 0)).all fun n => role n == 1)

/-! ### The check value (R570, R585) -/

/-- CRC-32C (R570). -/
def crc32c (o : Octets) : Nat := crcReflected 0x82F63B78 32 o

/-- SAFE objects that carry configuration, in ascending index. -/
def safeObjects : List Nat := [0xA100, 0xA102, 0xA110, 0xA111, 0xA120, 0xA130, 0xA140, 0xA160, 0xA170, 0xA180]

/-- Value of a SAFE object in a set of values. -/
def setValue (st : List ((Nat × Nat) × Octets)) (idx : Nat) : Octets :=
  match storeGet st (idx, 0) with
  | some v => v
  | none => dfltOctets idx 0

/-- Check value of a set of SAFE objects (R585). -/
def checkValue (st : List ((Nat × Nat) × Octets)) : Nat :=
  crc32c (safeObjects.flatMap fun i =>
    let v := setValue st i
    toLE 2 i ++ toLE 1 0 ++ toLE 4 v.length ++ v)

/-- The SAFE values of a store. -/
def safeValues (st : List ((Nat × Nat) × Octets)) : List ((Nat × Nat) × Octets) :=
  st.filter fun e => safeObjects.contains e.1.1

/-! ### Values in force -/

/-- Record of arm `a` in the settings in force. -/
def State.safArm (s : State) (a : Nat) : Octets := Machine.safArm (s.obj 0xA100 0) a

/-- The arm is ENABLED. -/
def State.safEnabled (s : State) (a : Nat) : Bool := armFlag (s.safArm a) 0

/-- Its member joints. -/
def State.safMembers (s : State) (a : Nat) : List Nat := if s.safEnabled a then Machine.safMembers (s.safArm a) else []

/-- Record of joint `j` in the limits. -/
def State.safLimit (s : State) (j : Nat) : Octets := slice (s.obj 0xA102 0) (48 * j) 48

/-- Record of pair `n`. -/
def State.safPair (s : State) (n : Nat) : Octets := pairRec (s.obj 0xA180 0) n

/-- Record of input `n`. -/
def State.safInput (s : State) (n : Nat) : Octets := inputRec (s.obj 0xA170 0) n

/-- The used bindings with their numbers. -/
def State.safBindings (s : State) : List (Nat × Octets) :=
  (List.range 104).filterMap fun e =>
    let r := bindRec (s.obj 0xA160 0) e
    if u8At r 0 = 0 then none else some (e, r)

/-! ### Degraded mode (R533, R534, R537) -/

/-- A degraded-mode cause arises (R534, R537). -/
def State.degrade (s : State) (cause : Nat) : State :=
  if s.isRunning .safety && s.saf.degraded.isNone then
    (s.onSaf fun f => { f with degraded := some (cause, s.time.ringNs) }).raise 441
  else s

/-- SAFE_FAULT_L is pulled low (R534, R542). -/
def State.safeFaultLow (s : State) : Bool := !s.isRunning .safety || s.saf.degraded.isSome

/-- Degraded time remaining in ms. -/
def State.degLeft (s : State) : Nat :=
  match s.saf.degraded with
  | some d => (u16At (s.obj 0xA100 0) 0 * 1000000 - (s.time.ringNs - d.2)) / 1000000
  | none => 0

end Sys2Proof.Machine
end

