-- ==== Sys2Proof/Machine/SafetyOps.lean ====
section
/-! DEFINITION. Safety inputs, outputs and telegrams (spec/13_safety_io_black_channel.md). -/

namespace Sys2Proof.Machine

def State.onIo (s : State) (f : SafIo → SafIo) : State := s.onSaf fun x => { x with io := f x.io }

/-- A fault of the safety I/O, with its event (R561, R565, R566, Table 13-15). -/
def State.ioFault (s : State) (code : Nat) : State :=
  if s.fnSt .safety = .fault then s
  else (s.fault .safety code).raise (if code = 0x0183 then 458 else 457)

/-! ### Sampling and filtering (R550, R551, R564) -/

/-- Filter length of an input channel; none for an unused one. -/
def State.filterLen (s : State) (i : Nat) : Option Nat :=
  if 32 ≤ i then some 300
  else
    let r := s.safInput (i % 16)
    if u8At r 0 = 0 then none else some (u16At r 2)

/-- EDM input of a pair. -/
def State.edmOf (s : State) (n : Nat) : Option Nat :=
  let r := s.safPair n
  if u8At r 0 = 0 ∨ u8At r 1 = 0xFF then none else some (u8At r 1)

/-- Every used input channel and every EDM input has been sampled F times since START, one sample every 10 µs of ring time (R550,
R551). -/
def State.inputsSampled (s : State) : Bool :=
  let f := (List.range 40).foldl (fun m i => match s.filterLen i with
    | some f => if i < 32 || (List.range 8).any (fun n => s.edmOf n == some (i - 32)) then max m f else m
    | none => m) 0
  decide (s.saf.io.started + 10000 * f ≤ s.time.ringNs)

/-- Filtered level of EDm. -/
def State.edmHigh (s : State) (m : Nat) : Bool := bitAt s.saf.io.filt (32 + m)

/-- Both outputs of a pair are on. -/
def State.pairOn (s : State) (n : Nat) : Bool := s.saf.soA.getLsbD n && s.saf.soB.getLsbD n

/-- A filtered level of an input channel takes a value; an EDM input that goes high while its pair is on, after it had gone low,
is a fault (R551, R566). -/
def State.filtered (s : State) (i : Nat) (level : Bool) : State :=
  let s1 := s.onIo fun x => { x with filt := if level then setBits x.filt (1 <<< i) else clearBits x.filt (1 <<< i) }
  if i < 32 ∨ bitAt s.saf.io.filt i = level then s1
  else
    match (List.range 8).find? fun n => s.edmOf n == some (i - 32) with
    | none => s1
    | some n =>
      if !level then s1.onIo fun x => { x with edmLow := setBits x.edmLow (1 <<< n) }
      else if s.pairOn n && bitAt s.saf.io.edmLow n then s1.ioFault 0x0183
      else s1

/-- One sample of an input channel: the run of equal samples, and the filtered level once it is long enough (R551). -/
def State.sampleChannel (s : State) (raw i : Nat) : State :=
  let b := bitAt raw i
  let run := if bitAt s.saf.io.raw i == b then nth s.saf.io.runs i 0 + 1 else 1
  let s1 := s.onIo fun x => { x with runs := upd x.runs i fun _ => min run 1000 }
  match s.filterLen i with
  | some f => if f ≤ run ∧ bitAt s.saf.io.filt i ≠ b then s1.filtered i b else s1
  | none => s1

/-- Output `k` is on (2n for SOn_A, 2n + 1 for SOn_B). -/
def State.outOn (s : State) (k : Nat) : Bool := if k % 2 = 1 then s.saf.soB.getLsbD (k / 2) else s.saf.soA.getLsbD (k / 2)

/-- The read-back of an output at a sample (R561). -/
def State.checkReadBack (s : State) (k : Nat) (high : Bool) : State :=
  let late := decide (s.time.ringNs > nth s.saf.io.since k 0 + 1000000)
  let role := u8At (s.safPair (k / 2)) 0
  if role = 0 then (if high then s.ioFault 0x0181 else s)
  else if s.outOn k then
    if bitAt s.saf.io.pulse k || !late || high then s.onIo fun x => { x with lows := upd x.lows k fun _ => 0 }
    else
      let n := nth s.saf.io.lows k 0 + 1
      let s1 := s.onIo fun x => { x with lows := upd x.lows k fun _ => n }
      if 3 ≤ n then s1.ioFault 0x0182 else s1
  else if high && late then s.ioFault 0x0181
  else s

/-- One sample of every ball: SI channels b and a, EDM inputs, read-backs (R550). -/
def State.ioSample (s : State) (si ed rba rbb : Nat) : State :=
  let raw := si % 2 ^ 32 + 2 ^ 32 * (ed % 256)
  let s1 := (List.range 40).foldl (fun s i => s.sampleChannel raw i) s
  let s2 := s1.onIo fun x => { x with raw := raw, rba := rba % 256, rbb := rbb % 256 }
  (List.range 16).foldl (fun s k => s.checkReadBack k (bitAt (if k % 2 = 1 then rbb else rba) (k / 2))) s2

/-! ### Test pulses (R558, R560, R561) -/

/-- The next slot of an output's test pulse at or after a ring time: 50 µs + 400 µs × k after a multiple of TP_INT (R560). Channel B's
own clock is taken to agree with ring time (assumption log 70). -/
def State.pulseSlot (s : State) (k t : Nat) : Nat :=
  let iv := 10000000 * u16At (s.safPair (k / 2)) 6
  let off := 50000 + 400000 * k
  off + iv * ((t - off + iv - 1) / iv)

/-- A test pulse of an output starts in its next slot (R560). -/
def State.pulseStart (s : State) (k : Nat) : State :=
  if s.outOn k && u8At (s.safPair (k / 2)) 0 != 0 then
    let t := s.pulseSlot k s.time.ringNs
    (s.advanceTo t).onIo fun x => { x with pulse := setBits x.pulse (1 <<< k), since := upd x.since k fun _ => t }
  else s

/-- Input channels whose pulse source is output `k`. -/
def State.pulsedBy (s : State) (k : Nat) : List Nat :=
  let code := k % 2 * 8 + k / 2
  (List.range 32).filter fun i =>
    let r := s.safInput (i % 16)
    u8At r 0 != 0 && u8At r (if i < 16 then 4 else 5) == code

/-- A test pulse ends TP_W after its start: the read-back at its last sample, and the pulse checks of the channels it feeds (R558,
R560, R561). -/
def State.pulseEnd (s : State) (k : Nat) (high : Bool) (si : Nat) : State :=
  if !bitAt s.saf.io.pulse k then s
  else
    let bad := maskOf ((s.pulsedBy k).filter fun i => bitAt si i)
    let s0 := s.advanceTo (nth s.saf.io.since k 0 + 1000 * u16At (s.safPair (k / 2)) 4)
    let s1 := s0.onIo fun x =>
      { x with pulse := clearBits x.pulse (1 <<< k), since := upd x.since k fun _ => s0.time.ringNs,
               pulseFail := setBits x.pulseFail bad }
    if high then s1.ioFault 0x0181 else s1

/-- A pair's EDM input has not followed it by T_EDM after it switched on or off (R566). -/
def State.edmTimeout (s : State) (n : Nat) : State :=
  match s.edmOf n with
  | some m =>
    if s.pairOn n == s.edmHigh m && u8At (s.safPair n) 0 == 1 then
      (s.advanceTo (nth s.saf.io.pairSince n 0 + 1000000 * u16At (s.safPair n) 2)).ioFault 0x0183
    else s
  | none => s

/-! ### Inputs of a safety cycle (R552 to R557) -/

/-- Normalised filtered states of an input: channel a, channel b. -/
def State.normalised (s : State) (frozen n : Nat) : Bool × Bool :=
  (bitAt frozen n, bitAt frozen (16 + n) != (u8At (s.safInput n) 0 == 2))

/-- One input evaluated in the cycle that ends: discrepancy count, fault and its latch, logical value (R553 to R557). -/
def State.evalInput (s : State) (n : Nat) : State :=
  let r := s.safInput n
  if u8At r 0 = 0 then s.onIo fun x => { x with logical := clearBits x.logical (1 <<< n) }
  else
    let v := s.normalised s.saf.io.frozen n
    let pulse := bitAt s.saf.io.pulseLast n || bitAt s.saf.io.pulseLast (16 + n)
    let k := if v.1 != v.2 || pulse then nth s.saf.io.disc n 0 + 1 else 0
    let was := bitAt s.saf.io.fault n
    let clear := !v.1 && !v.2 && !pulse
    let now := (was && !clear) || decide (k ≥ u8At r 1)
    let s1 := s.onIo fun x => { x with
      disc := upd x.disc n fun _ => min k 65535
      fault := if now then setBits x.fault (1 <<< n) else clearBits x.fault (1 <<< n)
      logical := if v.1 && v.2 && !now then setBits x.logical (1 <<< n) else clearBits x.logical (1 <<< n) }
    if now && !was then (s1.raise 456).degrade 2 else s1

/-- A discrepancy whose count reaches T_disc with the cycle in progress (R554 to R556). -/
def State.discrepancy (s : State) (n : Nat) : State :=
  let r := s.safInput n
  let v := s.normalised s.saf.io.filt n
  if u8At r 0 != 0 && (v.1 != v.2 || bitAt s.saf.io.pulseLast n || bitAt s.saf.io.pulseLast (16 + n)) &&
      !bitAt s.saf.io.fault n && decide (u8At r 1 ≤ nth s.saf.io.disc n 0 + 1) then
    let s1 := s.onIo fun x => { x with
      disc := upd x.disc n fun _ => u8At r 1
      fault := setBits x.fault (1 <<< n)
      logical := clearBits x.logical (1 <<< n) }
    (s1.raise 456).degrade 2
  else s

/-! ### Telegrams (R568 to R576) -/

/-- Kind of a telegram (R569, Table 13-3). -/
def telegramKind (o : Octets) : Nat := u8At o 0 / 16

/-- The check of a telegram for a connection identity (R570). -/
def telegramOk (ident : Nat) (o : Octets) : Bool := crc32c (toLE 4 ident ++ o.take 12) == u32At o 12

/-- A binding changed. -/
def State.onBinding (s : State) (b : Nat) (f : SafBinding → SafBinding) : State :=
  s.onSaf fun x => { x with bindings := upd x.bindings b f }

/-- A refused telegram: the first one after a cycle without one raises EV461 (Table 13-15). -/
def State.telegramRefused (s : State) (b : Nat) : State :=
  let x := nth s.saf.bindings b SafBinding.initial
  let s1 := s.onBinding b fun y => { y with refused := true }
  if x.refused || x.refusedLast then s1 else s1.raise 461

/-- A telegram for binding `b`, delivered by ring cycle `c` that started in safety cycle `sc` (R572, R574). Its check and sequence
decide alone; one of another kind than its binding's gives no position and no report (R569; assumption log 70). -/
def State.takeTelegram (s : State) (b : Nat) (r : Octets) (c sc : Nat) (o : Octets) : State :=
  let x := nth s.saf.bindings b SafBinding.initial
  let seq := u16At o 2
  let delta := (seq + 65536 - x.seq) % 65536
  if !telegramOk (u32At r 8) o then s.telegramRefused b
  else if x.st = 3 then
    if 1 ≤ delta ∧ delta + x.cyc ≤ c then
      s.onBinding b fun y => { y with seq := seq, cyc := c, tels := y.tels ++ [(sc, o)] }
    else s.telegramRefused b
  else if x.st = 2 ∧ delta = 1 ∧ c = x.cyc + 1 then
    (s.onBinding b fun y => { y with st := 3, seq := seq, cyc := c, tels := y.tels ++ [(sc, o)], lost := false }).raise 460
  else
    let s1 := s.onBinding b fun y => { y with st := 2, seq := seq, cyc := c }
    if x.st = 2 then s1.telegramRefused b else s1

/-- Inputs are evaluated and telegrams taken: the safety function is active, or in FAULT, where the causes that a CLEAR asks about
can go (R543; assumption log 70). -/
def State.safetyWatches (s : State) : Bool := s.isActive .safety || s.fnSt .safety == .fault

/-- A safety telegram of a returned pannier (R568): for the binding of its ring, address and Sub. -/
def State.telegram (s : State) (n addr sub cyc : Nat) (o : Octets) : State :=
  if !s.safetyWatches then s
  else
    match s.safBindings.find? fun x => u8At x.2 1 == n && u8At x.2 2 == addr && u8At x.2 3 == sub with
    | some x => s.takeTelegram x.1 x.2 cyc (cycleStart (s.period n) cyc / 500000) o
    | none => s

/-- An ESTABLISHED binding has gone without a telegram for more than its watchdog expectation since the sample instant of the last
one (R223, R573, R578). A telegram that it accepted in the running safety cycle stays that cycle's (R574). -/
def State.bindingLost (s : State) (b : Nat) : State :=
  let r := bindRec (s.obj 0xA160 0) b
  let x := nth s.saf.bindings b SafBinding.initial
  let sampled : Int := cycleStart (s.period (u8At r 1)) x.cyc + s.cfgInt 32 (0x3002 + 0x200 * u8At r 1) 0
  if x.st = 3 ∧ u8At r 0 ≠ 0 then
    let s1 := ((s.advanceTo ((sampled + 100000 * u16At r 6).toNat + 1)).onBinding b fun y => { y with st := 1, lost := true }).raise 459
    if u8At r 0 = 2 then s1.degrade 1 else s1
  else s

/-! ### The end of collection (R512, R523, R524, R574 to R577) -/

/-- Telegrams of a binding in safety cycle `sc`. -/
def SafBinding.inCycle (x : SafBinding) (sc : Nat) : List Octets := (x.tels.filter (·.1 == sc)).map (·.2)

/-- The complete report of a gateway among the telegrams of a cycle (R576). -/
def gatewayReport (l : List Octets) : Option (List Octets) :=
  let part := fun (t : Octets) (i : Nat) =>
    l.find? fun u => u8At u 1 == u8At t 1 && u8At u 5 == u8At t 5 && u8At u 4 == i
  let full := fun (t : Octets) =>
    let n := u8At t 5
    u8At t 4 + 1 == max n 1 && (List.range (max n 1)).all fun i =>
      match part t i with
      | some u => n == 0 || boxOk (slice u 6 6)
      | none => false
  (l.reverse.find? full).map fun t => (List.range (max (u8At t 5) 1)).filterMap (part t)

/-- Brick coordinates of a brick number. -/
def brickXyz (b : Nat) : Nat × Nat × Nat := (b % 80, b / 80 % 64, b / 5120)

/-- A box holds a brick. -/
def boxHolds (box : Octets) (b : Nat) : Bool :=
  let p := brickXyz b
  inRange (u8At box 0) (u8At box 3) p.1 && inRange (u8At box 1) (u8At box 4) p.2.1 && inRange (u8At box 2) (u8At box 5) p.2.2

/-- Boxes of bricks that gateway `g` covers. -/
def State.coverage (s : State) (g : Nat) : List Octets :=
  (chunks 6 4 (slice (s.obj 0xA130 0) (16 + 24 * g) 24)).filter fun b => !allZero b

/-- Gateways' reports in safety cycle `sc`: none where incomplete, invalid or overflowing (R577). -/
def State.reports (s : State) (sc : Nat) : List (Option (List Octets)) :=
  (List.range 8).map fun g =>
    match s.safBindings.find? fun x => u8At x.2 0 == 2 && u8At x.2 4 == g with
    | none => none
    | some x =>
      match gatewayReport (((nth s.saf.bindings x.1 SafBinding.initial).inCycle sc).filter (telegramKind · == 2)) with
      | none => none
      | some ts => if ts.all fun t => bitAt (u8At t 0) 3 && !bitAt (u8At t 0) 2 then some ts else none

/-- Brick `b` is occupied (R524). -/
def State.occupied (s : State) (reports : List (Option (List Octets))) (b : Nat) : Bool :=
  let fenced := bitAt (s.objOctet 0xA130 0 (208 + b / 8)) (b % 8)
  let by_ := (List.range 8).filter fun g => (s.coverage g).any fun x => boxHolds x b
  !fenced && !(!by_.isEmpty && by_.all fun g =>
    match nth reports g none with
    | some ts => !(ts.any fun t => u8At t 5 != 0 && boxHolds (slice t 6 6) b)
    | none => false)

/-- Joint `j`'s position telegram of safety cycle `sc` (R574, R575). -/
def State.safePosition (s : State) (sc j : Nat) : Option Int :=
  match s.safBindings.find? fun x => u8At x.2 0 == 1 && u8At x.2 4 == j with
  | none => none
  | some x =>
    match ((nth s.saf.bindings x.1 SafBinding.initial).inCycle sc).getLast? with
    | some t => if telegramKind t == 1 && bitAt (u8At t 0) 3 then some (i64At t 4) else none
    | none => none

/-- Collection of the telegrams of the cycle closes (R512): positions, missing and refused flags, occupancy. -/
def State.collect (s : State) : State :=
  match s.saf.cycle with
  | none => s
  | some sc =>
    let occ := (List.range 81920).filter (s.occupied (s.reports sc))
    let s1 := s.onSaf fun f => { f with
      closed := true
      occCount := occ.length
      occ := occ.take 2048
      joints := f.joints.zipIdx.map fun x =>
        let p := s.safePosition sc x.2
        ⟨p, x.1.pos, if p.isSome then x.1.run + 1 else 0⟩ }
    s.safBindings.foldl (fun s x => s.onBinding x.1 fun y =>
      { y with missing := (y.inCycle sc).isEmpty, refusedLast := y.refused, refused := false,
               tels := y.tels.filter fun t => decide (sc < t.1) }) s1

/-- A safety cycle boundary ends cycle `sc`: inputs, pulse checks, host requests and the I/O status are frozen (R113, R546, R552,
Table 12-3). -/
def State.boundarySafety (s : State) (sc : Nat) : State :=
  let s1 := s.onSaf fun f => { f with
    cycle := some sc
    closed := false
    raised := []
    hostStop := (List.range 12).map fun a => s.objOctet 0xA150 (a + 1) 0
    acksNow := f.acks
    acks := 0
    io := { f.io with
      frozen := f.io.filt, pulseLast := f.io.pulseFail, pulseFail := 0, logicalPrev := f.io.logical
      shown := f.io.rba <<< 24 ||| f.io.rbb <<< 16 ||| (f.io.filt / 2 ^ 32) <<< 8 ||| maskOf ((List.range 8).filter s.pairOn) } }
  if s.isRunning .safety || s.fnSt .safety == .fault then (List.range 16).foldl State.evalInput s1 else s1

/-! ### Steps -/

/-- SAFETY_IO_SAMPLE (R550): the levels of the balls at the next sample. -/
def execSafetyIoSample (si ed rba rbb : Nat) (s : State) : Host.Outcome State Fault Refusal :=
  if s.power.compReset then .next s
  else .next ((s.advanceTo ((s.time.ringNs / 10000 + 1) * 10000)).ioSample si ed rba rbb)

/-- INPUT_FILTER_CHANGE (R551): input channel `i`, 0–15 SIn_A, 16–31 SIn_B, 32–39 EDn, has held a level for F samples. -/
def execInputFilterChange (i : Fin 40) (level : Bool) (s : State) : Host.Outcome State Fault Refusal :=
  match s.filterLen i.val with
  | none => .next s
  | some f =>
    let s1 := s.onIo fun x =>
      { x with raw := if level then setBits x.raw (1 <<< i.val) else clearBits x.raw (1 <<< i.val),
               runs := upd x.runs i.val fun r => max r f }
    if s.power.compReset then .next s else .next (s1.filtered i.val level)

/-- TEST_PULSE_START (R560) of output `k`: 2n for SOn_A, 2n + 1 for SOn_B. -/
def execTestPulseStart (k : Fin 16) (s : State) : Host.Outcome State Fault Refusal := .next (s.pulseStart k.val)

/-- TEST_PULSE_END (R558, R561): the read-back and the SI channels at the pulse's last sample. -/
def execTestPulseEnd (k : Fin 16) (high : Bool) (si : Nat) (s : State) : Host.Outcome State Fault Refusal :=
  .next (s.pulseEnd k.val high si)

/-- EDM_TIMEOUT (R566) of pair `n`. -/
def execEdmTimeout (n : Fin 8) (s : State) : Host.Outcome State Fault Refusal := .next (s.edmTimeout n.val)

/-- DISCREPANCY_FAULT (R554) of input `n`. -/
def execDiscrepancyFault (n : Fin 16) (s : State) : Host.Outcome State Fault Refusal := .next (s.discrepancy n.val)

/-- BINDING_WATCHDOG_EXPIRY (R573) of binding `b`. -/
def execBindingWatchdogExpiry (b : Fin 104) (s : State) : Host.Outcome State Fault Refusal := .next (s.bindingLost b.val)

/-- SAFETY_CYCLE_BOUNDARY (R33, R507): the boundary that ends the cycle in progress, or the next one when that has taken place. -/
def execSafetyCycleBoundary (s : State) : Host.Outcome State Fault Refusal :=
  if !s.time.ticking then .next s
  else
    let b := match s.saf.cycle with
      | some sc => max (sc + 2) (s.now / 500000)
      | none => max 1 (s.now / 500000)
    .next ((s.advanceNow (500000 * b)).boundarySafety (b - 1))

/-- TELEGRAM_COLLECTION_CLOSE (R512): 100 µs after the boundary. -/
def execTelegramCollectionClose (s : State) : Host.Outcome State Fault Refusal :=
  match s.saf.cycle with
  | some sc => if s.saf.closed then .next s else .next ((s.advanceNow (500000 * (sc + 1) + 100000)).collect)
  | none => .next s

end Sys2Proof.Machine
end

