-- ==== Sys2Proof/Machine/SecurityOps.lean ====
section
/-! DEFINITION. Sensors, Ledger storage, firmware images, keys, attestation and life cycle
(spec/18_management_security.md). -/

namespace Sys2Proof.Machine

/-! ### The Ledger in MRAM -/

/-- A record's octets (Table 18-5, R738): the chain tag covers offsets 0–7 and 20–55. -/
def ledgerOctets (chain : Octets) (n : Nat) (e : LedgerEntry) : Octets :=
  let num := toLE 8 n
  let tail := toLE 8 e.plan ++ toLE 2 e.kind ++ toLE 2 e.source ++ padTo 24 e.payload
  num ++ toLE 8 e.sec ++ toLE 4 e.ns ++ tail ++ Keccak.shake256 (chain ++ num ++ tail) 8

/-- Capacity of the Ledger in records (R736). -/
def ledgerSize : Nat := 131072

/-- One record written at the next number (R736, R741). -/
def Ledger.write (l : Ledger) (e : LedgerEntry) : Ledger :=
  let o := ledgerOctets l.chain l.next e
  { l with records := (l.records.filter fun r => decide (l.next < r.1 + ledgerSize)) ++ [(l.next, o)],
           next := l.next + 1, chain := o.drop 56 }

/-- Oldest available record number (Table 18-7). -/
def Ledger.oldest (l : Ledger) : Nat := l.next - ledgerSize

/-- Content of 0x1A03:00: 16 records from the cursor, zero outside [oldest, next) (R742). -/
def Ledger.window (l : Ledger) : Octets :=
  (List.range 16).flatMap fun i =>
    match l.records.find? (·.1 == l.cursor + i) with
    | some r => r.2
    | none => zeros 64

/-- The first queued record written to MRAM; when records were lost and the queue has room, a record of kind 0x00FF with
EV388 (R740, R741); EV389 when next − cursor rises to 114 688 (R742). -/
def State.ledgerWrite (s : State) : State :=
  match s.ledger.queue with
  | [] => s
  | e :: r =>
    let s1 := s.onLedger fun l => { (l.write e) with queue := r }
    let s2 := if s1.ledger.lost = 0 then s1
      else
        let n := s1.ledger.lost
        ((s1.onLedger fun l => { l with lost := 0 }).record 0x00FF 0 (toLE 4 n)).raise 388
    if s2.ledger.next - s2.ledger.cursor = 114688 then s2.raise 389 else s2

/-- A record written at once, as a life-cycle transition does before its reset (R770). -/
def State.recordNow (s : State) (kind source : Nat) (payload : Octets) : State :=
  s.onLedger fun l => l.write ⟨s.time.sec, s.time.ns, s.plan.cycle, kind, source, padTo 24 payload⟩

/-- Delivery of the LAST segment of a Ledger read moves the cursor (R742). -/
def State.ledgerDelivered (s : State) : State :=
  s.onLedger fun l => { l with cursor := min (l.cursor + 16) l.next }

/-! ### Sensors -/

/-- Highest of the readings of sensors lo … hi (0.1 °C). -/
def highest (temps : List Int) (lo hi : Nat) : Int :=
  (slice' temps lo (hi + 1 - lo)).foldl max (-2732)
where
  /-- Part of a list. -/
  slice' (l : List Int) (a n : Nat) : List Int := (l.drop a).take n

/-- A flag with its count of consecutive readings at least 5 K below the threshold: set at the threshold, left after 100 such
readings (R732, R733). -/
def latch (on : Bool) (count : Nat) (reading thr : Int) : Bool × Nat :=
  if reading ≥ thr then (true, 0)
  else if !on then (false, 0)
  else if reading ≤ thr - 50 then (if count + 1 ≥ 100 then (false, 0) else (true, count + 1))
  else (true, 0)

/-- Nominal voltage of the rail of each monitor in mV (Table 02-3, Table 18-2). -/
def nominalMv : List Nat := [750, 750, 750, 750, 750, 850, 850, 900, 1800, 1200, 1800, 3300, 900, 1800, 3300, 2500]

/-- Warning and action windows of each monitor in per cent (Table 18-2). -/
def windowPct : List (Nat × Nat) :=
  .replicate 9 (2, 5) ++ .replicate 3 (4, 7) ++ .replicate 3 (4, 5) ++ [(4, 8)]

/-- A reading lies outside ± p per cent of the nominal value. -/
def outside (mv nominal p : Nat) : Bool :=
  decide (100 * mv > (100 + p) * nominal) || decide (100 * mv < (100 - p) * nominal)

/-- Monitors whose reading lies outside the action window. -/
def outOfAction (volts : List Nat) : List Nat :=
  (List.range 16).filter fun v => outside (nth volts v 0) (nth nominalMv v 0) (nth windowPct v (0, 0)).2

/-- Monitors whose reading lies outside the warning window. -/
def outOfWarning (volts : List Nat) : List Nat :=
  (List.range 16).filter fun v => outside (nth volts v 0) (nth nominalMv v 0) (nth windowPct v (0, 0)).1

/-- Sensor number with the highest reading. -/
def hottest (temps : List Int) (lo hi : Nat) : Nat :=
  (((List.range 24).filter fun t => decide (lo ≤ t) && decide (t ≤ hi)).find? fun t => nth temps t 0 == highest temps lo hi).getD lo

/-- New readings: of T0–T23 in 0.1 °C and V0–V15 in mV. -/
structure Means where
  temps : List Int
  volts : List Nat
deriving DecidableEq, Repr

/-- Mean of 16 samples in whole units (R731); how one that is not whole is rounded no rule says. -/
def mean16 (l : List Int) : Int :=
  openRound (mkRat (l.foldl (· + ·) 0) 16)

/-- The readings of the samples (R43, R731). -/
def meansOf (r : Readings) : Means :=
  ⟨r.temps.map mean16, r.volts.map fun l => (mean16 (l.map Int.ofNat)).toNat⟩

/-- The sensors with new readings (R731 to R733). -/
def Sensors.update (x : Sensors) (r : Means) (w : Int) : Sensors :=
  let warn := latch x.tempWarn x.tempWarnCount (highest r.temps 0 23) w
  let main := latch x.mainAlarm x.mainCount (highest r.temps 0 18) 1100
  let safa := latch x.safaAlarm x.safaCount (highest r.temps 19 19) 1100
  let comp := latch x.compAlarm x.compCount (highest r.temps 20 23) 1100
  let d1 := latch (decide (1 ≤ x.derate)) x.derate1Count (highest r.temps 0 11) 1000
  let d2 := latch (decide (2 ≤ x.derate)) x.derate2Count (highest r.temps 0 11) 1050
  { x with temps := r.temps, volts := r.volts, tempWarn := warn.1, tempWarnCount := warn.2,
           voltWarn := !(outOfWarning r.volts).isEmpty, mainAlarm := main.1, mainCount := main.2,
           safaAlarm := safa.1, safaCount := safa.2, compAlarm := comp.1, compCount := comp.2,
           derate := if d2.1 then 2 else if d1.1 then 1 else 0, derate1Count := d1.2, derate2Count := d2.2 }

/-- Payload of a sensor record (kind 0x0080). -/
def sensorPayload (action sensor : Nat) (reading : Int) : Octets :=
  toLE 1 action ++ toLE 1 sensor ++ toLE 2 (ofSigned 16 reading)

/-- New readings taken: warnings, alarms and derating with their events and records (R732, R733, R735). -/
def State.takeReadings (s : State) (r : Means) : State :=
  let w := s.cfgInt 16 0x1032 0
  let x := s.sensors
  let y := x.update r w
  let s1 := s.onSensors fun _ => y
  let s2 := if y.tempWarn && !x.tempWarn then
      let t := hottest r.temps 0 23
      (s1.record 0x0080 0 (sensorPayload 0 t (nth r.temps t 0))).raise 384 else s1
  let alarm := fun (s : State) (new old : Bool) (lo hi : Nat) =>
    if new && !old then
      let t := hottest r.temps lo hi
      (s.record 0x0080 0 (sensorPayload 1 t (nth r.temps t 0))).raise 386
    else s
  let s3 := alarm s2 y.mainAlarm x.mainAlarm 0 18
  let s4 := alarm s3 y.safaAlarm x.safaAlarm 19 19
  let s5 := alarm s4 y.compAlarm x.compAlarm 20 23
  let s6 := if y.derate != x.derate then s5.raise 385 else s5
  if y.voltWarn && !x.voltWarn then
    let v := (outOfWarning r.volts).head?.getD 0
    (s6.record 0x0080 0 (sensorPayload 2 v ((nth r.volts v 0 : Nat) : Int))).raise 387
  else s6

/-- Sensor status (Table 18-4). -/
def Sensors.status (x : Sensors) : Nat :=
  x.derateInForce <<< 6 ||| b2n x.compAlarm <<< 5 ||| b2n x.safaAlarm <<< 4 ||| b2n x.mainAlarm <<< 3 |||
  b2n x.voltWarn <<< 2 ||| b2n x.tempWarn <<< 1

/-! ### Firmware images -/

/-- Octet of the flash at an offset; an unlisted octet is erased. -/
def flashOctet (f : List Host.Cell) (a : Nat) : Byte :=
  match f.find? (·.1 == a) with
  | some c => c.2
  | none => 0xFF#8

/-- Octets of the flash. -/
def flashOctets (f : List Host.Cell) (off len : Nat) : Octets := (List.range len).map fun i => flashOctet f (off + i)

/-- A cell put at its place in rising order of address. -/
def flashInsert (a : Nat) (v : Byte) : List Host.Cell → List Host.Cell
  | [] => [(a, v)]
  | c :: r => if a < c.1 then (a, v) :: c :: r else if a = c.1 then (a, v) :: r else c :: flashInsert a v r

/-- A cell written; the erased value leaves no entry. -/
def flashPut (f : List Host.Cell) (a : Nat) (v : Byte) : List Host.Cell :=
  if v = 0xFF#8 then f.filter fun c => c.1 != a else flashInsert a v f

/-- Octets written from an offset. -/
def flashWrite (f : List Host.Cell) (off : Nat) (o : Octets) : List Host.Cell :=
  (o.zipIdx).foldl (fun f x => flashPut f (off + x.2) x.1) f

/-- A range erased. -/
def flashErase (f : List Host.Cell) (off len : Nat) : List Host.Cell :=
  f.filter fun c => !(decide (off ≤ c.1) && decide (c.1 < off + len))

/-- Flash offset of a slot (R743). -/
def slotBase (i : Nat) : Nat := if i = 0 then 0 else 0x100000

/-- Length of an XMSS signature by parameter set (Table 18-8). -/
def sigLen (p : Nat) : Nat := if p = 1 then 2500 else if p = 2 then 2692 else 2820

/-- The layout of Table 18-8: magic, lengths and reserved fields. -/
def imageLayoutOk (o : Octets) : Bool :=
  let p := u8At o 13
  u32At o 0 == 0x4E524345 && inRange 4 782336 (u32At o 8) && u32At o 8 % 4 == 0 && u8At o 12 ≤ 3 && inRange 1 3 p &&
  u16At o 14 == 0 && allZero (slice o 48 16) && allZero (slice o (64 + sigLen p) (4096 - 64 - sigLen p)) &&
  decide (4096 + u32At o 8 ≤ o.length)

/-- Digest and signature (R744). -/
def imageSigned (o : Octets) : Bool :=
  slice o 16 32 == Keccak.shake256 (slice o 4096 (u32At o 8)) 32 &&
  Config.xmssVerifies (u8At o 12) (u8At o 13) (o.take 64) (slice o 64 (sigLen (u8At o 13)))

/-- In FIELD the version is not below the floor (R744). -/
def State.imageFloorOk (s : State) (o : Octets) : Bool := s.sec.lifeCycle != 2 || decide (s.fw.floor ≤ u32At o 4)

/-- An image verifies (R744). -/
def State.imageVerifies (s : State) (o : Octets) : Bool := imageLayoutOk o && imageSigned o && s.imageFloorOk o

/-- The image in a slot. -/
def State.slotImage (s : State) (i : Nat) : Octets := flashOctets s.fw.flash (slotBase i) 786432

/-- State words of a slot. -/
def Firmware.slot (f : Firmware) (i : Nat) : FlashSlot := nth f.slots i ⟨0, 0, 0⟩

/-- A slot's state words changed. -/
def State.onSlot (s : State) (i : Nat) (g : FlashSlot → FlashSlot) : State :=
  s.onFw fun f => { f with slots := upd f.slots i g }

/-- Record of a firmware action (kind 0x0060). -/
def State.recordFw (s : State) (action slot version : Nat) : State :=
  s.record 0x0060 0 (toLE 1 action ++ toLE 1 slot ++ toLE 4 version)

/-- The slot that is not running. -/
def Firmware.other (f : Firmware) : Nat := match f.running with | some 0 => 1 | _ => 0

/-- Slot status (Table 18-13). -/
def Firmware.slotStatus (f : Firmware) (i : Nat) : Nat :=
  let x := f.slot i
  (if x.st = 0 then 0 else x.version) <<< 32 ||| b2n (f.running == some i) <<< 8 ||| x.trials <<< 4 ||| x.st

/-- State check of SEG_WRITE_INIT to the image object (R745). -/
def State.imageInitRefused (s : State) : Bool :=
  (match s.fw.running with | some i => (s.fw.slot i).st == 2 | none => true) || s.fw.programming.isSome ||
  s.dict.sessions.any fun x => match x.xfer with | some t => t.idx == 0x1040 | none => false

/-- An accepted SEG_WRITE_INIT: the target slot becomes EMPTY (R745). -/
def State.imageInit (s : State) : State :=
  (s.onSlot s.fw.other fun _ => ⟨0, 0, 0⟩).onFw fun f => { f with update := 1 }

/-- The content check of a received image (R746). -/
def State.checkImage (s : State) (o : Octets) : Option Nat :=
  if !imageLayoutOk o || o.length != 4096 + u32At o 8 then some abContent
  else if !imageSigned o || !s.imageFloorOk o then some abFirmware
  else none

/-- An image accepted: programming begins after the response (R746, R747). -/
def State.imageAccepted (s : State) (o : Octets) : State :=
  ((s.onFw fun f => { f with update := 2, programming := some o }).recordFw 0 s.fw.other (u32At o 4)).raise 390

/-- A firmware command allowed by Table 18-10. -/
def State.fwCommandAllowed (s : State) (c : Nat) : Bool :=
  match s.fw.running with
  | none => false
  | some i =>
    let me := (s.fw.slot i).st
    let o := s.fw.other
    let it := (s.fw.slot o).st
    if c = 1 then me == 3 && (it == 1 || it == 4 || it == 5) && s.imageVerifies (s.slotImage o) else me == 2

/-- An image of version `v` reaches CONFIRMED: in FIELD the version floor takes a higher version (R752). -/
def State.confirmFloor (s : State) (v : Nat) : State :=
  if s.sec.lifeCycle = 2 then s.onFw fun f => { f with floor := max f.floor v } else s

/-- The effect of a firmware command (Table 18-10, R752). -/
def State.fwCommand (s : State) (c : Nat) : State :=
  match s.fw.running with
  | none => s
  | some i =>
    let o := s.fw.other
    if c = 1 then
      (s.onSlot o fun x => { x with st := 2, trials := 0 }).recordFw 3 o (s.fw.slot o).version
    else if c = 2 then
      let s1 := s.onSlot i fun x => { x with st := 3 }
      let s2 := s1.onSlot o fun x => if x.st = 3 then { x with st := 4 } else x
      ((s2.confirmFloor s.fw.version).recordFw 4 i (s.fw.slot i).version).raise 394
    else (s.onSlot i fun x => { x with st := 5 }).recordFw 5 i (s.fw.slot i).version

/-! ### Boot selection -/

/-- The slots of a state, in slot order. -/
def State.slotsIn (s : State) (st : Nat) : List Nat := [0, 1].filter fun i => (s.fw.slot i).st == st

/-- A slot written under FLASH_PROG and holding a verifying image takes part in the boot as CONFIRMED
(DEDUCED, assumption log 16). -/
def State.adoptProgrammed (s : State) : State :=
  let s1 := [0, 1].foldl (fun s i =>
    if s.fw.progWritten.contains i && s.imageVerifies (s.slotImage i) then
      (s.onSlot i fun _ => ⟨3, 0, u32At (s.slotImage i) 4⟩).confirmFloor (u32At (s.slotImage i) 4)
    else s) s
  s1.onFw fun f => { f with progWritten := [] }

/-- A slot that fails verification at boot becomes EMPTY (R749). -/
def State.emptySlot (s : State) (i : Nat) : State :=
  (s.onSlot i fun _ => ⟨0, 0, 0⟩).recordFw 7 i (s.fw.slot i).version

/-- The first slot of a list that verifies; those before it become EMPTY. -/
def State.pickVerified (s : State) : List Nat → State × Option Nat
  | [] => (s, none)
  | i :: r => if s.imageVerifies (s.slotImage i) then (s, some i) else (s.emptySlot i).pickVerified r

/-- The boot ROM's choice by the rules of R749 in their order. -/
def State.selectSlot (s : State) : State × Option Nat :=
  let trial0 := (s.slotsIn 2).filter fun i => (s.fw.slot i).trials == 0
  let a := s.pickVerified trial0
  match a.2 with
  | some i => (a.1.onSlot i fun x => { x with trials := 1 }, some i)
  | none =>
    let trial1 := (a.1.slotsIn 2).filter fun i => (a.1.fw.slot i).trials != 0
    let s2 := trial1.foldl (fun s i =>
      ((s.onSlot i fun x => { x with st := 5 }).recordFw 6 i (s.fw.slot i).version).raise 393) a.1
    let b := s2.pickVerified (s2.slotsIn 3)
    match b.2 with
    | some i => (b.1, some i)
    | none =>
      let c := b.1.pickVerified (b.1.slotsIn 4)
      match c.2 with
      | some i => ((c.1.onSlot i fun x => { x with st := 3 }).confirmFloor (c.1.fw.slot i).version, some i)
      | none => (c.1, none)

/-! ### Keys and the vault -/

/-- Every open session that meets a condition closed, with the cause of its record (kind 0x0011): its pending safety set is
discarded (R584) and its transfer closed. -/
def State.closeSessions (s : State) (p : Session → Bool) (cause : Nat) : State :=
  let gone := s.dict.sessions.filter p
  let s1 := s.onDict fun d => { d with sessions := d.sessions.filter fun x => !p x }
  let s2 := s1.onSaf fun f =>
    match f.set.pending with
    | some q => if gone.any fun x => x.id == q.1 then { f with set := { f.set with pending := none, state := 0 } } else f
    | none => f
  let receiving := gone.any fun x => match x.xfer with | some t => t.write && t.idx == 0x1040 && !t.checking | none => false
  let s3 := if receiving then s2.onFw fun f => { f with update := 0 } else s2
  gone.foldl (fun s x => s.record 0x0011 x.id (toLE 1 cause)) s3

/-- A vault wipe: keys and wrapped keys gone, the epoch replaced, every session closed (R763); in MRAM only while its supply allows
a new write (R56). -/
def State.vaultWipe (s : State) : State :=
  let e := s.drawOctets 32
  let x := e.2.onSec fun x =>
    if s.power.mramOk then { x with keys := List.replicate 8 none, stored := List.replicate 8 none, epoch := e.1 }
    else { x with keys := List.replicate 8 none }
  x.closeSessions (fun _ => true) 5

/-- A key put into a slot, in the vault and wrapped in MRAM while its supply allows a new write (R56, R762). -/
def State.putKey (s : State) (i : Nat) (k : Option KeySlot) : State :=
  s.onSec fun x =>
    { x with keys := upd x.keys i fun _ => k, stored := if s.power.mramOk then upd x.stored i fun _ => k else x.stored }

/-- The key that opens sessions in a slot: the slot's own; in slot 0 the empty key with role CONFIGURE in BLANK (R125), with role
MONITOR while TAMPERED in PROVISIONED or FIELD (R765). -/
def State.keySlot (s : State) (i : Nat) : Option KeySlot :=
  if i = 0 && s.sec.lifeCycle == 0 then some ⟨2, true, []⟩
  else if i = 0 && s.sec.tampered && (s.sec.lifeCycle == 1 || s.sec.lifeCycle == 2) then some ⟨0, true, []⟩
  else nth s.sec.keys i none

/-- Octets of the customisation strings of R119, R120, R753 and Table 18-16. -/
def custom (s : List Nat) : Octets :=
  ([0x43, 0x58, 0x39, 0x36, 0x31, 0x32, 0x20] ++ s).map fun c => BitVec.ofNat 8 c

/-- "CX9612 SESSION". -/
def customSession : Octets := custom [0x53, 0x45, 0x53, 0x53, 0x49, 0x4F, 0x4E]
/-- "CX9612 REQ". -/
def customReq : Octets := custom [0x52, 0x45, 0x51]
/-- "CX9612 RSP". -/
def customRsp : Octets := custom [0x52, 0x53, 0x50]
/-- "CX9612 WRAP". -/
def customWrap : Octets := custom [0x57, 0x52, 0x41, 0x50]
/-- "CX9612 KCV". -/
def customKcv : Octets := custom [0x4B, 0x43, 0x56]

/-- A wrapped key opened (R753). -/
def unwrapKey (sessionKey : Octets) (slot seq : Nat) (w : Octets) : Octets :=
  List.zipWith (· ^^^ ·) w (Keccak.kmac256 sessionKey (toLE 1 slot ++ toLE 4 seq) 32 customWrap)

/-- Key check of a key (Table 18-16). -/
def keyCheck (k : Octets) : Nat := leNat (Keccak.kmac256 k [] 2 customKcv)

/-- Key slot status (Table 18-16). -/
def State.keyStatus (s : State) (i : Nat) : Nat :=
  match s.keySlot i with
  | none => 0xFF
  | some k => keyCheck k.key <<< 16 ||| b2n k.enabled <<< 8 ||| k.role

/-- Key slot writes are refused in BLANK, RETURN and SCRAPPED (R754). -/
def State.keyWriteState (s : State) : Option Nat :=
  if s.sec.lifeCycle = 1 ∨ s.sec.lifeCycle = 2 then none else some abState

/-- The content check of a key slot write (R753 to R755). -/
def State.checkKeyWrite (s : State) (x : Session) (i : Nat) (o : Octets) : Option Nat :=
  let role := u8At o 0
  let held := match nth s.sec.keys i none with | some k => decide (k.role > x.role) | none => false
  let layout := (role ≤ 3 || role == 0xFF) && u8At o 1 ≤ 1 && u16At o 2 == 0 && (role != 0xFF || allZero (slice o 4 32))
  let after := upd s.sec.keys i fun _ => if role = 0xFF then none else some ⟨role, bitAt (u8At o 1) 0, []⟩
  if o.length != 36 || !layout then some abContent
  else if (role != 0xFF && decide (role > x.role)) || held || (role == 3 && x.role != 3) then some abRole
  else if !(after.any fun k => match k with | some k => k.role == 3 && k.enabled | none => false) then some abContent
  else none

/-- An accepted key slot write (R753, R756). -/
def State.applyKeyWrite (s : State) (x : Session) (i initSeq : Nat) (o : Octets) : State :=
  let role := u8At o 0
  let key := unwrapKey x.key i initSeq (slice o 4 32)
  let k := if role = 0xFF then none else some ⟨role, bitAt (u8At o 1) 0, key⟩
  ((s.putKey i k).record 0x0072 0
    (toLE 1 i ++ toLE 1 role ++ toLE 2 (if role = 0xFF then 0 else keyCheck key))).raise 395

/-! ### Attestation -/

/-- Check of a challenge write (R758, Table 18-20). -/
def State.checkChallenge (s : State) : Option Nat :=
  if s.sec.lifeCycle = 4 then some abLifeCycle
  else if s.sec.attStatus = 1 then some abState
  else if s.sec.attIndex ≥ 2 ^ 40 then some abSignature
  else none

/-- An accepted challenge: the index is reserved in MRAM and signing begins (R759). While no MRAM write may start (R56) no index is
reserved, and signing does not begin (assumption log 70). -/
def State.applyChallenge (s : State) (o : Octets) : State :=
  if !s.power.mramOk then s.onSec fun x => { x with challenge := o } else
  let i := s.sec.attIndex + 1
  let s1 := s.onSec fun x => { x with attIndex := i, attStatus := 1, challenge := o }
  let s2 := if 2 ^ 40 - i = 2 ^ 20 - 1 then s1.raise 399 else s1
  if i = 2 ^ 40 then s2.raise 400 else s2

/-- The statement's signed part (Table 18-17). -/
def State.statementHead (s : State) (checkValue : Nat) : Octets :=
  let trial := match s.fw.running with | some i => (s.fw.slot i).st == 2 | none => false
  toLE 1 1 ++ toLE 1 s.sec.lifeCycle ++ toLE 2 (b2n trial <<< 1 ||| b2n s.sec.tampered) ++ toLE 4 s.fw.version ++
  toLE 8 Config.serial ++ toLE 4 checkValue ++ toLE 4 s.fw.floor ++ toLE 8 s.ledger.next ++ padTo 8 s.ledger.chain ++
  toLE 8 s.time.sec ++ toLE 4 s.time.ns ++ padTo 32 s.sec.challenge ++ zeros 4

/-- The signature completes (R760, R761). -/
def State.signatureDone (s : State) (checkValue : Nat) : State :=
  if s.sec.attStatus = 1 then
    let i := s.sec.attIndex - 1
    let h := s.statementHead checkValue
    let s1 := s.onSec fun x => { x with attStatus := 2, statement := h ++ padTo 9893 (Config.xmssSign i h) }
    (s1.record 0x0073 0 (toLE 8 i ++ s.sec.challenge.take 8)).raise 398
  else s

/-! ### Life cycle -/

/-- A transition of Table 18-21: some of (key required, authorisation required), or none. -/
def transitionRule (src dst : Nat) : Option (Bool × Bool) :=
  if src = 0 ∧ dst = 1 then some (true, false)
  else if src = 1 ∧ dst = 1 then some (true, false)
  else if src = 1 ∧ dst = 2 then some (true, false)
  else if (src = 1 ∨ src = 2) ∧ dst = 3 then some (false, true)
  else if src = 3 ∧ dst = 1 then some (true, true)
  else if src ≤ 3 ∧ dst = 4 then some (false, false)
  else none

/-- The session is of the kind that Table 18-21 names. -/
def State.transitionSession (s : State) (x : Session) (dst : Nat) : Bool :=
  let src := s.sec.lifeCycle
  if src = 0 ∨ src = 3 then x.emptyKey
  else if src = 1 ∧ dst = 1 ∨ dst = 3 then x.role == 3 || (x.emptyKey && s.sec.tampered)
  else x.role == 3

/-- The checks of a transition request in their order (R768). -/
def State.checkTransition (s : State) (x : Session) (o : Octets) : Option Nat :=
  let dst := u8At o 0
  let idle := ((List.range 4).all fun n => s.isStopped (.ring n)) && s.isStopped .safety && s.fw.programming.isNone
  if !s.transitionSession x dst then some abRole
  else if !idle then some abState
  else
    match transitionRule s.sec.lifeCycle dst with
    | none => some abContent
    | some (key, auth) =>
      if o.length != 44 || !allZero (slice o 1 3) || !allZero (slice o 40 4) || u32At o 4 != Config.serial % 2 ^ 32 ||
          (key && allZero (slice o 8 32)) || (!key && !allZero (slice o 8 32)) ||
          (auth && s.sec.authorised != some dst) then some abContent
      else none

/-- An accepted transition request waits for its response to leave (R770). -/
def State.applyTransition (s : State) (x : Session) (initSeq : Nat) (o : Octets) : State :=
  s.onSec fun y => { y with transition := some (u8At o 0, unwrapKey x.key 0 initSeq (slice o 8 32)) }

/-- A return authorisation verifies (R769). -/
def State.authorisationOk (s : State) (o : Octets) : Bool :=
  let p := u8At o 1
  o.length == 2824 && u8At o 0 ≤ 3 && inRange 1 3 p && u8At o 3 == 0 && allZero (o.drop (4 + sigLen p)) &&
  Config.xmssVerifies (u8At o 0) p (toLE 8 Config.serial ++ padTo 32 s.sec.returnChallenge ++ toLE 1 (u8At o 2))
    (slice o 4 (sigLen p))

/-- Slot 0 on entry to a state (Table 18-20). -/
def entryKey (dst : Nat) (key : Octets) : KeySlot :=
  if dst = 1 ∨ dst = 2 then ⟨3, true, key⟩ else if dst = 3 then ⟨2, true, []⟩ else ⟨0, true, []⟩

/-- Both copies of the RWS image marked invalid (R145, R771). -/
def Dict.imageWiped (d : Dict) : Dict :=
  { d with copyA := { d.copyA with valid := false }, copyB := { d.copyB with valid := false } }

/-- Wipes, key and state of an accepted transition, in that order, and its record (R770, R771, R752, R765). The RWS image and
the safety area are wiped by the caller's `wipeSafety`. -/
def State.transitionEffect (s : State) (dst : Nat) (key : Octets) : State :=
  let src := s.sec.lifeCycle
  let s1 := s.vaultWipe
  let wipe := dst = 4 ∨ (src = 3 ∧ dst = 1)
  let s2 := if wipe then s1.onDict Dict.imageWiped else s1
  let s3 := if dst = 4 then
      (s2.onSec fun x => { x with secretDestroyed := true }).onLedger fun l => { l with records := [], chain := zeros 8 }
    else s2
  let s4 := s3.putKey 0 (some (entryKey dst key))
  let c := s4.drawOctets 32
  let s5 := c.2.onSec fun x =>
    { x with lifeCycle := dst, tampered := false, sensors := 0, authorised := none, transition := none,
             returnChallenge := c.1, changed := true }
  let s6 := if dst = 2 then s5.onFw fun f => { f with floor := max f.floor f.version } else s5
  s6.recordNow 0x0070 0 (toLE 1 src ++ toLE 1 dst)

/-- Tamper status (Table 18-23). -/
def Security.tamperStatus (x : Security) : Nat := x.sensors <<< 1 ||| b2n x.tampered

/-- Objects an index of which is available in the life-cycle state (Table 18-20; R125, R766, Table 03-11 step 7). -/
def State.available (s : State) (idx : Nat) (write : Bool) : Bool :=
  let lc := s.sec.lifeCycle
  if lc = 0 then 0x1000 ≤ idx && idx ≤ 0x18FF
  else if lc = 1 then true
  else if lc = 2 then idx != 0x2407
  else if lc = 3 then 0x1000 ≤ idx && idx ≤ 0x1AFF
  else 0x1000 ≤ idx && idx ≤ 0x1AFF && !write

/-- Values of the management objects (0x1020–0x1A03) that the state computes. -/
def State.readManagement (s : State) (idx sub : Nat) : Option Octets :=
  if idx = 0x100A then some (toLE 4 s.fw.version)
  else if idx = 0x1012 then some (toLE 1 s.dict.storeStatus)
  else if idx = 0x1018 then some (toLE 8 Config.serial)
  else if idx = 0x1020 then some (toLE 4 s.power.cause)
  else if idx = 0x1022 then some (toLE 1 s.power.mode)
  else if idx = 0x1030 then some (toLE 2 (ofSigned 16 (nth s.sensors.temps (sub - 1) 0)))
  else if idx = 0x1031 then some (toLE 2 (nth s.sensors.volts (sub - 1) 0))
  else if idx = 0x1033 then some (toLE 4 s.sensors.status)
  else if idx = 0x1041 then some (toLE 8 (s.fw.slotStatus (sub - 1)))
  else if idx = 0x1042 then some (toLE 1 s.fw.update)
  else if idx = 0x1044 then some (toLE 4 s.fw.floor)
  else if idx = 0x1800 then some (toLE 1 s.sec.lifeCycle)
  else if idx = 0x1802 then some (padTo 32 s.sec.returnChallenge)
  else if idx = 0x1811 then some (toLE 4 (s.keyStatus (sub - 1)))
  else if idx = 0x1821 then some (toLE 1 s.sec.attStatus)
  else if idx = 0x1822 then some s.sec.statement
  else if idx = 0x1823 then some (padTo 68 Config.publicKey)
  else if idx = 0x1824 then some (padTo 2824 Config.certificate)
  else if idx = 0x1825 then some (toLE 8 (2 ^ 40 - s.sec.attIndex))
  else if idx = 0x1830 then some (toLE 4 s.sec.tamperStatus)
  else if idx = 0x1A01 then some (toLE 8 (if sub = 1 then s.ledger.oldest else s.ledger.next))
  else if idx = 0x1A02 then some (toLE 8 s.ledger.cursor)
  else if idx = 0x1A03 then some s.ledger.window
  else none

end Sys2Proof.Machine
end

