-- ==== Sys2Proof/Machine/SafetyEval.lean ====
section
/-! DEFINITION. The two channels' evaluation of a safety cycle: safety functions, arm states, comparison, brake test, degraded
mode (spec/12_safety_functions.md). -/

namespace Sys2Proof.Machine

/-! ### Distances -/

/-- Numbers in rising order. -/
def ratInsert (x : Rat) : List Rat → List Rat
  | [] => [x]
  | y :: r => if x ≤ y then x :: y :: r else y :: ratInsert x r

/-- A segment's motion along one axis, and the box's extent on it. -/
structure AxisSpan where
  a : Rat
  d : Rat
  lo : Rat
  hi : Rat

/-- The axis' distance from the box near the parameter `m`, as constant and slope. -/
def AxisSpan.gap (x : AxisSpan) (m : Rat) : Rat × Rat :=
  let p := x.a + m * x.d
  if p < x.lo then (x.lo - x.a, -x.d) else if x.hi < p then (x.a - x.hi, x.d) else (0, 0)

/-- Parameters inside the segment at which it crosses a face's plane. -/
def AxisSpan.cuts (x : AxisSpan) : List Rat :=
  if x.d = 0 then []
  else [(x.lo - x.a) / x.d, (x.hi - x.a) / x.d].filter fun t => decide (0 < t) && decide (t < 1)

/-- Sum over the axes. -/
def ratSum (l : List Rat) : Rat := l.foldl (fun a x => a + x) 0

/-- Least squared distance on a stretch on which no face's plane is crossed. -/
def stretchMin (ax : List AxisSpan) (t0 t1 : Rat) : Rat :=
  let g := ax.map fun x => x.gap ((t0 + t1) / 2)
  let ss := ratSum (g.map fun y => y.2 * y.2)
  let u := if ss = 0 then t0 else -ratSum (g.map fun y => y.1 * y.2) / ss
  let t := if u < t0 then t0 else if t1 < u then t1 else u
  ratSum (g.map fun y => (y.1 + y.2 * t) * (y.1 + y.2 * t))

/-- Least squared distance over consecutive stretches. -/
def stretches (ax : List AxisSpan) : List Rat → Option Rat
  | t0 :: t1 :: r =>
    let v := stretchMin ax t0 t1
    match stretches ax (t1 :: r) with
    | some w => some (if v < w then v else w)
    | none => some v
  | _ => none

/-- Squared distance from a segment to a box, exact (R522, R526). -/
def segBox2 (a b lo hi : List Rat) : Rat :=
  let ax : List AxisSpan := (List.range 3).map fun i => ⟨nth a i 0, nth b i 0 - nth a i 0, nth lo i 0, nth hi i 0⟩
  let ts := (ax.flatMap AxisSpan.cuts ++ [0, 1]).foldl (fun l t => ratInsert t l) []
  (stretches ax ts).getD 0

/-- Squared distance from a segment to a point, exact. -/
def segPoint2 (a b p : List Rat) : Rat := segBox2 a b p p

/-- Used safety capsules of an arm: link, ends in the link frame, radius. -/
def State.safCapsules (s : State) (a : Nat) : List (Nat × List Int × List Int × Nat) :=
  (chunks 32 96 (s.obj 0xA111 0)).filterMap fun c =>
    if u8At c 0 = a then
      let v := fun o => [i32At c o, i32At c (o + 4), i32At c (o + 8)]
      some (u8At c 1, v 4, v 16, u32At c 28)
    else none

/-- Cell-frame ends and radius of the safety capsules of an arm by a channel's kinematics. -/
def State.capsuleEndsSafe (s : State) (chB : Bool) (a : Nat) (q : List Int) : List (List Rat × List Rat × Nat) :=
  let k := slice (s.obj 0xA110 0) (1600 * a) 1600
  (s.safCapsules a).map fun c =>
    (Config.safetyPoint chB k q c.1 c.2.1, Config.safetyPoint chB k q c.1 c.2.2.1, c.2.2.2)

/-! ### What a channel finds for an arm in a cycle -/

/-- Position and speed of the members: q_j(s), and v_j(s) where both positions are known (R523). -/
def State.safQ (s : State) (a : Nat) : List (Option Int × Option Int) :=
  (s.safMembers a).map fun j =>
    let p := nth s.saf.joints j SafPos.initial
    (p.pos, match p.pos, p.prev with | some x, some y => some (2 * (x - y)) | _, _ => none)

/-- Entries of the demand table that demand, by function (Table 12-15). -/
def State.demands (s : State) (fn a : Nat) : Bool :=
  (List.range 32).any fun e =>
    let r := demandRec (s.obj 0xA140 0) e
    u8At r 0 == 1 && u8At r 2 == fn && bitAt (u16At r 4) a && !bitAt s.saf.io.logical (u8At r 1)

/-- Zone `z` applies (R522). -/
def State.zoneApplies (s : State) (z : Nat) : Bool :=
  let f := u8At (zoneRec (s.obj 0xA120 0) z) 0
  bitAt f 0 && (bitAt f 2 || (List.range 32).any fun e =>
    let r := demandRec (s.obj 0xA140 0) e
    u8At r 0 == 1 && u8At r 2 == 7 && u8At r 3 == z && !bitAt s.saf.io.logical (u8At r 1))

/-- SLS sets that apply to an arm: set 0 and those demanded. -/
def State.slsSets (s : State) (a : Nat) : List Nat := 0 :: [1, 2, 3].filter fun i => s.demands (3 + i) a

/-- Least of a list of numbers, `d` for none. -/
def leastNat (d : Nat) (l : List Nat) : Nat := match l with | [] => d | x :: r => r.foldl min x

/-- v_r of an arm in mm/s (the text before R522). -/
def cartSpeed (now before : List (List Rat × List Rat × Nat)) : Nat :=
  let dist := fun (p q : List Rat) => ceilSqrt ((p.zip q).foldl (fun v x => v + (x.1 - x.2) * (x.1 - x.2)) 0)
  (now.zip before).foldl (fun m x => max m (20 * max (dist x.1.1 x.2.1) (dist x.1.2.1 x.2.2.1))) 0

/-- A zone is violated by capsule ends (R522). -/
def zoneViolated (z : Octets) (caps : List (List Rat × List Rat × Nat)) : Bool :=
  let lo := (List.range 3).map fun i => ((i32At z (4 + 4 * i) : Int) : Rat)
  let hi := (List.range 3).map fun i => ((i32At z (16 + 4 * i) : Int) : Rat)
  caps.any fun c =>
    let r : Rat := (c.2.2 : Rat)
    if bitAt (u8At z 0) 1 then decide (segBox2 c.1 c.2.1 lo hi < r * r)
    else [c.1, c.2.1].any fun p => (List.range 3).any fun i =>
      decide (nth p i 0 - nth lo i 0 < r) || decide (nth hi i 0 - nth p i 0 < r)

/-- d of R526 in 10 µm by a channel, over the occupied bricks. -/
def State.ssmDistance (s : State) (chB : Bool) (caps : List (List Rat × List Rat × Nat)) : Option Nat :=
  let o := s.obj 0xA130 0
  let org := (List.range 3).map fun i => ((i32At o (4 * i) : Int) : Rat)
  let one := fun (b : Nat) (c : List Rat × List Rat × Nat) =>
    let p := brickXyz b
    let lo := [p.1, p.2.1, p.2.2].zip org |>.map fun x => x.2 + (x.1 : Rat) * 32000
    if chB then floorSqrt (segPoint2 c.1 c.2.1 (lo.map (· + 16000))) - c.2.2 - 27713
    else floorSqrt (segBox2 c.1 c.2.1 lo (lo.map (· + 32000))) - c.2.2
  let l := s.saf.occ.flatMap fun b => caps.map (one b)
  match l with
  | [] => none
  | x :: r => some (r.foldl min x)

/-- S_p of R527 in 10 µm. -/
def protective (r : Octets) (vr : Nat) : Nat :=
  let vh := u16At r 24
  let tr := u16At r 14
  let ts := u16At r 12
  (2 * vh * (tr + ts) + 2 * vr * tr + vr * ts + 19) / 20 + 100 * (u16At r 16 + u16At r 18 + u16At r 20)

/-- SSM demand of a channel after a cycle (R525, R528): demand, cycles in a row at or above the clearing distance. -/
def ssmNext (x : ArmSafe) (crowd : Bool) (d : Option Nat) (sp hyst : Nat) : Bool × Nat :=
  let near := crowd || (match d with | some n => decide (n < sp) | none => false)
  let far := !crowd && (match d with | some n => decide (sp + hyst ≤ n) | none => true)
  if near then (true, 0)
  else if !x.ssm then (false, 0)
  else if far then (if 4 ≤ x.ssmClear + 1 then (false, 0) else (true, x.ssmClear + 1))
  else (true, 0)

/-- The ramp envelope of R520 `n` safety cycles after entry. -/
def envelope (v : Int) (n stop still : Nat) : Rat :=
  let t : Rat := (n : Rat) / 2
  let t0 : Rat := (stop : Rat)
  if t ≤ 2 then (v.natAbs : Rat)
  else if t0 ≤ t then (still : Rat)
  else (v.natAbs : Rat) * (t0 - t) / (t0 - 2) + (still : Rat)

/-- Any brake age of a member at twice the interval (R532). -/
def State.brakeOverdue (s : State) (a : Nat) : Bool :=
  (s.safMembers a).any fun j =>
    let x := nth s.saf.ages j ⟨0, neverPassed, 0, false⟩
    decide (2 * u32At (s.obj 0xA100 0) 8 ≤ min neverPassed (x.age + (s.time.ringNs - x.at_) / 1000000000))

/-- A channel's other half. -/
def Safety.channel (f : Safety) (chB : Bool) : SafChannel := if chB then f.chB else f.chA

/-- Arm `a` as a channel has it. -/
def Safety.arm (f : Safety) (chB : Bool) (a : Nat) : ArmSafe := nth (f.channel chB).arms a ArmSafe.initial

/-- What a channel finds for an arm in a safety cycle, before any transition. -/
structure ArmFind where
  sto : Bool
  ss1 : Bool
  ss2 : Bool
  /-- Violations with reaction STO and with reaction SS1. -/
  vSto : Bool
  vSs1 : Bool
  lost : Bool
  parked : Bool
  ack : Bool
  /-- SS1 has ended, T_STOP has elapsed. -/
  ended : Bool
  elapsed : Bool
  arm : ArmSafe

/-- The arm's acknowledge of the cycle, by the object or by a falling edge of its input (R516 to R518). -/
def State.ackOf (s : State) (a : Nat) : Bool :=
  let r := s.safArm a
  let edge := u8At r 26 ≤ 15 && bitAt s.saf.io.logicalPrev (u8At r 26) && !bitAt s.saf.io.logical (u8At r 26)
  edge || (!armFlag r 6 && bitAt s.saf.acksNow a)

/-- The safety functions of an arm as a channel evaluates them in cycle `sc`, without a result of the other channel (R501,
R520 to R528, Table 12-6). -/
def State.findArm (s : State) (chB : Bool) (a sc : Nat) : ArmFind :=
  let r := s.safArm a
  let x := s.saf.arm chB a
  let js := s.safMembers a
  let qs := s.safQ a
  let lost := qs.any fun q => q.1.isNone
  let q := qs.map fun q => q.1.getD 0
  let jq := js.zip qs
  let stop := u16At r 2
  let n := sc - x.entry
  let still := fun (j : Nat) => u16At (s.safLimit j) 44
  let slow := jq.all fun y => match y.2.2 with | some v => decide (v.natAbs ≤ still y.1) | none => false
  let env := (jq.zipIdx).any fun y =>
    match y.1.2.2 with
    | some v => decide (envelope (nth x.speed y.2 0) n stop (still y.1.1) < (v.natAbs : Rat))
    | none => false
  let sos := x.st = 3 ∧ (jq.zipIdx).any (fun y =>
    (match y.1.2.1 with
     | some p => decide (u32At (s.safLimit y.1.1) 28 < (p - nth x.cap y.2 0).natAbs)
     | none => false) ||
    (match y.1.2.2 with | some v => decide (still y.1.1 < v.natAbs) | none => false)) = true
  let sets := s.slsSets a
  let sls := jq.any fun y =>
    match y.2.2 with
    | some v => decide (leastNat 65535 (sets.map fun i => u16At (s.safLimit y.1) (36 + 2 * i)) < v.natAbs)
    | none => false
  let limit := jq.any fun y =>
    match y.2.1 with
    | some p => decide (p < i64At (s.safLimit y.1) 0) || decide (i64At (s.safLimit y.1) 8 < p)
    | none => false
  let caps := s.capsuleEndsSafe chB a q
  let known := !lost && qs.all fun q => q.2.isSome
  let before := s.capsuleEndsSafe chB a (js.map fun j => ((nth s.saf.joints j SafPos.initial).prev).getD 0)
  let vr := if known then cartSpeed caps before else 0
  let vdeg := if s.saf.degraded.isSome then [u16At (s.obj 0xA100 0) 2] else []
  let cart := known && decide (leastNat 65535 (vdeg ++ sets.map fun i => u16At r (4 + 2 * i)) < vr)
  let zs := if lost then [] else (List.range 16).filter fun z =>
    s.zoneApplies z && bitAt (u16At (zoneRec (s.obj 0xA120 0) z) 2) a && zoneViolated (zoneRec (s.obj 0xA120 0) z) caps
  let zone1 := zs.any fun z => bitAt (u8At (zoneRec (s.obj 0xA120 0) z) 0) 3
  let zone0 := zs.any fun z => !bitAt (u8At (zoneRec (s.obj 0xA120 0) z) 0) 3
  let d := if armFlag r 1 && known then s.ssmDistance chB caps else x.dist.map (· * 1000)
  let crowd := decide (2048 < s.saf.occCount)
  let ssm := if !armFlag r 1 then (false, 0)
    else if crowd then (true, 0)
    else if known then ssmNext x false d (protective r vr) (100 * u16At r 22)
    else (x.ssm, x.ssmClear)
  let ack := s.ackOf a
  let hold := armFlag r 1 && armFlag r 2 && !armFlag r 3 && (ssm.1 || (x.ssmHold && !ack))
  let other := (s.saf.arm (!chB) a).ssm
  let ssmStop := ssm.1 || hold || (x.st == 3 && armFlag r 1 && other)
  let viol := sls || cart || limit
  let react1 := armFlag r 4
  let park := s.saf.degraded.isSome && !js.isEmpty && jq.all fun y =>
    match y.2.1, y.2.2 with
    | some p, some v =>
      decide ((p - i64At (s.safLimit y.1) 16).natAbs ≤ u32At (s.safLimit y.1) 24) && decide (v.natAbs ≤ still y.1)
    | _, _ => false
  let ss1 := s.demands 2 a || nth s.saf.hostStop a 0 == 1 || (ssm.1 && !armFlag r 2) || s.saf.degExpired
  let ss2 := s.demands 3 a || nth s.saf.hostStop a 0 == 2 || (ssmStop && armFlag r 2) || nth s.saf.brakeFail a false ||
    s.brakeOverdue a
  let ramp := (x.st == 1 && armFlag r 5 || x.st == 2) && env
  let sto := s.demands 1 a
  let elapsed := decide (2 * stop ≤ n)
  let ready := js.all fun j => decide (2 ≤ (nth s.saf.joints j SafPos.initial).run)
  { sto := sto, ss1 := ss1, ss2 := ss2, vSto := (viol && !react1) || zone0 || ramp || decide sos, vSs1 := (viol && react1) || zone1,
    lost := lost, parked := park, ack := ack && !sto && !ss1 && !lost && ready && s.isRunning .safety,
    ended := elapsed || (armFlag r 5 && slow), elapsed := elapsed,
    arm := { x with ssm := ssm.1, ssmClear := ssm.2, dist := d.map (· / 1000), cart := cart, zone := !zs.isEmpty, sls := sls,
                    limit := limit, sos := decide sos, parked := park, ssmHold := hold } }

/-- The state an arm goes to by Table 12-5, the row placed higher first (R514, R517); an arm that is parked is so in the cycle of
the degraded timer's end as well (R535, R539). -/
def ArmFind.next (f : ArmFind) : Nat :=
  let st := f.arm.st
  if f.sto || f.lost || f.vSto || (st == 1 && f.ended) || f.parked then 0
  else if (inRange 2 4 st) && (f.ss1 || f.vSs1) then 1
  else if st = 4 ∧ f.ss2 = true then 2
  else if st = 2 ∧ f.elapsed = true then 3
  else if st = 3 ∧ f.ss2 = false then 4
  else if st = 0 ∧ f.ack = true then 4
  else st

/-- An event for an arm, once in a safety cycle whichever channel finds it first. -/
def State.armEvent (s : State) (ev a : Nat) (on : Bool) : State :=
  if !on || s.saf.raised.contains (ev, a) then s
  else (s.onSaf fun f => { f with raised := (ev, a) :: f.raised }).raise ev

/-- An arm of a channel set. -/
def State.putArm (s : State) (chB : Bool) (a : Nat) (x : ArmSafe) : State :=
  s.onSaf fun f =>
    if chB then { f with chB := { f.chB with arms := upd f.chB.arms a fun _ => x } }
    else { f with chA := { f.chA with arms := upd f.chA.arms a fun _ => x } }

/-- An arm entered into a state: what the entry keeps (R519 to R521). -/
def State.enterArm (s : State) (x : ArmSafe) (a st sc : Nat) : ArmSafe :=
  if st = x.st then x
  else
    { x with st := st, entry := sc,
             speed := if st = 1 ∨ st = 2 then (s.safQ a).map fun q => ((q.2.getD 0).natAbs : Int) else x.speed,
             cap := if st = 3 then (s.safQ a).map fun q => q.1.getD 0 else x.cap,
             stopReq := if st = 1 ∨ st = 2 then true else if st = 4 then false else x.stopReq }

/-- A channel's decision for one arm (R514 to R528). -/
def State.decideArm (s : State) (chB : Bool) (sc a : Nat) : State :=
  if !s.safEnabled a then
    s.putArm chB a { ArmSafe.initial with stopReq := (s.saf.arm chB a).stopReq }
  else
    let old := s.saf.arm chB a
    let f := s.findArm chB a sc
    let st := f.next
    let x := s.enterArm f.arm a st sc
    let s1 := (s.putArm chB a x).onSaf fun g => { g with posLost := upd g.posLost a fun _ => f.lost }
    let s2 := (((s1.armEvent 445 a f.lost).armEvent 435 a (x.sos && !old.sos)).armEvent 436 a
      ((x.sls || x.cart) && !(old.sls || old.cart))).armEvent 437 a (x.limit && !old.limit)
    let s3 := ((s2.armEvent 438 a (x.zone && !old.zone)).armEvent 439 a (x.ssm && !old.ssm)).armEvent 440 a (!x.ssm && old.ssm)
    let s4 := s3.armEvent 449 a (old.st == 0 && st == 4)
    if st = old.st then s4
    else s4.armEvent (432 + st) a (st ≤ 2)

/-! ### Outputs (R515, R563, R565, R791) -/

/-- A channel requests a pair on. -/
def State.pairWanted (s : State) (chB : Bool) (n : Nat) : Bool :=
  let role := u8At (s.safPair n) 0
  s.isRunning .safety &&
  (role == 2 || (role == 1 && (List.range 12).any fun a =>
    s.safEnabled a && bitAt (u8At (s.safArm a) 0) n && (s.saf.arm chB a).st != 0))

/-- An output of the pair is on. -/
def State.soPair (s : State) (n : Nat) : Bool := s.saf.soA.getLsbD n || s.saf.soB.getLsbD n

/-- The outputs of a channel follow its decision while the unit acts; a pair whose EDM input is not high does not switch on. -/
def State.driveOutputs (s : State) (chB : Bool) : State :=
  if !s.pair.acting then s.setSo chB 0#8
  else
    let cur := if chB then s.saf.soB else s.saf.soA
    let blocked := (List.range 8).filter fun n =>
      s.pairWanted chB n && !s.soPair n &&
      (match s.edmOf n with | some m => !s.edmHigh m && !bitAt s.saf.io.edmWaive n | none => false)
    let v := maskOf ((List.range 8).filter fun n => s.pairWanted chB n && (!blocked.contains n || cur.getLsbD n))
    let s1 := s.setSo chB (BitVec.ofNat 8 v)
    if blocked.isEmpty then s1 else s1.ioFault 0x0183

/-- At the start of acting the pairs that the channels request on switch on without the check of R565 (R791). -/
def State.takeOverOutputs (s : State) : State :=
  let s1 := s.onIo fun x => { x with edmWaive := 0xFF }
  ((s1.driveOutputs false).driveOutputs true).onIo fun x => { x with edmWaive := 0 }

/-- A channel's decision of the cycle under evaluation, and its outputs (R502, R514). -/
def State.decide_ (s : State) (chB : Bool) : State :=
  match s.saf.cycle with
  | none => s
  | some sc =>
    if !s.saf.closed || !s.isRunning .safety || (s.saf.channel chB).decided == some sc then s
    else
      let s1 := (List.range 12).foldl (fun s a => s.decideArm chB sc a) s
      let s2 := s1.onSaf fun f =>
        if chB then { f with chB := { f.chB with decided := some sc } } else { f with chA := { f.chA with decided := some sc } }
      s2.driveOutputs chB

/-! ### Brake test (R529 to R532) -/

/-- Age of a joint's last passed test in s, sticking (R532, R548). -/
def State.brakeAge (s : State) (j : Nat) : Nat :=
  let x := nth s.saf.ages j ⟨0, neverPassed, 0, false⟩
  min neverPassed (x.age + (s.time.ringNs - x.at_) / 1000000000)

def State.onAge (s : State) (j : Nat) (f : BrakeAge → BrakeAge) : State := s.onSaf fun x => { x with ages := upd x.ages j f }

/-- Refusal of a brake test request (R529, R545). -/
def State.brakeRefused (s : State) (v : Nat) : Option Nat :=
  let a := field v 27 24
  let slots := (slice (s.safArm a) 32 16).map (·.toNat)
  if !s.isRunning .safety || (s.saf.arm false a).st != 3 || (s.saf.arm true a).st != 3 || s.saf.brake.isSome || s.saf.degraded.isSome then some abState
  else if (bitsOf 16 v).any fun i => nth slots i 0xFF > 95 then some abRange
  else none

/-- A brake test starts with the first joint of its mask (R530). -/
def State.brakeStart (s : State) (v : Nat) : State :=
  let a := field v 27 24
  let js := (bitsOf 16 v).map fun i => u8At (s.safArm a) (32 + i)
  let s1 := s.onSaf fun f => { f with brake := some ⟨a, js, 0, field v 23 16, none, s.time.ringNs⟩ }
  match js with
  | j :: _ => s1.onAge j fun x => { x with result := 3 }
  | [] => s1

/-- A joint has failed: its arm's test stops, BRAKE_FAIL, degraded cause 3 (R531, Table 12-8). -/
def State.brakeFailed (s : State) (a j : Nat) : State :=
  let s1 := (s.onAge j fun x => { x with result := 2 }).onSaf fun f =>
    { f with brake := none, brakeFail := upd f.brakeFail a fun _ => true, brakePassed := upd f.brakePassed a fun _ => [] }
  (s1.raise 447).degrade 3

/-- A channel finds the joint under test beyond W_BRK in a current phase: the joint fails and its arm's test stops at once (R530,
R531). -/
def State.brakeWatch (s : State) : State :=
  match s.saf.brake with
  | some t =>
    match t.joints with
    | j :: _ =>
      match t.start, (nth s.saf.joints j SafPos.initial).pos with
      | some q0, some q =>
        if t.phase ≠ 0 ∧ u32At (s.safLimit j) 32 < (q - q0).natAbs then s.brakeFailed t.arm j else s
      | _, _ => s
    | [] => s
  | none => s

/-- A joint has passed; BRAKE_FAIL clears when every joint of the arm has passed since (R530 to R532). -/
def State.brakePass (s : State) (t : BrakeTest) (j : Nat) (rest : List Nat) : State :=
  let done := j :: (nth s.saf.brakePassed t.arm [])
  let all := (s.safMembers t.arm).all fun x => done.contains x
  let s1 := (s.onAge j fun _ => ⟨1, 0, s.time.ringNs, false⟩).onSaf fun f =>
    { f with
      brake := if rest.isEmpty then none else some { t with joints := rest, phase := 0, start := none, at_ := s.time.ringNs }
      brakePassed := upd f.brakePassed t.arm fun _ => done
      brakeFail := if all then upd f.brakeFail t.arm fun _ => false else f.brakeFail }
  let s2 := s1.raise 446
  match rest with
  | k :: _ => s2.onAge k fun x => { x with result := 3 }
  | [] => s2

/-- A brake test phase ends, 200 ms after it began for the first one and 500 ms for the two with current (R530). -/
def State.brakePhaseEnd (s : State) : State :=
  match s.saf.brake with
  | none => s
  | some t =>
    match t.joints with
    | [] => s.onSaf fun f => { f with brake := none }
    | j :: rest =>
      let s1 := s.advanceTo (t.at_ + (if t.phase = 0 then 200000000 else 500000000))
      let pos := (nth s.saf.joints j SafPos.initial).pos
      let next : BrakeTest := { t with phase := t.phase + 1, at_ := s1.time.ringNs }
      if t.phase = 0 then s1.onSaf fun f => { f with brake := some { next with start := pos } }
      else if t.phase = 1 then s1.onSaf fun f => { f with brake := some next }
      else s1.brakePass t j rest

/-- A joint's test age reaches the interval (R532). -/
def State.brakeDue (s : State) (j : Nat) : State :=
  let x := nth s.saf.ages j ⟨0, neverPassed, 0, false⟩
  let iv := u32At (s.obj 0xA100 0) 8
  let want := if x.due then 2 * iv else iv
  let s1 := if s.brakeAge j < want then s.advanceTo (x.at_ + 1000000000 * (want - x.age)) else s
  if x.due || decide (s1.brakeAge j < iv) then s1 else (s1.onAge j fun y => { y with due := true }).raise 448

/-- The ages stored in MRAM (R532), unless no new MRAM write starts (R56). -/
def State.brakeStore (s : State) : State :=
  if s.power.mramOk then s.onSaf fun f => { f with agesStored := (List.range 96).map s.brakeAge } else s

/-! ### Comparison and the end of a cycle (R508 to R510, R536) -/

/-- Arms that differ in a tolerant field, counted as Table 12-2 states: Cartesian SLS, zone, SSM. -/
def State.tolerantDiff (s : State) (i : Nat) : Bool :=
  let x := s.saf.arm false (i / 3)
  let y := s.saf.arm true (i / 3)
  if i % 3 = 0 then x.cart != y.cart else if i % 3 = 1 then x.zone != y.zone else x.ssm && !y.ssm

/-- The decision records are compared: an exact field differs by a defect of a channel (`mismatch`), or an arm's states differ
without a tolerant difference behind it (R508); tolerant differences are counted (R509). A fault found here wins over the end of
degraded mode (R536, R538). -/
def State.compare (s : State) (mismatch : Bool) : State :=
  match s.saf.cycle with
  | none => s
  | some sc =>
    if !s.isRunning .safety || s.saf.chA.decided != some sc || s.saf.chB.decided != some sc then s
    else
      let diff := fun a =>
        let x := s.saf.arm false a
        let y := s.saf.arm true a
        x.cart != y.cart || x.zone != y.zone || x.ssm != y.ssm
      let apart := fun a => (s.saf.arm false a).st != (s.saf.arm true a).st
      let s1 := s.onSaf fun f => { f with
        tolerated := f.tolerated.zipIdx.map fun x => diff x.2 || (x.1 && apart x.2)
        disagree := f.disagree.zipIdx.map fun x => if s.tolerantDiff x.2 then x.1 + 1 else 0 }
      let s2 := s1.raiseAll ((List.range 36).filterMap fun i => if nth s1.saf.disagree i 0 = 1 then some 444 else none)
      if mismatch || (List.range 12).any fun a => apart a && !nth s1.saf.tolerated a false then s2.fault .safety 0x0103
      else if (List.range 36).any fun i => decide (u16At (s.obj 0xA100 0) 4 ≤ nth s1.saf.disagree i 0) then
        s2.fault .safety 0x0104
      else if s2.saf.degraded.isSome &&
          (List.range 12).all fun a => (s2.saf.arm false a).st == 0 && (s2.saf.arm true a).st == 0 then
        (s2.raise 442).fault .safety 0x0107
      else s2

/-! ### Function state (R540 to R543, R551, R581, R590) -/

/-- A used binding names a pannier-table entry as R581 asks, on a ring with a period of at most 100 µs. -/
def State.bindingOk (s : State) (r : Octets) : Bool :=
  decide (s.period (u8At r 1) ≤ 100000) &&
  (s.panTable (u8At r 1)).any fun e =>
    e.addr == u8At r 2 && e.sub == u8At r 3 && bitAt e.flags 0 &&
    (if u8At r 0 = 1 then e.profile == 1 && e.bind == u8At r 4 else e.profile == 3)

/-- START of the safety function: inputs at 0, bindings LOST, no degraded mode, then its start checks in the configuration in
force (R540, R551, R581, R590). A fault of channel B that outlasted a main reset is its fault again (Table 12-8; assumption log
70). -/
def State.safetyStart (s : State) : State :=
  let s1 := s.onSaf fun f => { f with
    io := { f.io with runs := List.replicate 40 0, filt := 0, frozen := 0, pulseFail := 0, pulseLast := 0, logical := 0,
                      logicalPrev := 0, started := s.time.ringNs, edmLow := 0, edmWaive := 0 }
    bindings := List.replicate 104 SafBinding.initial, joints := List.replicate 96 SafPos.initial, degraded := none,
    degExpired := false, disagree := List.replicate 36 0, tolerated := List.replicate 12 false, acks := 0, brake := none,
    chA := SafChannel.initial, chB := SafChannel.initial }
  let check := checkValue (safeValues s1.dict.store)
  if s1.saf.faultB then s1.fault .safety 0x0102 else
  let bound := fun j => s1.safBindings.any fun x => u8At x.2 0 == 1 && u8At x.2 4 == j
  if s1.saf.set.force ≠ some check then s1.fault .safety 0x0108
  else if (List.range 12).any fun a => (s1.safMembers a).any fun j => !bound j then s1.fault .safety 0x0109
  else if !safBetweenOk (fun i => s1.obj i 0) || s1.safBindings.any fun x => !s1.bindingOk x.2 then s1.fault .safety 0x0184
  else s1

/-- The safety function leaves RUNNING by STOP: every output off (R542). -/
def State.safetyStop (s : State) : State := s.soOff.onSaf fun f => { f with brake := none }

/-- No cause of Table 12-8 is present (R543): no channel at its temperature limit, no output that reads back high while off, no
contactor that has not dropped out, no latched discrepancy, no lost gateway binding, no failed brake test. The other faults are
gone on entry (assumption log 26). -/
def State.safetyCauseGone (s : State) : Bool :=
  let io := s.saf.io
  let hot := decide (1200 ≤ highest s.sensors.temps 20 23) || s.sensors.safaAlarm
  let lost := s.safBindings.any fun x => u8At x.2 0 == 2 && (nth s.saf.bindings x.1 SafBinding.initial).lost
  let off := fun (ab : Bool) (v : Nat) => (List.range 8).any fun n =>
    bitAt v n && !(if ab then s.saf.soB else s.saf.soA).getLsbD n
  let edm := (List.range 8).any fun n => match s.edmOf n with | some m => u8At (s.safPair n) 0 == 1 && !s.edmHigh m | none => false
  let disc := (List.range 16).any fun n => bitAt io.fault n
  !(hot || lost || off false io.rba || off true io.rbb || edm || disc || s.saf.brakeFail.any (· == true))

/-- A CLEAR of the safety function: the channels' waves run again (R503). -/
def State.safetyCleared (s : State) : State :=
  s.onSaf fun f => { f with faultA := false, faultB := false, lostXA := false, lostXB := false, degraded := none, degExpired := false }

/-! ### Commissioning (R582 to R590) -/

/-- Values a session sees at SAFE objects: its pending set, or the set in force (R583). -/
def State.safeView (s : State) (session : Nat) : List ((Nat × Nat) × Octets) :=
  match s.saf.set.pending with
  | some p => if p.1 = session then p.2 else safeValues s.dict.store
  | none => safeValues s.dict.store

/-- An accepted SAFE write goes into the pending set, which the first one creates (R583). -/
def State.safeWrite (s : State) (session idx : Nat) (v : Octets) : State :=
  let st := storePut (s.safeView session) (idx, 0) v
  s.onSaf fun f => { f with set := { f.set with pending := some (session, st), state := 1 } }

/-- Refusal of a confirmation (R587). -/
def State.confirmRefused (s : State) (session v : Nat) : Option Nat :=
  match s.saf.set.pending with
  | none => some abState
  | some p =>
    if p.1 ≠ session then some abState
    else if checkValue p.2 ≠ v then some abRange
    else if !safBetweenOk (setValue p.2) then some abContent
    else none

/-- An accepted confirmation starts the commit (R588). -/
def State.confirm (s : State) (v : Nat) : State :=
  match s.saf.set.pending with
  | none => s
  | some p => s.onSaf fun f => { f with set := { f.set with pending := none, commit := some ⟨p.2, v⟩, state := 2 } }

/-- The pending set is discarded (R584). -/
def State.discardPending (s : State) : State :=
  s.onSaf fun f => { f with set := { f.set with pending := none, state := if f.set.pending.isSome then 0 else f.set.state } }

/-- The set in force replaced in the dictionary. -/
def State.forceSet (s : State) (c : Option SafCopy) : State :=
  let rest := s.dict.store.filter fun e => !safeObjects.contains e.1.1
  let st := match c with | some c => c.store.foldl (fun l e => storePut l e.1 e.2) rest | none => rest
  (s.onDict fun d => { d with store := st }).onSaf fun f => { f with set := { f.set with force := c.map (·.check) } }

/-- A commit ends: the copy that the marker does not name holds the set; recomputed from that copy its check value is equal, and
the marker is rewritten, or not (R588). A copy whose recomputed value differs passes no test at boot (R589), and without MRAM writes
the copy stays as it was (R56; assumption log 70). -/
def State.commitDone (s : State) (ok : Bool) : State :=
  match s.saf.set.commit with
  | none => s
  | some c =>
    let before := s.saf.set.force.getD 0
    let good := ok && s.power.mramOk && checkValue c.store == c.check
    let put := fun (old : Option SafCopy) => if good then some c else if s.power.mramOk then none else old
    let s1 := s.onSaf fun f => { f with set := { f.set with
      commit := none
      state := if good then 3 else 4
      copyA := if f.set.markerA then f.set.copyA else put f.set.copyA
      copyB := if f.set.markerA then put f.set.copyB else f.set.copyB
      markerA := if good then !f.set.markerA else f.set.markerA } }
    let s2 := if good then s1.forceSet (some c) else s1
    (s2.record 0x0050 0 (toLE 4 before ++ toLE 4 (s2.saf.set.force.getD 0) ++ toLE 1 (if good then 3 else 4))).raise
      (if good then 462 else 463)

/-- The set in force at boot (R589): the marked copy when its check value holds, else the other one, else none. -/
def State.safetyLoad (s : State) : State :=
  let x := s.saf.set
  let a := if x.markerA then x.copyA else x.copyB
  let b := if x.markerA then x.copyB else x.copyA
  let ok := fun (c : Option SafCopy) => match c with | some c => checkValue c.store == c.check | none => false
  s.forceSet (if ok a then a else if ok b then b else none)

/-! ### Objects -/

/-- Arm safety status (Table 12-19). -/
def State.armSafetyStatus (s : State) (a : Nat) : Nat :=
  let x := s.saf.arm false a
  let y := s.saf.arm true a
  let due := (s.safMembers a).any fun j => (nth s.saf.ages j ⟨0, neverPassed, 0, false⟩).due
  let sets := maskOf ((s.slsSets a).filter (· != 0) |>.map (· - 1))
  (match y.dist with | some d => min 0xFFFF d | none => if s.safEnabled a && armFlag (s.safArm a) 1 then 0xFFFF else 0) <<< 16 |||
  (if s.isRunning .safety then sets else 0) <<< 12 ||| x.st <<< 9 ||| b2n (x.parked || y.parked) <<< 8 ||| b2n due <<< 7 |||
  b2n (nth s.saf.brakeFail a false) <<< 6 ||| b2n (nth s.saf.posLost a false) <<< 5 ||| b2n y.ssm <<< 4 ||| b2n x.ssm <<< 3 |||
  b2n (x.zone || y.zone) <<< 2 ||| b2n (x.sls || x.cart || x.limit || y.cart) <<< 1 ||| b2n (nth s.saf.hostStop a 0 != 0)

/-- Safety status (Table 12-17). -/
def State.safetyStatus (s : State) : Nat :=
  let f := s.saf
  s.degLeft <<< 48 ||| f.soA.toNat <<< 40 ||| f.soB.toNat <<< 32 ||| min 4095 f.occCount <<< 20 |||
  (match f.degraded with | some d => d.1 | none => 0) <<< 4 ||| b2n f.degraded.isSome <<< 3 |||
  b2n (!s.power.compReset && !f.faultB && !f.lostXB) <<< 2 ||| b2n (s.power.pllLocked && !f.faultA && !f.lostXA) <<< 1 |||
  b2n (s.isRunning .safety)

/-- Safety I/O status of the last safety cycle (R113, Table 13-12). -/
def State.safetyIo (s : State) (sub : Nat) : Nat :=
  let io := s.saf.io
  if sub = 1 then io.frozen % 2 ^ 32
  else if sub = 2 then io.fault <<< 16 ||| io.logical
  else io.shown

/-- Telegram status of binding entry `e` (Table 13-13). -/
def State.telegramStatus (s : State) (e : Nat) : Nat :=
  if u8At (bindRec (s.obj 0xA160 0) e) 0 = 0 then 0
  else
    let x := nth s.saf.bindings e SafBinding.initial
    x.st <<< 30 ||| b2n x.refusedLast <<< 17 ||| b2n x.missing <<< 16 ||| x.seq

/-- Safety values that State computes, as session `session` reads them (R583). -/
def State.readSafety (s : State) (session idx sub : Nat) : Option Octets :=
  let x := s.saf.set
  if idx = 0xA001 then some (toLE 4 (x.force.getD 0))
  else if idx = 0xA002 then
    some (toLE 4 (match x.pending with
      | some p => if p.1 = session then checkValue p.2 else x.force.getD 0
      | none => x.force.getD 0))
  else if idx = 0xA003 then some (zeros 4)
  else if idx = 0xA004 then some (zeros 1)
  else if idx = 0xA005 then some (toLE 1 x.state)
  else if idx = 0xA010 then some (toLE 8 s.safetyStatus)
  else if idx = 0xA011 then some (toLE 4 (s.armSafetyStatus (sub - 1)))
  else if idx = 0xA013 then some (toLE 4 ((nth s.saf.ages (sub - 1) ⟨0, neverPassed, 0, false⟩).result <<< 30 ||| s.brakeAge (sub - 1)))
  else if idx = 0xA020 then some (toLE 4 (s.safetyIo sub))
  else if idx = 0xA021 then some (toLE 4 (s.telegramStatus (sub - 1)))
  else if safeObjects.contains idx then some (setValue (s.safeView session) idx)
  else none

/-- Acknowledges of a mask naming an arm with INPUT_ACK are refused (R518). -/
def State.ackRefused (s : State) (mask : Nat) : Bool := (bitsOf 12 mask).any fun a => armFlag (s.safArm a) 6

/-- An accepted acknowledge belongs to the safety cycle in progress (R516, R546). -/
def State.acknowledge (s : State) (mask : Nat) : State := s.onSaf fun f => { f with acks := setBits f.acks mask }

/-! ### Steps -/

/-- CHANNEL_A_DECISION (R502, R514). -/
def execChannelADecision (s : State) : Host.Outcome State Fault Refusal :=
  .next (if s.saf.faultA then s else s.decide_ false |>.brakeWatch)

/-- CHANNEL_B_DECISION (R502, R514). -/
def execChannelBDecision (s : State) : Host.Outcome State Fault Refusal :=
  .next (if s.saf.faultB then s else s.decide_ true |>.brakeWatch)

/-- DECISION_COMPARE (R508 to R510, R536). -/
def execDecisionCompare (mismatch : Bool) (s : State) : Host.Outcome State Fault Refusal := .next (s.compare mismatch)

/-- SAFETY_MARKER (R34): channel B has timed the interval in ns. -/
def execSafetyMarker (interval : Nat) (s : State) : Host.Outcome State Fault Refusal :=
  if inRange 495000 505000 interval || s.power.compReset then .next s else .next (s.fault .safety 0x0106)

/-- XA_EDGE_TIMEOUT (R504). -/
def execXaEdgeTimeout (s : State) : Host.Outcome State Fault Refusal :=
  if s.power.compReset then .next s
  else .next (((s.setSo false 0#8).onSaf fun f => { f with lostXA := true }).fault .safety 0x0105)

/-- XB_EDGE_TIMEOUT (R505). -/
def execXbEdgeTimeout (s : State) : Host.Outcome State Fault Refusal :=
  if !s.power.pllLocked then .next s
  else .next (((s.setSo false 0#8).onSaf fun f => { f with lostXB := true }).fault .safety 0x0105)

/-- OUTPUT_FRAME_TIMEOUT (R506). -/
def execOutputFrameTimeout (s : State) : Host.Outcome State Fault Refusal := .next (s.setSo false 0#8)

/-- CHANNEL_INTERNAL_FAULT (R503, Table 12-8): channel B or A. -/
def execChannelInternalFault (chB : Bool) (s : State) : Host.Outcome State Fault Refusal :=
  .next ((s.onSaf fun f => if chB then { f with faultB := true } else { f with faultA := true }).fault .safety
    (if chB then 0x0102 else 0x0101))

/-- T_STOP has elapsed for an arm of a channel: SS1 ends in STO, SS2 in SOS (R514, R521). -/
def State.stopElapsed (s : State) (a : Nat) (chB : Bool) : State :=
  let sc := s.saf.cycle.getD 0
  let x := s.saf.arm chB a
  if x.st = 1 then (s.putArm chB a (s.enterArm x a 0 sc)).armEvent 432 a true
  else if x.st = 2 then s.putArm chB a (s.enterArm x a 3 sc)
  else s

/-- TSTOP_ELAPSED (R521, Table 12-5): T_STOP has elapsed in SS1 or SS2 of arm `a`. -/
def execTstopElapsed (a : Fin 12) (s : State) : Host.Outcome State Fault Refusal :=
  if !s.isRunning .safety then .next s
  else
    let due := fun (x : ArmSafe) => if x.st = 1 ∨ x.st = 2 then 500000 * (x.entry + 1 + 2 * u16At (s.safArm a.val) 2) else 0
    let s0 := s.advanceTo (max (due (s.saf.arm false a.val)) (due (s.saf.arm true a.val)))
    .next ((((s0.stopElapsed a.val false).stopElapsed a.val true).driveOutputs false).driveOutputs true)

/-- DEGRADED_TIMER_EXPIRY (R536): the degraded timer has run out. -/
def execDegradedTimerExpiry (s : State) : Host.Outcome State Fault Refusal :=
  match s.saf.degraded with
  | some d =>
    .next ((s.advanceTo (d.2 + 1000000 * u16At (s.obj 0xA100 0) 0)).onSaf fun f => { f with degExpired := true })
  | none => .next s

/-- BRAKE_TEST_PHASE_END (R530). -/
def execBrakeTestPhaseEnd (s : State) : Host.Outcome State Fault Refusal := .next s.brakePhaseEnd

/-- BRAKE_TEST_DUE (R532): joint `j`'s age reaches the interval, or twice the interval. -/
def execBrakeTestDue (j : Fin 96) (s : State) : Host.Outcome State Fault Refusal := .next (s.brakeDue j.val)

/-- BRAKE_AGE_STORE (R532). -/
def execBrakeAgeStore (s : State) : Host.Outcome State Fault Refusal := .next s.brakeStore

/-- COMMIT_COMPLETE (R588): the copy's recomputed value equals the stored one or not. -/
def execCommitComplete (ok : Bool) (s : State) : Host.Outcome State Fault Refusal := .next (s.commitDone ok)

end Sys2Proof.Machine
end

