-- ==== Sys2Proof/Machine/Power.lean ====
section
/-! DEFINITION. Supplies, resets, clock monitors and power modes (spec/02_package_power_clocks.md). -/

namespace Sys2Proof.Machine

/-! ### What a reset clears -/

/-- The safety record across a main reset, with every SO output off: what the companion die holds stays, channel B with its
inputs, the MRAM safety area and the stored brake test ages (the text before R67; R69, R72, R532, R589). Times of switching count
from the ring time that starts again at 0. -/
def Safety.cleared (f : Safety) : Safety :=
  let a := f.set.copyA
  let b := f.set.copyB
  { Safety.initial with
    io := { f.io with pulse := 0, since := List.replicate 16 0, lows := List.replicate 16 0,
                      pairSince := List.replicate 8 0, edmLow := 0, edmWaive := 0 }
    set := { SafSet.initial with copyA := a, copyB := b, markerA := f.set.markerA }
    chB := f.chB
    faultB := f.faultB
    agesStored := f.agesStored
    ages := f.agesStored.map fun x => ⟨if x = neverPassed then 0 else 1, x, 0, false⟩ }

/-- The companion die's part of the safety record across a device reset: the levels at the balls stay. -/
def Safety.companionCleared (f : Safety) : Safety :=
  { f with
    io := { SafIo.initial with raw := f.io.raw, rba := f.io.rba, rbb := f.io.rbb }, chB := SafChannel.initial, faultB := false }

/-- The pairing unit across a main reset: it is no longer acting or ARMED, ACTV_O is low, and the companion die keeps its inputs,
results and offset (the text before R67; R69). -/
def Pairing.cleared (p : Pairing) : Pairing :=
  { p with actvO := false, acting := false, armed := false, q := [none, none, none, none], releasePending := false,
           testPending := false, takeoverDue := false, takeover := none }

/-- The pairing unit across a device reset: its inputs stay (Table 19-7). -/
def Pairing.companionCleared (p : Pairing) : Pairing := { Pairing.initial with actvI := p.actvI, pairSel := p.pairSel }

/-- The dictionary across a reset: MRAM stays; a copy being written is no longer valid (R139, R140). -/
def Dict.cleared (d : Dict) : Dict :=
  let half := d.storing.isSome
  let a := if half && !d.markerA then { d.copyA with valid := false } else d.copyA
  let b := if half && d.markerA then { d.copyB with valid := false } else d.copyB
  { Dict.initial with copyA := a, copyB := b, markerA := d.markerA, lastReply := d.lastReply }

/-- Host port across a reset: the module's levels stay. -/
def HostPort.cleared (p : HostPort) : HostPort := { HostPort.initial with absent := p.absent, los := p.los }

/-- Security across a reset: the vault is cleared, MRAM stays (R72, R761, R762, R768). -/
def Security.cleared (x : Security) : Security :=
  { x with keys := List.replicate 8 none, attStatus := 0, challenge := zeros 32, statement := zeros 9981, authorised := none,
           transition := none, vaultReadable := true }

/-- The companion die reset as well (R67, Table 02-5). -/
def State.companionClear (s : State) : State :=
  { s with saf := s.saf.companionCleared, pair := s.pair.companionCleared }

/-- Every SO output off, ACTV_O low and the main die's SRAM, registers and functions cleared (R69, R72, R73, R274, R741, R801);
records still queued are lost, the open sessions close with records of cause 3 formed after that (R138, Table 18-6; assumption log
70), and the return challenge is renewed (R769). -/
def State.mainClear (s : State) : State :=
  let c := s.drawOctets 32
  let x := (c.2.onLedger fun l => { l with cursor := 0, queue := [], lost := 0, repeats := [] }).closeSessions (fun _ => true) 3
  { x with
    time := TimeBase.initial
    fns := List.replicate Fn.count ⟨.stopped, 0⟩
    dict := x.dict.cleared
    way := Waystation.initial
    sensors := Sensors.initial
    fw := { x.fw with running := none, hold := false, version := 0, update := 0, programming := none, erased := [],
                      autoStart := [], autoLast := none }
    sec := { x.sec.cleared with returnChallenge := c.1 }
    pair := x.pair.cleared
    rings := x.rings.map fun r => { Ring.initial with rxE := r.rxE, rxW := r.rxW }
    le := LoopEngines.initial
    joints := List.replicate 96 Joint.initial
    trace := Trace.initial
    aux := AuxUnit.initial
    plan := Plan.initial
    per := Perception.initial
    saf := x.saf.cleared
    ports := x.ports.map HostPort.cleared
    cans := List.replicate 4 Can.initial
    fab := Fabric.initial }

/-! ### Resets -/

/-- A reset is in progress; in MAIN_OFF the main die is held without one (R71, R86). -/
def State.inReset (s : State) : Bool := s.power.deviceReset || (s.power.mainReset && s.power.mode != 3)

/-- The cause object with a source's bit: added while a reset is in progress, else alone, or beside MCLK when a CM2 fault waits
for its groups' safe state (R71, R80). -/
def State.causeWith (s : State) (bit : Nat) : Nat :=
  if s.inReset then setBits s.power.cause (1 <<< bit)
  else setBits (1 <<< bit) (if s.power.cm2Short = [] then 0 else 1 <<< 5)

/-- A main reset asserted with a cause bit; one already in progress notes the bit (R67, R69 to R71, R75). -/
def State.startMainReset (s : State) (bit : Nat) : State :=
  let cause := s.causeWith bit
  if s.inReset then s.onPower fun p => { p with cause := cause }
  else
    s.mainClear.onPower fun p =>
      { p with mainReset := true, releasing := p.pwrEn && p.pgood, pllLocked := false, mgmtUp := false, resetOutHigh := false,
               xspiResetHigh := false, cause := cause, mode := 0, wakeTo := 0, cm2Short := [],
               ringPllIdle := false, resetAsked := none }

/-- A device reset asserted with a cause bit; it takes over from a main reset (R67, R69 to R71). MAIN_PWR_EN stays as it is, by
the text after R68; Table 02-6 would drive it low with the companion die in reset (assumption log 70). -/
def State.startDeviceReset (s : State) (bit : Nat) : State :=
  let cause := s.causeWith bit
  let s1 := if s.inReset then s else s.mainClear
  s1.companionClear.onPower fun p =>
    { p with compReset := true, deviceReset := true, mainReset := true, releasing := false, retry := false, pgFails := 0,
             pllLocked := false, mgmtUp := false, resetOutHigh := false, xspiResetHigh := false, cause := cause, mode := 0,
             wakeTo := 0, cm2Short := [], ringPllIdle := false, resetAsked := none }

/-- MAIN_PWR_EN goes low: the main rails fall, and MAIN_PGOOD with them (R57, R61, R64, R65). -/
def State.powerOff (s : State) : State := s.onPower fun p => { p with pwrEn := false, pgood := false, releasing := false }

/-- An attempt at power-up has failed: another follows after 100 ms, or PG_TMO alone after the third (R62, R68). -/
def State.attemptFailed (s : State) (fails : Nat) : State :=
  s.powerOff.onPower fun p =>
    { p with pgFails := fails, retry := decide (fails < 3),
             cause := if fails < 3 then p.cause else setBits p.cause (1 <<< 10) }

/-! ### Commands of power-up -/

/-- COMPANION_RESET_RELEASE (R60, R63, R68): when power was not removed the release of the main die follows at once. -/
def execCompanionResetRelease (s : State) : Host.Outcome State Fault Refusal :=
  if s.power.compReset then
    .next (s.onPower fun p =>
      { p with railsOk := true, clockOk := true, compReset := false, pwrEn := true, releasing := p.pgood })
  else .next s

/-- POWER_GOOD_TIMEOUT (R62). -/
def execPowerGoodTimeout (s : State) : Host.Outcome State Fault Refusal :=
  if !s.power.compReset && s.power.pwrEn && !s.power.pgood then
    .next ((s.attemptFailed (s.power.pgFails + 1)).onPower fun p => { p with cause := setBits p.cause (1 <<< 10) })
  else .next s

/-- MAIN_PWR_EN_RETRY (R62, R68). -/
def execMainPwrEnRetry (s : State) : Host.Outcome State Fault Refusal :=
  if s.power.retry then .next (s.onPower fun p => { p with retry := false, pwrEn := true }) else .next s

/-- MAIN_PGOOD_RISE (R63). -/
def execMainPgoodRise (s : State) : Host.Outcome State Fault Refusal :=
  .next (s.onPower fun p =>
    { p with pgood := true, releasing := p.releasing || (p.pwrEn && p.mainReset && !p.compReset && !p.pgood) })

/-- MAIN_RESET_RELEASE (R63): the reset ends, and so does the collection of causes. -/
def execMainResetRelease (s : State) : Host.Outcome State Fault Refusal :=
  if s.power.releasing then
    .next (s.onPower fun p =>
      { p with mainReset := false, deviceReset := false, releasing := false, xspiResetHigh := true, mode := 0, cm2Short := [] })
  else .next s

/-- PLL_LOCK (R79, R274): both clocks start at 0 s. -/
def execPllLock (s : State) : Host.Outcome State Fault Refusal :=
  if !s.power.mainReset && !s.power.pllLocked then
    .next ((s.onPower fun p => { p with pllLocked := true }).onTime fun _ => { TimeBase.initial with ticking := true })
  else .next s

/-- SRAM_CLEAR_DONE (R72). -/
def execSramClearDone (s : State) : Host.Outcome State Fault Refusal :=
  if s.power.pllLocked && !s.power.mgmtUp then .next (s.onPower fun p => { p with mgmtUp := true }) else .next s

/-- RESET_OUT_RELEASE (R75). -/
def execResetOutRelease (s : State) : Host.Outcome State Fault Refusal :=
  if !s.power.mainReset then .next (s.onPower fun p => { p with resetOutHigh := true }) else .next s

/-! ### Reset sources -/

/-- COMPANION_RAIL_FAIL (R66). -/
def execCompanionRailFail (s : State) : Host.Outcome State Fault Refusal :=
  .next ((s.startDeviceReset 0).powerOff.onPower fun p => { p with railsOk := false })

/-- SYS_RESET (R67). -/
def execSysReset (s : State) : Host.Outcome State Fault Refusal := .next (s.startDeviceReset 1)

/-- MAIN_PGOOD_FALL (R63, R67, R68): within the release interval the interval ends; with the main die out of reset a main reset
starts. `longUp`: the main die had been out of reset for at least 10 s. -/
def execMainPgoodFall (longUp : Bool) (s : State) : Host.Outcome State Fault Refusal :=
  if !s.power.pgood then .next s
  else if s.power.mainReset then .next (s.onPower fun p => { p with pgood := false, releasing := false })
  else .next ((s.startMainReset 3).attemptFailed (if longUp then 0 else s.power.pgFails + 1))

/-- COMPANION_CLOCK_FAULT (R67, R80). -/
def execCompanionClockFault (s : State) : Host.Outcome State Fault Refusal :=
  .next ((s.startDeviceReset 2).onPower fun p => { p with clockOk := false })

/-- Every ring into FAULT by CM5, its transmitters idle (Table 02-12, Table 05-12). -/
def State.ringClockFault (s : State) : State :=
  (List.range 4).foldl (fun s n => s.fault (.ring n) 0x0102) (s.onPower fun p => { p with ringPllIdle := true })

/-- HP0 and HP1 link down by CM6 (Table 02-12). -/
def State.hostClockFault (s : State) : State :=
  [0, 1].foldl (fun s n => (s.onPort n fun p => { p with pcs := false }).linkLost n (s.port n).link) s

/-- The PWM groups go to their safe state before the main reset of CM2: at once where none is to reach SHORT, else the reset waits
for CM2_SHORT_DELAY (Table 02-12, R625; assumption log 70). -/
def State.controlClockFault (s : State) : State :=
  let short := (List.range 8).filter fun g => bitAt (s.groupCfg g) 6
  if short = [] then s.startMainReset 5 else s.onPower fun p => { p with cm2Short := short }

/-- CLOCK_MONITOR_FAULT (R80). Table 02-5 gives every one of CM0 to CM7 a main reset; the action of Table 02-12 is taken, in which
CM4, CM5 and CM6 reset nothing (assumption log 70). During a reset a source of MCLK notes its cause (R71). -/
def execClockMonitorFault (cm : Fin 8) (s : State) : Host.Outcome State Fault Refusal :=
  if s.power.mainReset then
    .next (if s.inReset && [0, 1, 2, 3, 7].contains cm.val then s.startMainReset 5 else s)
  else if cm.val = 2 then .next s.controlClockFault
  else if cm.val = 4 then .next ((s.onSaf fun f => { f with faultA := true }).fault .safety 0x0101)
  else if cm.val = 5 then .next s.ringClockFault
  else if cm.val = 6 then .next s.hostClockFault
  else .next (s.startMainReset 5)

/-- CM2_SHORT_DELAY (R625, Table 02-12): the groups that wait have reached SHORT, and the main reset follows, which drives every
output low. -/
def execCm2ShortDelay (s : State) : Host.Outcome State Fault Refusal :=
  if s.power.cm2Short = [] then .next s
  else .next (s.startMainReset 5)

/-- WATCHDOG_EXPIRY (R729): the watchdog runs once the management processor does. -/
def execWatchdogExpiry (s : State) : Host.Outcome State Fault Refusal :=
  if s.power.mgmtUp then .next (s.startMainReset 6) else .next s

/-- WAKE (R86): only in MAIN_OFF. -/
def execWake (s : State) : Host.Outcome State Fault Refusal :=
  if s.power.mode = 3 then
    let s1 := s.startMainReset 9
    let s2 := s1.mainClear
    .next (s2.onPower fun p =>
      { p with mainReset := true, mode := 0, cause := 1 <<< 9, pwrEn := true, retry := false, pgFails := 0, releasing := p.pgood })
  else .next s

/-- MRAM_SUPPLY_LOW (R56). -/
def execMramSupplyLow (s : State) : Host.Outcome State Fault Refusal := .next (s.onPower fun p => { p with mramOk := false })

/-! ### MAIN_OFF and the compute domain -/

/-- MAIN_OFF: power removed from the main die, ACTV_O low (R64, R86). -/
def State.mainOff (s : State) : State :=
  s.mainClear.powerOff.onPower fun p =>
    { p with mainReset := true, retry := false, pllLocked := false, mgmtUp := false, resetOutHigh := false,
             xspiResetHigh := false, mode := 3, wakeTo := 0, cm2Short := [], ringPllIdle := false,
             resetAsked := none }

/-- THERMAL_SHUTDOWN (R734): the flag is kept, the device is in MAIN_OFF, and an active safety function is in FAULT 0x0105. -/
def execThermalShutdown (sensor : Fin 20) (s : State) : Host.Outcome State Fault Refusal :=
  if s.power.pwrEn && !s.power.compReset && decide (sensor.val < 20) then
    let off := s.mainOff.onPower fun p => { p with thermal := true }
    .next (if s.isActive .safety then off.setFnRec .safety ⟨.fault, 0x0105⟩ else off)
  else .next s

/-- Compute-domain SRAM cleared to zero: solver scratch, voxel map, buffers of the front stage and the separation engine
(R83, R84, R697, Table 17-1). -/
def State.computeClear (s : State) : State :=
  (s.onPer fun p => { p with map := [], rot := [], windows := [], poses := [], updating := none, sep := none }).onPlan fun p =>
    { p with problems := p.problems.map fun x => { x with solved := false, knots := [], dual := [], asm := none } }

/-- A write of an accepted power mode (R82 to R84). -/
def State.setPowerMode (s : State) (m : Nat) : State :=
  let old := s.power.mode
  if m = old then s
  else if m = 3 then s.mainOff
  else if m = 2 then s.computeClear.onPower fun p => { p with mode := 2 }
  else if old = 2 then s.computeClear.onPower fun p => { p with mode := 4, wakeTo := m }
  else s.onPower fun p => { p with mode := m }

/-- The compute functions are all STOPPED (R81). -/
def State.computeStopped (s : State) : Bool :=
  s.isStopped .voxel && s.isStopped .separation && s.isStopped .front && s.isStopped .solver && s.isStopped .interp

/-- State check of a power mode write (R81 to R84). -/
def State.powerModeRefused (s : State) (m : Nat) : Bool :=
  s.power.mode == 4 ||
  (m != s.power.mode &&
    (((m == 1 || m == 2) && !s.computeStopped) ||
     (m == 3 && !(((List.range 4).all fun n => s.isStopped (.ring n)) && s.saf.soA == 0#8 && s.saf.soB == 0#8))))

/-- The data-plane functions (Table 01-1): voxel builder, separation engine, front stage, solver, interpolator and host ports. -/
def dataPlane (f : Fn) : Bool :=
  f == .voxel || f == .separation || f == .front || f == .solver || f == .interp || f == .hostPort 0 || f == .hostPort 1

/-- A START that the power mode refuses: any data-plane function while WAKING, the compute functions outside RUN (R83, R85). -/
def State.computeAsleep (s : State) (f : Fn) : Bool :=
  dataPlane f && (s.power.mode == 4 || (s.power.mode != 0 && f != .hostPort 0 && f != .hostPort 1))

/-- COMPUTE_WAKE_DONE (R83, R84). -/
def execComputeWakeDone (s : State) : Host.Outcome State Fault Refusal :=
  if s.power.mode = 4 then .next (s.onPower fun p => { p with mode := p.wakeTo }) else .next s

/-! ### Sensors (R731 to R735) -/

/-- Resets by rails outside their action windows: main rails 0 to 11, companion rails 12 to 14; both causes are noted where both are
out (R66, R67, R71, R735). -/
def State.railActions (s : State) (out : List Nat) : State :=
  let s1 := if out.any fun v => decide (v ≤ 11) then s.startMainReset 4 else s
  if out.any fun v => decide (12 ≤ v) && decide (v ≤ 14) then
    (s1.startDeviceReset 0).powerOff.onPower fun p => { p with railsOk := false }
  else s1

/-- Actions on the readings beyond their events: degraded mode by T19, channel B by T20–T23, resets by the rails, the MRAM
supplies. -/
def State.sensorActions (s : State) (r : Means) (old : Sensors) : State :=
  let hot := decide (1200 ≤ highest r.temps 20 23)
  let s1 := if s.sensors.safaAlarm && !old.safaAlarm then s.degrade 4 else s
  let s2 := if hot && !s1.saf.faultB then (s1.onSaf fun f => { f with faultB := true }).fault .safety 0x0102 else s1
  let out := outOfAction r.volts
  let s3 := s2.onPower fun p =>
    { p with mramOk := !out.contains 15 && decide (1710 ≤ nth r.volts 13 0) }
  s3.railActions out

/-- The readings while the main die is in reset: the rails note their causes (R71). -/
def State.sensorsInReset (s : State) (r : Means) : State :=
  let out := outOfAction r.volts
  if s.inReset then s.railActions (if s.power.pgood then out else out.filter (12 ≤ ·)) else s

/-- SENSOR_READING_UPDATE (R731 to R733, R735). -/
def execSensorReadingUpdate (r : Readings) (s : State) : Host.Outcome State Fault Refusal :=
  let m := meansOf r
  if s.power.mainReset then .next (s.sensorsInReset m) else .next ((s.takeReadings m).sensorActions m s.sensors)

end Sys2Proof.Machine
end

