-- ==== Sys2Proof/Machine/Ring.lean ====
section
/-! DEFINITION. The ring's commands: cycle starts, what returns to the master, link changes
(spec/04_isadal_ring_protocol.md, spec/05_ring_schedule_sync_healing.md). -/

namespace Sys2Proof.Machine

/-! ### The start of a cycle -/

/-- The pair of MEASURE caravans that ends with the last one taken in step 2; the step ends with the delays committed once every
address has 16 computations (R230, Table 05-11). -/
def State.measureStep (s : State) (n : Nat) (k : Caravan) : State :=
  let addrs := s.ringAddrs n
  match (s.ring n).lastMeasure, (s.ring n).measure with
  | some m, some m' =>
    let s1 := s.onRing n fun r => r.addComputations addrs m m'
    let enough := addrs.all fun a => decide (16 ≤ ((s1.ring n).delayOf a).count)
    if enough && k.kind == 3 then
      let s2 := s1.onRing n fun r => { r.commitAll addrs with step := 3 }
      s2.onRing n fun r => { r with svcQueue := addrs.flatMap (s2.configWrites n) }
    else s1
  | _, _ => s

/-- A cycle of the start sequence whose trailer has not returned: it breaks the run of step 1, and the panniers of step 2 count
without it (R230, R237). -/
def State.trailerLost (s : State) (n : Nat) (k : Caravan) : State :=
  if (s.ring n).step = 1 then s.onRing n fun r => { r with stepCount := 0 }
  else if (s.ring n).step = 2 then s.measureStep n k
  else s

/-- Under loop-back, each port that sent a BEACON and has seen no head of it counts one (R270). -/
def State.beaconsMissed (s : State) (n : Nat) (k : Caravan) : State :=
  let missed := fun (east ret : Bool) => inRange 1 2 (s.portLoop n east) && !ret
  let s1 := if missed true k.retE then s.ringError n 0 else s
  if missed false k.retW then s1.ringError n 0 else s1

/-- The last caravan as the next cycle starts: one that returned on neither port counts as lost, and as a fold when it was sent
unfolded; a cycle of a RUNNING ring leaves MISSING items for panniers that have none, one with no caravan as well (R232, R248, R256,
R270, R292; assumption log 71). -/
def State.closeCycle (s : State) (n : Nat) : State :=
  match (s.ring n).caravan with
  | none =>
    let s1 := s.onRing n fun r => { r with lost := if r.cycle.isSome then r.lost + 1 else r.lost }
    match (s.ring n).cycle with
    | some c => s1.postMissing n c
    | none => s1
  | some k =>
    let s0 := if k.trailer then s else s.trailerLost n k
    let s1 := if k.retE || k.retW then s0 else s0.onRing n fun r => { r with lost := r.lost + 1 }
    if s.loopBack n then s1.beaconsMissed n k
    else
      let s2 := if k.retE || k.retW || k.folded then s1 else s1.foldDetected n k.cycle true
      if k.kind = 2 then s2 else s2.postMissing n k.cycle

/-- The pending command at the start of cycle `c`: at its target the acknowledge is judged (R264) and the command takes
effect (R265); UNFOLD clears FOLDED and sends nothing (R259). Answers the effect to carry out: 0 none, 1 SNAPSHOT,
2 OUTPUT_RESET, 3 MODE, 4 UNFOLD. -/
def State.commandAt (s : State) (n c : Nat) : State × Nat :=
  match (s.ring n).command with
  | none => (s, 0)
  | some g =>
    if g.target ≠ c then (s, 0)
    else
      let s1 := if g.ack < (s.ringAddrs n).length then s.raise (ringEvent n 6) else s
      let s2 := s1.onRing n fun r => { r with command := none }
      if g.cmd = 4 then
        (s2.onRing n fun r => { r with folded := false, eastLost := false, foldDue := false, heal := none,
                                       loopNear := 0x3F, loopFar := 0x3F, unfold := some (c, false) }, 4)
      else if g.cmd = 1 then
        (s2.onRing n fun r => { r with snapshot := toLE 8 c ++ toLE 1 g.arg ++ zeros 32775 }, 1)
      else if g.cmd = 3 then (s2.modeSwitch n g.arg, 3)
      else (s2, 2)

/-- The setpoint area and master flags of entry `e` (R27, R821): [7] SP_VALID, [6] STALE. -/
def setpointOf (spValid firstSp : Bool) (p : PanEntry) (x : RingEntry) : Octets × Nat :=
  let stale := spValid && !firstSp && !x.fresh && p.flow?.isSome
  (if stale then x.sent else x.setpoint, (if spValid then 0x80 else 0) + (if stale then 0x40 else 0))

/-- SP_VALID of an entry: clear for a node in steps 3 to 5 of its join (R240, Table 05-11). -/
def Ring.spValid (r : Ring) (spValid : Bool) (p : PanEntry) : Bool :=
  spValid && !(r.joins.any fun j => j.addr == p.addr && decide (3 ≤ j.phase))

/-- The panniers of a RUN caravan (R164, R172). -/
def State.runPanniers (s : State) (n : Nat) (spValid : Bool) : Octets :=
  let r := s.ring n
  ((s.panTable n).zip r.entries).flatMap fun x =>
    let sp := setpointOf (r.spValid spValid x.1) r.firstSp x.1 x.2
    pannierOctets x.1.addr x.1.sub x.1.len sp.2 x.1.split sp.1

/-- Number of entries sent STALE, each of which raises the overrun event (R27). -/
def State.staleCount (s : State) (n : Nat) (spValid : Bool) : Nat :=
  let r := s.ring n
  (((s.panTable n).zip r.entries).filter fun x => bitAt (setpointOf (r.spValid spValid x.1) r.firstSp x.1 x.2).2 6).length

/-- The entries after a RUN caravan has been sent. -/
def State.entriesSent (s : State) (n : Nat) (spValid : Bool) : List RingEntry :=
  let r := s.ring n
  ((s.panTable n).zip r.entries).map fun x =>
    { x.2 with sent := (setpointOf (r.spValid spValid x.1) r.firstSp x.1 x.2).1, fresh := false, got := false, posted := false }

/-- The panniers of a MEASURE caravan: one per address. -/
def State.measurePanniers (s : State) (n : Nat) : Octets :=
  (s.ringAddrs n).flatMap fun a => pannierOctets a 0xFF 32 0 0 []

/-- The pannier table fits the cycle: the courier gap ends 80 ns before the next caravan (R227, Table 05-8). -/
def State.planFits (s : State) (n : Nat) : Bool := decide (s.gamma10 n 33 + 800 ≤ 80 * (s.period n / 8))

/-- What the line carries where the plan fits the cycle, else free octets: the results of a ring with a plan that does not fit are
unpredictable (R47; assumption log 71). -/
def State.fitted (s : State) (n : Nat) (o : Octets) : Octets × State :=
  if s.planFits n then (o, s) else s.drawOctets o.length

/-- The caravan of cycle `c` sent (R164 to R166, R168, R169, R200, R222, R263, R283). -/
def State.sendCaravan (s : State) (n c kind effect : Nat) (spValid : Bool) : State :=
  let r := s.ring n
  let p := s.period n
  let flags := (if r.folded then 0x80 else 0) + (if s.time.disc = 3 then 0x40 else 0)
  let g := match r.command with
    | some g => if g.first ≤ c then some g else none
    | none => none
  let head := headOctets kind flags c (cycleStart p (c + 1) - cycleStart p c) (s.cfg (0x3002 + 0x200 * n) 0)
    (s.cfg (0x3003 + 0x200 * n) 0) ((g.map (·.cmd)).getD 0) ((g.map (·.arg)).getD 0) ((g.map (·.target)).getD 0 % 65536)
  let body := if kind = 1 then s.runPanniers n spValid else if kind = 3 then s.measurePanniers n else []
  let line := s.fitted n (head ++ body ++ trailerOctets (if r.barrierFrom ≤ c then r.barrier else 0) r.cuts r.retCut)
  let octets := line.1
  let stale := if kind = 1 then s.staleCount n spValid else 0
  let entries := if kind = 1 then s.entriesSent n spValid
    else r.entries.map fun x => { x with got := false, posted := false }
  let report := r.retCut
  let s1 := line.2.onRing n fun r =>
    { r with caravan := some ⟨c, kind, r.folded, effect, false, false, false, false, octets⟩, entries := entries,
             cuts := 0, retCut := 0,
             firstSp := if kind = 1 && spValid then false else r.firstSp,
             measure := if kind = 3 then some ⟨c, s.time.ringNs, none, []⟩ else r.measure,
             lastMeasure := if kind = 3 then r.measure else r.lastMeasure,
             measureAt := r.measureAt.filter fun m => decide (m > c),
             joins := r.joins.map fun j => if kind = 1 && j.phase == 1 then { j with phase := 2 } else j }
  let s2 := (bitsOf 32 report).foldl (fun s b => s.ringStray n (b + 1)) s1
  (s2.raiseAll (List.replicate stale (ringEvent n 11))).sendFrame n (10 * s.time.ringNs) octets

/-- Number of the cycle that starts next on ring `n`. -/
def State.nextCycle (s : State) (n : Nat) : Nat :=
  let p := s.period n
  let c := cycleAt p s.now
  match (s.ring n).cycle with
  | some k => max (k + 1) c
  | none => if cycleStart p c = s.now then c else c + 1

/-- A cycle in which no caravan is sent. -/
def Ring.noCaravan (r : Ring) : Ring :=
  { r with caravan := none, entries := r.entries.map fun x => { x with got := false, posted := false } }

/-- The cycle's work once the clock stands at its start. -/
def State.startCycle (s : State) (n c : Nat) : State :=
  let s1 := (s.closeCycle n).servicesDue n c
  let s2 := s1.onRing n fun r =>
    { r with cycle := some c, slot0 := none, folded := r.folded || r.foldDue, foldDue := false, outE := [], outW := [],
             unfold := match r.unfold with | some t => if t.1 + 5 ≤ c then none else some t | none => none }
  if (s.ring n).takeover then
    -- cycle b of a takeover: no caravan, then the heal sequence (R790)
    s2.onRing n fun r =>
      { r.noCaravan with takeover := false, heal := some c, folded := !r.rxW, eastLost := !r.rxW }
  else
    let e := s2.commandAt n c
    let s3 := e.1
    if e.2 = 4 then s3.onRing n Ring.noCaravan
    else if s.loopBack n && !(inRange 1 2 (s.portLoop n true) || inRange 1 2 (s.portLoop n false)) then
      -- only far-end loop-backs: no port sends (R270)
      s3.onRing n Ring.noCaravan
    else (s3.sendCaravan n c (s3.caravanKind n c) e.2 (s3.isRunning (.ring n) && e.2 != 2)).slot0 n c

/-- RING_CYCLE_START. Acts on a ring that this unit masters and that is STARTING or RUNNING. -/
def execRingCycleStart (n : Fin 4) (s : State) : Host.Outcome State Fault Refusal :=
  if s.isActive (.ring n) && s.masters n && s.time.ticking && !s.power.ringPllIdle then
    let c := s.nextCycle n
    let t := ((cycleStart (s.period n) c : Int) - s.thetaNs).toNat
    .next ((s.advanceTo t).startCycle n c)
  else .next s

/-! ### What returns -/

/-- The last caravan of the ring changed. -/
def State.onCaravan (s : State) (n : Nat) (f : Caravan → Caravan) : State :=
  s.onRing n fun r => { r with caravan := r.caravan.map f }

/-- A caravan of the ring's master has reached a port with a valid head. -/
def State.headBack (s : State) (n : Nat) (k : Caravan) (east : Bool) (t : Nat) : State :=
  let s1 := s.onRing n fun r =>
    { r with lost := 0, caravan := some { k with retE := k.retE || east, retW := k.retW || !east } }
  let r := s.ring n
  if k.kind = 3 && !k.folded && east && k.retW then
    -- second pass of a MEASURE caravan on PORTxE (R228)
    s1.onRing n fun r => { r with measure := r.measure.map fun m => { m with rx := some t } }
  else if east && !k.folded then
    -- a fold (R247, R261): its panniers are discarded
    let s2 := s1.onCaravan n fun k => { k with discarded := true }
    let s3 := if k.kind = 2 then s2 else s2.postMissing n k.cycle
    if k.retE then s3 else s3.foldDetected n k.cycle false
  else
    -- the port the master takes caravans from (R155, R212, R250)
    if east = r.takePort then
      let start := ((cycleStart (s.period n) k.cycle : Int) - s.thetaNs)
      let s2 := s1.onRing n fun r =>
        { r with ringDelay := (1000 * ((t : Int) - start)).toNat,
                 unfold := match r.unfold with | some u => some (u.1, u.2 || k.cycle == u.1 + 1) | none => none }
      -- a MEASURE caravan takes the place of the RUN caravan: its panniers count as missing (R232)
      if k.kind = 3 && s.isRunning (.ring n) then s2.postMissing n k.cycle else s2
    else s1

/-- A valid head is that of the caravan sent: its Version, Type and cycle, and its Period within the 8 ns guard (R43, Table 01-7;
R165). Any other counts as missing. -/
def State.headExpected (s : State) (n : Nat) (k : Caravan) (o : Octets) : Bool :=
  let p := cycleStart (s.period n) (k.cycle + 1) - cycleStart (s.period n) k.cycle
  headKnown o && u64At o 4 == k.cycle && decide (u32At o 12 ≤ p + 8) && decide (p ≤ u32At o 12 + 8)

/-- HEAD_RETURN: the octets of the head as they reached the port, and the ring time of /SC/ there. -/
def execHeadReturn (n : Fin 4) (east : Bool) (octets : Octets) (at_ : Nat) (s : State) :
    Host.Outcome State Fault Refusal :=
  match (s.ring n).caravan with
  | none => .next s
  | some k =>
    if !s.masters n then .next s
    else
      let e := s.roleEast east
      let s0 := (s.advanceTo at_).passOn n e at_ octets
      let seen := s0.onRing n fun r =>
        { r with lost := 0, caravan := some { k with retE := k.retE || e, retW := k.retW || !e } }
      if s.loopBack n then
        .next (if !inRange 1 2 (s.portLoop n e) then s0 else if headValid octets then seen else seen.ringError n 0)
      else if !headValid octets then .next (seen.ringError n 0)
      else if !s.headExpected n k octets then .next s0
      else .next (s0.headBack n k e at_)

/-- R178: the master accepts a returned pannier. -/
def pannierAccepted (e : PanEntry) (cycle : Nat) (o : Octets) : Bool :=
  o.length == e.len && crcCheck (o.take (e.len - 4)) (u32At o (e.len - 4)) == .good && u8At o 3 == 1 &&
  bitAt (u8At o 5) 7 && u8At o 6 == cycle % 256 && u8At o 0 == e.addr && u8At o 1 == e.sub && 8 * u8At o 2 == e.len

/-- The CRC of a returned pannier counted (R179, Table 05-28). -/
def State.countPannierCrc (s : State) (n : Nat) (c : CrcCheck) : State :=
  match c with
  | .good => s
  | .upstream => s.ringError n 2
  | .line => s.ringError n 1

/-- A returned Touch of 2 or more: two nodes share an address (R179). -/
def State.touchEvent (s : State) (n : Nat) (o : Octets) : State := if 2 ≤ u8At o 3 then s.raise (ringEvent n 10) else s

/-- A returned pannier goes to the snapshot record where its caravan carries the snapshot (R265). -/
def State.snapshotPannier (s : State) (n off : Nat) (k : Caravan) (o : Octets) : State :=
  if k.effect = 1 then s.onRing n fun r => { r with snapshot := splice r.snapshot off o } else s

/-- The pannier of a MEASURE caravan at position `i` (Table 04-7). -/
def State.measurePannier (s : State) (n i : Nat) (k : Caravan) (o : Octets) : State :=
  let a := nth (s.ringAddrs n) i 0
  let c := crcCheck (o.take 28) (u32At o 28)
  let s1 := ((s.countPannierCrc n c).touchEvent n o).snapshotPannier n (16 + 32 * i) k o
  if c == .good && o.length == 32 && u8At o 3 == 1 && u8At o 0 == a && u8At o 1 == 0xFF then
    s1.onRing n fun r => { r with measure := r.measure.map fun m =>
      { m with nodes := (m.nodes.filter fun x => x.addr != a) ++
          [⟨a, u32At o 8, u32At o 12, u32At o 16, u32At o 20⟩] } }
  else s1

/-- The telegram of a pannier whose entry carries SAFETY, octets 44–59 (Table 05-6). -/
def State.pannierTelegram (s : State) (n : Nat) (p : PanEntry) (cycle : Nat) (o : Octets) : State :=
  if bitAt p.flags 0 then s.telegram n p.addr p.sub cycle (slice o 44 16) else s

/-- The pannier of a RUN caravan at position `e`: judged, counted, remembered and posted (R178, R179, R291). -/
def State.runPannier (s : State) (n e : Nat) (k : Caravan) (o : Octets) : State :=
  let p := s.panEntry n e
  let c := crcCheck (o.take (p.len - 4)) (u32At o (p.len - 4))
  let s2 := (s.countPannierCrc n c).touchEvent n o
  let known := c == .good && u8At o 3 == 1
  let clear := match (s.ring n).entries[e]? with | some x => x.seen && !bitAt x.flags 4 | none => false
  let new := u8At o 5
  let s3 := if known && bitAt new 4 && clear then s2.raise (ringEvent n 4) else s2
  let s4 := s3.onRing n fun r =>
    { r with entries := upd r.entries e fun x =>
               { x with got := known, seen := x.seen || known, flags := if known then new else x.flags },
             shown := if c == .good then upd r.shown (p.addr - 1) fun _ => new else r.shown }
  let s5 := s4.snapshotPannier n (16 + ((s.panTable n).take e).foldl (fun a x => a + x.len) 0) k o
  let s6 := if known then s5.pannierTelegram n p k.cycle o else s5
  if s.isRunning (.ring n) then
    let r := s.ring n
    let join := known && !bitAt new 0 && !r.folded && !r.foldDue && r.unfold.isNone && !(r.joins.any (·.addr == p.addr))
    let s7 := if join then s6.onRing n fun r => { r with joins := r.joins ++ [⟨p.addr, 0, 0⟩] } else s6
    -- a node that joins keeps its panniers invalid until step 5 has ended (R240)
    let joining := (s7.ring n).joins.any (·.addr == p.addr)
    let ok := pannierAccepted p k.cycle o && !joining
    s7.postEntry n e k.cycle (if ok then 0 else 0x80) o
  else s6

/-- A pannier of a caravan as it passes a tracking unit: posted, and its setpoint compared with the unit's own (R788). -/
def State.trackPannier (s : State) (n e : Nat) (o : Octets) : State :=
  match (s.ring n).tracking.lastHead with
  | none => s
  | some h =>
    let p := s.panEntry n e
    let x := ((s.ring n).entries[e]?).getD ⟨[], [], false, false, false, 0, false⟩
    let differ := p.profile == 1 && x.fresh && slice o 8 p.split != padTo p.split x.setpoint
    let s1 := if differ then
        ((s.onPair fun q => { q with mismatch := true, lastMismatch := some s.boardCycle }).raise 420).updateArmed
      else s
    let s2 := s1.onRing n fun r => { r with entries := upd r.entries e fun x => { x with fresh := false } }
    if s.isRunning (.ring n) then
      s2.postEntry n e h.1 (if pannierAccepted p h.1 o then 0 else 0x80) o
    else s2

/-- A MEASURE pannier as it passes a tracking unit: its times kept for R786 and R790. -/
def State.trackMeasure (s : State) (n : Nat) (o : Octets) : State :=
  let a := u8At o 0
  if crcCheck (o.take 28) (u32At o 28) == .good && u8At o 3 == 1 && inRange 1 32 a then
    s.onRing n fun r => { r with measure := r.measure.map fun m =>
      { m with nodes := (m.nodes.filter fun x => x.addr != a) ++
          [⟨a, u32At o 8, u32At o 12, u32At o 16, u32At o 20⟩] } }
  else s

/-- Q in ps from a MEASURE caravan `m` and the second-pass times in the next one `m'`, at the last node before this unit:
Q = D + (t − r) + L with L = ½ [(r2 − t) − (a2 − a1) − 64 ns] (R786). -/
def trackingQ (seen : List Nat) (m m' : Measure) : Option Int :=
  match (orderOf (turnTimes m m')).getLast?, m.rx with
  | some k, some a2 =>
    match m.nodes.find? (·.addr == k), m'.nodes.find? (·.addr == k) with
    | some x, some y =>
      some (((nth seen (k - 1) 0 : Nat) : Int) + 1000 * timeDiff x.t x.r +
        500 * (timeDiff y.r2prev x.t - ((a2 : Int) - m.tx) - 64))
    | _, _ => none
  | _, _ => none

/-- The trailer of a MEASURE caravan has passed a tracking unit: Q, and the offsets O of R790. -/
def State.trackTrailer (s : State) (n : Nat) : State :=
  let r := s.ring n
  match r.measure with
  | none => s
  | some m' =>
    let s1 := match r.lastMeasure with
      | none => s
      | some m =>
        match trackingQ r.tracking.seen m m' with
        | some q => s.onPair fun p => { p with q := upd p.q n fun _ => some q }
        | none => s
    let tx := ((cycleStart (s.period n) m'.cycle : Int) - s.thetaNs).toNat
    s1.onRing n fun r => m'.nodes.foldl (fun r x =>
      let d := nth r.tracking.seen (x.addr - 1) 0
      if d = 0 then r
      else { r with delays := upd r.delays (x.addr - 1) fun e =>
        { e with delay := d, base := d, offset := some (1000 * timeDiff x.r tx - d) } }) r

/-- A delay that the master writes to nodes, seen by a tracking unit: parameter 0x10 or a delay list (R786). -/
def State.trackCourier (s : State) (n : Nat) (o : Octets) : State :=
  let p := u16At o 4
  let pl := slice o 8 p
  if courierValid o && u8At o 1 == 0 && u8At o 3 == 1 && u8At pl 0 == 2 &&
      u8At pl 1 == 0x10 then
    let dst := u8At o 2
    s.onRing n fun r =>
      let seen := if dst = 0xFF then
          r.tracking.seen.mapIdx fun i v => let d := u32At pl (4 + 4 * i); if d = 0xFFFFFFFF then v else d
        else upd r.tracking.seen (dst - 1) fun _ => u32At pl 4
      let tr : Tracking := { r.tracking with seen := seen }
      { r with tracking := tr }
  else s

/-- PANNIER_RETURN: the octets of the pannier at a position of the caravan, and the ring time of its last octet. -/
def execPannierReturn (n : Fin 4) (position : Nat) (octets : Octets) (at_ : Nat) (s : State) :
    Host.Outcome State Fault Refusal :=
  let sa := s.advanceTo at_
  let tracks := s.isActive (.ring n) && (s.ring n).tracking.on
  let s0 := sa.passOn n (if tracks then (s.ring n).trackPort else (s.ring n).takePort) at_ octets
  if tracks then
    .next (if (s.ring n).tracking.kind = 3 then s0.trackMeasure n octets else s0.trackPannier n position octets)
  else
    match (s.ring n).caravan with
    | none => .next s
    | some k =>
      if k.kind = 3 && !k.discarded then .next (s0.measurePannier n position k octets)
      else if k.kind = 1 && !k.discarded && decide (position < s.ringEntries n) then
        .next (s0.runPannier n position k octets)
      else .next s0

/-! ### The trailer: counts, start steps, heal, unfold, join -/

/-- Cut mask, node count, barrier and acknowledge of a valid trailer (R200, R242, R264, R266). -/
def State.readTrailer (s : State) (n : Nat) (cycle : Nat) (o : Octets) : State :=
  let want := (s.ringAddrs n).length
  let count := u16At o 2
  let unexp := decide (count > want)
  let s1 := s.onRing n fun r =>
    { r with retCut := u32At o 12, nodes := min 255 count, unexpected := unexp,
             command := r.command.map fun g => { g with ack := u16At o 8 } }
  let s2 := if unexp && !(s.ring n).unexpected then s1.raise (ringEvent n 3) else s1
  let b := (s.ring n).barrier
  if b != 0 && u16At o 4 == b && u16At o 6 == want then
    (s2.onRing n fun r => { r with barrier := 0, barrierDone := cycle }).raise (ringEvent n 7)
  else s2

/-- A step of the start sequence ends with this caravan (R237, Table 05-11). -/
def State.startStep (s : State) (n : Nat) (k : Caravan) (o : Octets) (valid : Bool) : State :=
  let r := s.ring n
  let addrs := s.ringAddrs n
  if r.step = 1 then
    let m := if valid && u16At o 2 == addrs.length then r.stepCount + 1 else 0
    if m ≥ 16 then s.onRing n fun r => { r with step := 2, stepCount := 0, measure := none, lastMeasure := none }
    else s.onRing n fun r => { r with stepCount := m }
  else if r.step = 2 then
    s.measureStep n k
  else if r.step = 3 then
    if s.allFlags n flagCfg then s.onRing n fun r => { r with step := 4, svcQueue := [] }
    else if r.svcQueue = [] then
      let left := addrs.filter fun a => !s.nodeFlags n a flagCfg
      s.onRing n fun r => { r with svcQueue := left.flatMap (s.configWrites n) }
    else s
  else if r.step = 4 then
    if s.allFlags n flagRun then
      s.onRing n fun r => { r with step := 5, stepCount := 0, svcQueue := addrs.flatMap identityReads }
    else s
  else s

/-- The heal sequence (Table 05-14) and the end of UNFOLD (R260) after the caravan of a cycle has returned. -/
def State.healStep (s : State) (n : Nat) (k : Caravan) : State :=
  let r := s.ring n
  let s1 := match r.heal with
    | none => s
    | some b =>
      if k.cycle = b + 1 then s.loopNodes n
      else if k.cycle = b + 2 then
        match r.measure with
        | some m => s.onRing n fun r => r.healDelays m
        | none => s
      else if k.cycle ≥ b + 5 && k.kind == 1 && s.allFlags n flagNoHold then
        let again := if r.folded then [] else [k.cycle + 1]
        (s.onRing n fun r => { r with heal := none, measureAt := r.measureAt ++ again }).raise (ringEvent n 1)
      else s
  match r.unfold with
  | none => s1
  | some t =>
    if k.cycle ≠ t.1 + 4 then s1
    else
      let s2 := s1.onRing n fun r => { r with unfold := none }
      if k.kind == 1 && s.allFlags n flagNoHold then s2.raise (ringEvent n 2) else s2

/-- One join after the caravan has returned (R240): the pair of MEASURE caravans, then steps 3 to 5 for the node alone. -/
def State.joinStep (s : State) (n : Nat) (k : Caravan) (j : RingJoin) : State :=
  let set := fun (s : State) (ph : Nat) => s.onRing n fun r =>
    { r with joins := r.joins.map fun x => if x.addr == j.addr then { x with phase := ph } else x }
  if k.kind = 3 && j.phase = 0 then set s 1
  else if k.kind = 3 && j.phase = 2 then
    match (s.ring n).lastMeasure, (s.ring n).measure with
    | some m, some m' =>
      match (computeDelays (s.ring n).order m m').find? (·.1 == j.addr), m.nodes.find? (·.addr == j.addr) with
      | some c, some x =>
        let s1 := s.onRing n fun r =>
          { r with delays := upd r.delays (j.addr - 1) fun _ => (NodeDelay.initial.add c.2.1 c.2.2 x.r m.tx).commit }
        let s2 := s1.onRing n fun r => { r with svcQueue := r.svcQueue ++ s1.configWrites n j.addr }
        set s2 3
      | _, _ => set s 0
    | _, _ => set s 0
  else if k.kind = 1 && j.phase = 3 then
    if s.nodeFlags n j.addr flagCfg then set s 4
    else if !((s.ring n).svcQueue.any (·.dest == j.addr)) then
      s.onRing n fun r => { r with svcQueue := r.svcQueue ++ s.configWrites n j.addr }
    else s
  else if k.kind = 1 && 4 ≤ j.phase && s.nodeFlags n j.addr (fun f => !flagCfg f) then
    -- the node has lost its configuration again: it is joined from the start (R240)
    s.onRing n fun r =>
      { r with joins := r.joins.map fun x => if x.addr == j.addr then ⟨j.addr, 0, 0⟩ else x,
               svcQueue := r.svcQueue.filter fun q => q.dest != j.addr, svcOut := r.svcOut.filter fun o => o.req.dest != j.addr }
  else if k.kind = 1 && j.phase = 4 then
    if s.nodeFlags n j.addr flagRun then
      set (s.onRing n fun r => { r with svcQueue := r.svcQueue ++ identityReads j.addr }) 5
    else s
  else s

/-- TRAILER_RETURN: the octets of the trailer of the caravan that has just returned. -/
def execTrailerReturn (n : Fin 4) (octets : Octets) (at_ : Nat) (s : State) : Host.Outcome State Fault Refusal :=
  match (s.ring n).caravan with
  | none =>
    if s.isActive (.ring n) && (s.ring n).tracking.on then
      let s0 := (s.advanceTo at_).passOn n (s.ring n).trackPort at_ octets
      .next (if (s.ring n).tracking.kind == 3 then s0.trackTrailer n else s0)
    else .next s
  | some k =>
    if !s.masters n then .next s
    else
      let s0 := ((s.advanceTo at_).passOn n (s.ring n).takePort at_ octets).onCaravan n fun k => { k with trailer := true }
      let valid := trailerValid octets
      let s1 := if valid then s0.readTrailer n k.cycle octets
        else (s0.onRing n fun r => { r with retCut := 0 }).ringError n 3
      if s.loopBack n then .next s1
      else
        let s2 := s1.healStep n k
        if s.isRunning (.ring n) then .next ((s2.ring n).joins.foldl (fun s j => s.joinStep n k j) s2)
        else .next (s2.startStep n k octets valid)

/-! ### Courier frames and node service -/

/-- A SERVICE_RSP of node `a` with message number `msg` (R204, R207): the outstanding request is answered. -/
def State.serviceAnswer (s : State) (n a msg : Nat) (payload : Octets) : State :=
  match (s.ring n).svcOut.find? fun o => o.req.dest == a && o.msg == msg with
  | none => s
  | some o =>
    let s1 := s.onRing n fun r => { r with svcOut := r.svcOut.filter fun x => !(x.req.dest == a && x.msg == msg) }
    let param := u8At payload 1
    if o.req.op = 1 && (param == 0x04 || param == 0x05) && u8At payload 0 == 1 then
      let s2 := s1.identityAnswer n a param (u8At payload 2) (payload.drop 4)
      if s2.fnSt (.ring n) = .starting && (s2.ring n).step = 5 then
        let c := (s2.ring n).stepCount + 1
        if c ≥ 2 * (s2.ringAddrs n).length then s2.ringRunning n
        else s2.onRing n fun r => { r with stepCount := c }
      else
        s2.onRing n fun r =>
          let js := r.joins.map fun j => if j.addr == a then { j with answered := j.answered + 1 } else j
          { r with joins := js.filter fun j => !(j.phase == 5 && decide (2 ≤ j.answered)) }
    else s1

/-- The cut mask of the caravan last sent, until its trailer has left (R200). -/
def State.recut (s : State) (n a : Nat) : State :=
  let bit := 1 <<< (a - 1)
  let again := fun (o : Octets) =>
    let t := o.drop (o.length - 40)
    o.take (o.length - 40) ++ trailerOctets (u16At t 4) (setBits (u32At t 12) bit) (u32At t 16)
  s.onRing n fun r =>
    let old : Octets := (r.caravan.map (·.octets)).getD []
    let swap := fun (l : List (Nat × Octets)) => l.map fun x => if x.2 == old then (x.1, again old) else x
    { r with caravan := r.caravan.map fun k => { k with octets := again k.octets }, outE := swap r.outE, outW := swap r.outW }

/-- A cut of the master's in the gap of cycle `g`: it goes into the cut mask of caravan g + 1, that is of the caravan on its way
while its trailer has not left, else of the next (R200). -/
def State.masterCut (s : State) (n a g at_ : Nat) : State :=
  let leaves := match (s.ring n).caravan with
    | some k => if k.cycle = g + 1 then
        10 * ((cycleStart (s.period n) k.cycle : Int) - s.thetaNs) + wireTime (k.octets.length - 40) else 0
    | none => 0
  if 10 * (at_ : Int) < leaves then s.recut n a
  else s.onRing n fun r => { r with cuts := setBits r.cuts (1 <<< (a - 1)) }

/-- Cycle whose gap a courier frame that arrives at `at_` belongs to: the last one started, or the one before while slot 0 of the
last one cannot have come round (R226, R245). -/
def State.gapCycle (s : State) (n c at_ : Nat) : Nat :=
  let first := 10 * ((cycleStart (s.period n) c : Int) - s.thetaNs) + s.gamma10 n 0 + ((s.ring n).ringDelay / 100 : Nat) - 400
  if 10 * (at_ : Int) < first then c - 1 else c

/-- COURIER_FRAME_RECEIVED at PORTxW: the frame is removed (R192); one outside its window counts as cut by the master
(R245), one with an invalid CRC or /V/ does not, and a response is taken. `at_` is the ring time of its /SK/. -/
def execCourierFrameReceived (n : Fin 4) (octets : Octets) (violated : Bool) (at_ : Nat) (s : State) :
    Host.Outcome State Fault Refusal :=
  let s0 := s.advanceTo at_
  if s.isActive (.ring n) && (s.ring n).tracking.on then
    .next ((s0.passOn n (s.ring n).trackPort at_ octets).trackCourier n octets)
  else if !s.masters n || !s.isActive (.ring n) then .next s
  else
    if violated || !courierValid octets then .next s0
    else
      let a := u8At octets 1
      match (s.ring n).cycle with
      | none => .next s0
      | some last =>
        let c := s.gapCycle n last at_
        let start : Int := (cycleStart (s.period n) c : Int) - s.thetaNs
        let off := 10 * ((at_ : Int) - start) - (s.gamma10 n a : Int) - ((s.ring n).ringDelay / 100 : Nat)
        if 1 ≤ a ∧ a ≤ 32 ∧ (off > 400 ∨ off < -400) then
          .next (s0.masterCut n a c at_)
        else if u8At octets 3 = 2 && u8At octets 2 == 0 then
          .next (s0.serviceAnswer n a (u16At octets 6) (slice octets 8 (u16At octets 4)))
        else .next s0

/-- NODE_SERVICE_TIMEOUT (R207): the request to `addr` last sent in cycle r times out once cycle r + 8 has started. -/
def execNodeServiceTimeout (n : Fin 4) (addr : Nat) (s : State) : Host.Outcome State Fault Refusal :=
  match (s.ring n).svcOut.find? (·.req.dest == addr), (s.ring n).cycle with
  | some o, some c => .next (if o.sentAt + 8 ≤ c then s.serviceTimeout n o else s)
  | _, _ => .next s

/-! ### Links and loss -/

/-- RING_LOST: 4 consecutive cycles without a returned caravan (R256). -/
def execRingLost (n : Fin 4) (s : State) : Host.Outcome State Fault Refusal :=
  if decide (4 ≤ (s.ring n).lost) && s.isActive (.ring n) && !s.loopBack n then .next (s.fault (.ring n) 0x0101)
  else .next s

/-- PORT_RECEIVE_SYNC_LOSS (R159, R250). -/
def execPortReceiveSyncLoss (n : Fin 4) (east : Bool) (s : State) : Host.Outcome State Fault Refusal :=
  .next (s.onRing n fun r => if s.roleEast east then { r with rxE := false } else { r with rxW := false })

/-- RECEIVE_SYNC_GAINED (R159). -/
def execReceiveSyncGained (n : Fin 4) (east : Bool) (s : State) : Host.Outcome State Fault Refusal :=
  .next (s.onRing n fun r => if s.roleEast east then { r with rxE := true } else { r with rxW := true })

/-! ### Requests and objects of a ring -/

/-- Ring status (Table 05-26). -/
def State.ringStatus (s : State) (n : Nat) : Nat :=
  let r := s.ring n
  let meas := match r.caravan with | some k => k.kind == 3 | none => false
  r.nodes <<< 24 ||| r.loopNear <<< 18 ||| r.loopFar <<< 12 ||| b2n r.unexpected <<< 5 ||| b2n r.command.isSome <<< 4 |||
  b2n meas <<< 3 ||| b2n r.eastLost <<< 2 ||| b2n (!r.rxW) <<< 1 ||| b2n r.folded

/-- Values of the ring's RO objects, at offset `off` of its range. -/
def State.readRing (s : State) (n off sub : Nat) : Option Octets :=
  let r := s.ring n
  if off = 0x20 then some (toLE 4 (s.ringStatus n))
  else if off = 0x21 then some (toLE 4 (nth r.errors (sub - 1) 0))
  else if off = 0x30 then some (toLE 2 (nth r.strays (sub - 1) 0))
  else if off = 0x41 then some (toLE 8 r.cmdTarget)
  else if off = 0x43 then some (toLE 8 r.barrierDone)
  else if off = 0x46 then some r.snapshot
  else if off = 0x60 then
    some (toLE 4 (if sub = 0x21 then r.ringDelay else (r.delayOf sub).delay))
  else none

/-- The cycle a global command request names (Table 05-18): `next` is the next cycle to start. -/
def commandTarget (next target : Nat) : Nat :=
  if target = 0 then next + 4
  else
    let c := next - 1
    let d := (target + 2 ^ 48 - c % 2 ^ 48) % 2 ^ 48
    c + (if d = 0 then 2 ^ 48 else d)

/-- The first cycle of ring `n` that starts after the present instant, where what a request brings takes effect (R17, R262, R266). -/
def State.cycleAhead (s : State) (n : Nat) : Nat :=
  let c := cycleAt (s.period n) s.now + 1
  match (s.ring n).cycle with
  | some k => max (k + 1) c
  | none => c

/-- State check of the ring's request objects (R258, R262, R266), before any range check. -/
def State.checkRingState (s : State) (n off : Nat) : Option Nat :=
  let r := s.ring n
  if off = 0x40 then
    if r.command.isSome || !s.isRunning (.ring n) then some abState else none
  else if off = 0x48 then
    if !r.folded || r.command.isSome then some abState else none
  else if off = 0x42 then if r.barrier != 0 then some abState else none
  else none

/-- Range check beyond the card: a TARGET less than 2 cycles after the next cycle start (R262). -/
def State.checkRingRange (s : State) (n off v : Nat) : Option Nat :=
  if off = 0x40 then
    let next := s.cycleAhead n
    if commandTarget next (field v 47 0) < next + 2 then some abRange else none
  else none

/-- An accepted write to a request object of the ring (R259, R263, R266). -/
def State.applyRing (s : State) (n off v : Nat) : State :=
  let next := s.cycleAhead n
  if off = 0x40 then
    let t := commandTarget next (field v 47 0)
    s.onRing n fun r =>
      { r with command := some ⟨field v 63 56, field v 55 48, t, 0, max next (t - 16)⟩, cmdTarget := t }
  else if off = 0x48 then
    s.onRing n fun r => { r with command := some ⟨4, 0, next + 4, 0, next⟩, cmdTarget := next + 4 }
  else if off = 0x42 then s.onRing n fun r => { r with barrier := v, barrierFrom := next, barrierDone := 0 }
  else s

/-- Content check of a pannier table (R225, Table 05-7). -/
def panniersOk (o : Octets) : Bool :=
  let e := u8At o 0
  let es := (List.range e).map fun i => slice o (4 + 8 * i) 8
  let addr := fun (x : Octets) => u8At x 0
  let lam := fun (a : Nat) => u16At o (4 + 8 * e + 2 * a)
  let joints := (es.filter fun x => u8At x 4 == 1).map fun x => u16At x 6
  let flows := (es.filter fun x => u8At x 4 == 2).map fun x => u16At x 6
  decide (e ≤ 128) && o.length == 70 + 8 * e && inRange 1 16 (u8At o 1) && u16At o 2 == 0 &&
  (es.all fun x =>
    let l := 8 * u8At x 2
    let sp := u8At x 3
    inRange 1 32 (addr x) && u8At x 1 ≤ 3 && inRange 2 32 (u8At x 2) && sp % 4 == 0 && decide (sp + 12 ≤ l) &&
    inRange 1 3 (u8At x 4) && u8At x 5 ≤ 1 &&
    (if u8At x 4 = 1 then u16At x 6 ≤ 95 && u8At x 2 == 8 && sp == 16
     else if u8At x 4 = 2 then inRange 128 1023 (u16At x 6) else u16At x 6 == 0xFFFF)) &&
  ((es.map fun x => (addr x, u8At x 1)).Nodup : Bool) &&
  (es.all fun x =>
    let mine := es.filter fun y => addr y == addr x
    u8At x 1 < mine.length && mine.all fun y => u8At y 4 == u8At x 4) &&
  (joints.Nodup : Bool) && (flows.Nodup : Bool) &&
  inRange 640 1024 (lam 0) &&
  (List.range 32).all fun i =>
    let a := i + 1
    if es.any fun x => addr x == a then lam a == 0 || inRange 128 1024 (lam a) else lam a == 0

end Sys2Proof.Machine
end

