-- ==== Sys2Proof/Machine/TraceOps.lean ====
section
/-! DEFINITION. The trace unit (spec/09_joint_control.md R415 to R422). -/

namespace Sys2Proof.Machine

/-- Enabled channels as (joint, word) (Table 09-26). -/
def State.traceChannels (s : State) : List (Nat × Nat) :=
  (((chunks 2 32 (s.obj 0x2F01 0)).map leNat).filter fun e => bitAt e 15).map fun e => (field e 11 4, field e 3 0)

/-- Octets of one record. -/
def State.traceSize (s : State) : Nat := 8 + 4 * s.traceChannels.length

/-- Records that the buffer holds (R417). -/
def State.traceCapacity (s : State) : Nat := 2097152 / s.traceSize

/-- PRE, DECIM and MODE (Table 09-28). -/
def State.tracePre (s : State) : Nat := field (s.cfg 0x2F02 0) 31 0
def State.traceDecim (s : State) : Nat := field (s.cfg 0x2F02 0) 63 48
def State.traceStream (s : State) : Bool := bitAt (s.cfg 0x2F02 0) 32

/-- Value of a channel in the record of cycle `c` (R415, R416). -/
def State.traceValue (s : State) (c : Nat) (ch : Nat × Nat) : Int :=
  match s.trace.vectors.find? fun v => v.1 == ch.1 && v.2.1 % 2 ^ 32 == c % 2 ^ 32 with
  | some v => toSigned 24 (nth v.2.2 ch.2 0)
  | none => -2147483648

/-- The record of cycle `c` (R415). -/
def State.traceRecord (s : State) (c : Nat) : Octets :=
  let chs := s.traceChannels
  toLE 4 c ++ toLE 4 chs.length ++ chs.flatMap fun ch => toLE 4 (ofSigned 32 (s.traceValue c ch))

/-- Octets written into a circular buffer of 2 MiB from position `w` on; the list holds it up to the highest octet written. -/
def circular (buf : Octets) (w : Nat) (o : Octets) : Octets :=
  o.zipIdx.foldl (fun b x =>
    let p := (w + x.2) % 2097152
    if p < b.length then b.set p x.1 else padTo p b ++ [x.1]) buf

/-- The channel condition of the trigger for a record (Table 09-30). -/
def State.traceMet (s : State) (c : Nat) : Bool :=
  let t := s.cfg 0x2F03 0
  let lvl := s.cfgInt 32 0x2F04 0
  match s.traceChannels[field t 13 9]? with
  | none => false
  | some ch =>
    let v := s.traceValue c ch
    if field t 31 30 = 2 then decide (lvl < v) else if field t 31 30 = 3 then decide (v < lvl) else false

/-- Stream mode: a full block goes to flow 120 when it has room (R419, Table 16-9); records the buffer would overwrite are dropped. -/
def State.traceBlock (s : State) : State :=
  let k := 1436 / s.traceSize
  let t := s.trace
  if k ≤ t.unposted.length ∧ s.way.hasRoom 120 = true ∧ s.isRunning .waystation = true then
    let body := (t.unposted.take k).flatten
    let o := toLE 1 1 ++ toLE 1 2 ++ toLE 1 s.traceChannels.length ++ toLE 1 0 ++ toLE 4 t.sent ++ toLE 2 k ++ zeros 6 ++ body
    let s1 := s.onTrace fun t => { t with unposted := t.unposted.drop k, sent := (t.sent + 1) % 2 ^ 32 }
    let b := s1.controlBuffer
    b.2.enqueue ⟨120, 0x10016, b.1, o.length, 0, t.sent, o, 0⟩
  else if s.traceCapacity < t.unposted.length then
    (s.onTrace fun t => { t with unposted := t.unposted.drop 1 }).raise 370
  else s

/-- A record formed for cycle `c`: stored, triggering or streamed (R417 to R419, R421). -/
def State.traceStep (s : State) (c : Nat) : State :=
  let o := s.traceRecord c
  let met := s.traceMet c
  let t := s.trace
  if t.state = 0 ∨ t.state = 4 then s
  else
    let at_ := t.written % 2097152
    let s1 := s.onTrace fun t => { t with written := t.written + o.length, buffer := circular t.buffer at_ o, met := met }
    if t.state = 5 then (s1.onTrace fun t => { t with unposted := t.unposted ++ [o] }).traceBlock
    else if t.state = 1 then
      s1.onTrace fun t => { t with held := t.held + 1, state := if s.tracePre ≤ t.held + 1 then 2 else 1, now := false }
    else if t.state = 2 then
      if t.now || (met && !t.met) then
        let left := s.traceCapacity - s.tracePre - 1
        let s2 := (s1.onTrace fun t =>
          { t with state := if left = 0 then 4 else 3, toCome := left, triggerAt := at_, now := false }).raise 368
        if left = 0 then s2.raise 369 else s2
      else s1
    else
      let left := t.toCome - 1
      let s2 := s1.onTrace fun t => { t with toCome := left, state := if left = 0 then 4 else 3 }
      if left = 0 then s2.raise 369 else s2

/-- At the start of board cycle `b`, the record of cycle b − 2 (R415, R416). -/
def State.traceCycle (s : State) (b : Nat) : State :=
  if s.isRunning .trace && decide (2 ≤ b) && decide ((b - 2) % s.traceDecim = 0) then s.traceStep (b - 2) else s

/-- START checks (R420): the fault code. -/
def State.traceFaultCode (s : State) : Option Nat :=
  if s.traceCapacity ≤ s.tracePre then some 0x0101 else if s.traceChannels.isEmpty then some 0x0102 else none

/-- The unit passes to RUNNING: a new capture. -/
def State.traceRun (s : State) : State :=
  let st := if s.traceStream then 5 else if s.tracePre = 0 then 2 else 1
  s.onTrace fun t =>
    { t with state := st, written := 0, buffer := [], held := 0, toCome := 0, met := true, now := false, triggerAt := 0,
             unposted := [], sent := 0 }

/-- A manual trigger selects the next record of an armed capture (R418). -/
def State.traceNow (s : State) : State := if s.trace.state = 2 then s.onTrace fun t => { t with now := true } else s

/-- Range of the channel list (Table 09-26). -/
def traceChannelsOk (o : Octets) : Bool :=
  let es := (chunks 2 32 o).map leNat
  es.all (fun e => field e 14 12 == 0 && decide (field e 11 4 ≤ 95)) &&
    (es.dropWhile fun e => bitAt e 15).all fun e => !bitAt e 15

/-- Trace objects that State computes. -/
def State.readTrace (s : State) (idx sub : Nat) : Option Octets :=
  let t := s.trace
  if idx = 0x2F06 then some (toLE 4 (if sub = 1 then t.state <<< 24 ||| t.written % 2097152 else t.triggerAt))
  else if idx = 0x2F07 then some (padTo 2097152 t.buffer)
  else none

end Sys2Proof.Machine
end

