-- ==== Sys2Proof/Machine/FnStart.lean ====
section
/-! DEFINITION. Starting, stopping and clearing functions (spec/03_object_dictionary.md R99 to R105, R811 to R813, and what each
chapter says of its own functions). -/

namespace Sys2Proof.Machine

/-! ### START -/

/-- Why START is refused (R99, R102; R83 and R85 for the compute functions). -/
def State.startRefused (s : State) (f : Fn) : Option Nat :=
  if !s.isStopped f || s.computeAsleep f then some abState
  else if (s.prereqs f).any fun p => !s.isRunning p then some abPrereq
  else none

/-- START of the Waystation (R330, R331). -/
def State.startWaystation (s : State) : State :=
  if wayTableOk (s.obj 0x2010 0) then s.wayStart else s.fault .waystation 0x0103

/-- START of a CAN controller (R669); in mode 3 it passes to RUNNING at once. -/
def State.startCan (s : State) (n : Nat) : State :=
  if s.canInconsistent n then (s.canStart n).fault (.can n) 0x0101
  else if s.canMode n = 3 then (s.canStart n).setFn (.can n) .running
  else s.canStart n

/-- START of an axis: its stage group must not be named by another axis that is not STOPPED (R610). -/
def State.startAxis (s : State) (k : Nat) : State := if s.stageShared k then s.fault (.axis k) 0x0102 else s

/-- What a function does on passing from STOPPED to STARTING. -/
def State.onStart (s : State) : Fn → State
  | .waystation => s.startWaystation
  | .loopEngines => s.leStart
  | .front => if s.frontOk then s else s.fault .front 0x0101
  | .solver => if s.solverOk then s else s.fault .solver 0x0101
  | .planner => if s.plannerOk then s else s.fault .planner 0x0103
  | .voxel => s.voxelStart
  | .separation => s.sepStart
  | .fabric => s.fabricStart
  | .trace => match s.traceFaultCode with | some c => s.fault .trace c | none => s
  | .ring n => s.ringStart n
  | .can n => s.startCan n
  | .hostPort n => s.portStart n
  | .timeBase => s.timeBaseStart
  | .pairing => s.pairingStart
  | .arm a => s.armStart a
  | .joint j => s.jointStart j
  | .axis k => s.startAxis k
  | .pwm g => s.pwmStart g
  | .feedback n => s.feedbackStart n
  | .safety => s.safetyStart
  | .interp => s

/-- The function passes to STARTING with fault code 0x0000 (R99, R811). -/
def State.toStarting (s : State) (f : Fn) : State := (s.setFnRec f ⟨.starting, 0⟩).markLeft f

/-- A START carried out. -/
def State.startFn (s : State) (f : Fn) : State := (s.toStarting f).onStart f

/-! ### STARTING to RUNNING -/

/-- Functions that pass to RUNNING by a step of their own: a ring by its start sequence, a joint by its law's items, a group by
its first period, a controller by bus integration, planning functions at a boundary, the builder at a millisecond, the separation
engine with its first results. -/
def ownStart : Fn → Bool
  | .ring _ => true
  | .joint _ => true
  | .pwm _ => true
  | .can _ => true
  | .interp => true
  | .arm _ => true
  | .voxel => true
  | .separation => true
  | _ => false

/-- A port in loop-back stays in STARTING until STOP (R692), and so does a ring (R270). -/
def State.staysStarting (s : State) : Fn → Bool
  | .hostPort n => s.cfg (portIdx n 7) 0 != 0
  | .ring n => s.loopBack n
  | _ => false

/-- The safety function enters RUNNING with every arm in STO (R541, EV432). -/
def State.safetyRunning (s : State) : State :=
  (List.range 12).foldl (fun s a => if s.safEnabled a then s.raise 432 else s) s

/-- What a function does on passing to RUNNING. -/
def State.onRunning (s : State) : Fn → State
  | .timeBase => s.timeBaseRunning
  | .front => s.onPlan fun p => { p with ratio := s.cfg 0x2801 1 }
  | .trace => s.traceRun
  | .axis k => s.bothLimits k
  | .pairing => s.updateArmed
  | .safety => s.safetyRunning.updateArmed
  | _ => s

/-- What a start waits for beyond its checks: the safety function its inputs' first samples (R551). -/
def State.startReady (s : State) : Fn → Bool
  | .safety => s.inputsSampled
  | _ => true

/-- START_CHECKS_COMPLETE (R100). -/
def execStartChecksComplete (f : Fn) (s : State) : Host.Outcome State Fault Refusal :=
  if s.fnSt f = .starting ∧ ownStart f = false ∧ s.staysStarting f = false ∧ s.startReady f = true then .next ((s.setFn f .running).onRunning f)
  else .next s

/-- START_LIMIT_EXPIRY (R100, R239, R270, R692). -/
def execStartLimitExpiry (f : Fn) (s : State) : Host.Outcome State Fault Refusal :=
  if s.fnSt f = .starting ∧ s.staysStarting f = false then .next (s.fault f 0x0002) else .next s

/-! ### STOP -/

/-- Why STOP is refused (R99, R103). -/
def State.stopRefused (s : State) (f : Fn) : Option Nat :=
  if !s.isActive f then some abState
  else if (s.dependents f).any fun g => s.isActive g then some abPrereq
  else none

/-- An acting partner whose pairing function stops releases at the next board cycle (Table 19-2). -/
def State.stopPairing (s : State) : State :=
  (s.onPair fun p => { p with releasePending := p.releasePending || (p.acting && p.pairSel) }).updateArmed

/-- What a function does on passing to STOPPING. -/
def State.onStop (s : State) : Fn → State
  | .waystation => s.wayStop
  | .loopEngines => s.endHalts
  | .voxel => s.voxelStop
  | .trace => s.traceLeft
  | .can n => s.canStop n
  | .hostPort n => s.portLeft n
  | .timeBase => s.timeBaseLeft
  | .pairing => s.stopPairing
  | .joint j => s.jointStop j
  | .axis k => s.axisStop k 4
  | .safety => s.safetyStop.updateArmed
  | .ring _ => s.updateArmed
  | _ => s

/-- A STOP carried out. -/
def State.stopFn (s : State) (f : Fn) : State := (s.setFn f .stopping).onStop f

/-- No item is in service at a loop engine's positions 0–47 (R381, Table 07-3). -/
def State.leServed (s : State) : Bool :=
  (List.range 48).all (fun p => (nth s.way.positions p none).isNone) && s.way.finished.all fun x => decide (48 ≤ x.1)

/-- The condition of a function's stop sequence (R381, R406, R435, R498, R610, R670). -/
def State.stopDone (s : State) : Fn → Bool
  | .loopEngines => s.leServed
  | .voxel => !s.updateBusy
  | .separation => s.per.sep.isNone
  | .arm a => s.atStandstill a
  | .joint _ => false
  | .axis k => (s.axis k).move.isNone
  | .can n => (s.can n).sending.isNone
  | _ => true

/-- What a function does on passing from STOPPING to STOPPED. -/
def State.onStopped (s : State) : Fn → State
  | .arm a => s.armStopped a
  | .ring n => (s.onRing n Ring.goIdle).updateArmed
  | _ => s

/-- The machine when a function's stop sequence can be over: a PWM group completes its period (R626). -/
def State.toStopEnd (s : State) : Fn → State
  | .pwm g => if (s.group g).period.isSome then s.toPeriod g else s
  | _ => s

/-- STOP_SEQUENCE_COMPLETE (R101). -/
def execStopSequenceComplete (f : Fn) (s : State) : Host.Outcome State Fault Refusal :=
  if s.fnSt f = .stopping ∧ s.stopDone f = true then .next (((s.toStopEnd f).setFn f .stopped).onStopped f) else .next s

/-! ### CLEAR -/

/-- The cause that a fault code names is present (R105, R813 and the chapters). -/
def State.causePresent (s : State) (f : Fn) : Bool :=
  let code := (s.fn f).code
  if code = 0x0001 then (s.prereqs f).any fun p => s.fnSt p == .fault
  else
    match f with
    | .joint j => !s.jointCauseGone j code
    | .axis k => code == 0x0101 && (s.axis k).limp && (s.axis k).limn
    | .pwm g => s.tripsOf g != 0 || s.anyHalted
    | .safety => !s.safetyCauseGone
    | .pairing => code == 0x0102 && s.pair.actvO && s.pair.actvI
    | _ => false

/-- Why CLEAR is refused (R99, R105). -/
def State.clearRefused (s : State) (f : Fn) : Option Nat :=
  if s.fnSt f != .fault || s.causePresent f then some abState else none

/-- A group that leaves FAULT while a trip or a halt is present enters it again (R624). -/
def State.pwmCleared (s : State) (g : Nat) : State :=
  if s.tripsOf g != 0 then s.fault (.pwm g) 0x0101 else if s.anyHalted then s.fault (.pwm g) 0x0102 else s

/-- What a function does on leaving FAULT. -/
def State.onClear (s : State) : Fn → State
  | .safety => s.safetyCleared
  | .pwm g => s.pwmCleared g
  | .joint j => s.onJoint j fun x => { x with phase := .off, count := 0 }
  | .ring _ =>
    let idle := (List.range 4).any fun n => s.fnSt (.ring n) == .fault && (s.fn (.ring n)).code == 0x0102
    s.onPower fun p => { p with ringPllIdle := p.ringPllIdle && idle }
  | _ => s

/-- A CLEAR carried out: STOPPED, with the fault code kept (R811). -/
def State.clearFn (s : State) (f : Fn) : State := (s.setFn f .stopped).onClear f

/-! ### Function commands -/

/-- Why a function command is refused; a value that is no command falls to the range check. -/
def State.commandRefused (s : State) (f : Fn) (v : Nat) : Option Nat :=
  if v = 1 then s.startRefused f else if v = 2 then s.stopRefused f else if v = 3 then s.clearRefused f else none

/-- The state that a command leads to (Table 03-8). -/
def commandState (v : Nat) : FnState := if v = 1 then .starting else if v = 2 then .stopping else .stopped

/-- A function command carried out. -/
def State.command (s : State) (f : Fn) (v : Nat) : State :=
  if v = 1 then s.startFn f else if v = 2 then s.stopFn f else if v = 3 then s.clearFn f else s

end Sys2Proof.Machine
end

