-- ==== Sys2Proof/Machine/DictOps.lean ====
section
/-! DEFINITION. Dictionary messages, sessions and the checks of a request up to the rate limit
(spec/03_object_dictionary.md R107 to R126, R135 to R138). -/

namespace Sys2Proof.Machine

/-- A request: header, opcode, object and data (Table 03-9). -/
structure Req where
  h : Hdr
  op : Nat
  idx : Nat
  sub : Nat
  data : Octets
deriving DecidableEq, Repr

/-- Header and data of a message, in little-endian order (R4, R107). -/
def message (version op session seq idx sub flags len rsvd : Nat) (data : Octets) : Octets :=
  toLE 1 version ++ toLE 1 op ++ toLE 2 session ++ toLE 4 seq ++ toLE 2 idx ++ toLE 1 sub ++ toLE 1 flags ++ toLE 2 len ++
  toLE 2 rsvd ++ data

/-- The octets of a request that its tag covers. -/
def Req.octets (r : Req) : Octets :=
  message r.h.version r.op r.h.session r.h.seq r.idx r.sub r.h.flags r.h.len r.h.rsvd r.data

/-- A response to a request: session, sequence, index and subindex repeat the request's (R107, R108). -/
def Req.answer (r : Req) (session op flags : Nat) (data : Octets) : Octets :=
  message 1 op session r.h.seq r.idx r.sub flags data.length 0 data

/-- Tag of a request (R120). -/
def reqTag (key o : Octets) : Octets := Keccak.kmac256 key o 16 customReq

/-- Tag of a response (R120). -/
def rspTag (key o : Octets) : Octets := Keccak.kmac256 key o 16 customRsp

/-! ### Sending -/

/-- A response leaves by the endpoint's port: a datagram (R681, R685), or a CAN FD frame (R135, R136). -/
def State.send (s : State) (e : Endpoint) (msg : Octets) : State :=
  let s1 := s.onDict fun d => { d with lastReply := some ⟨e, msg⟩ }
  if e.port < 2 then s1.portDatagram e.port ⟨.response, e.addr, e.udp, msg, 0⟩ else s1.canRespond (e.port - 2) msg

/-- A refusal at steps 1 to 3, with a tag of zeros (R117). -/
def State.refuseBare (s : State) (r : Req) (code : Nat) : State :=
  s.send r.h.src (r.answer r.h.session 0xFF 0 (toLE 4 code) ++ zeros 16)

/-- An open session changed. -/
def State.onSession (s : State) (id : Nat) (f : Session → Session) : State :=
  s.onDict fun d => { d with sessions := d.sessions.map fun x => if x.id = id then f x else x }

/-- An open session by its identity. -/
def State.session (s : State) (id : Nat) : Option Session := s.dict.sessions.find? fun x => x.id == id

/-- A tagged response that is not kept for a repeat. -/
def State.sendTagged (s : State) (x : Session) (o : Octets) : State := s.send x.src (o ++ rspTag x.key o)

/-- The response to a request that consumed its number: sent, and stored for a repeat (R126). -/
def State.respond (s : State) (r : Req) (x : Session) (op flags : Nat) (data : Octets) : State :=
  let o := r.answer x.id op flags data
  (s.onSession x.id fun y => if y.lastSeq = r.h.seq then { y with lastRsp := o } else y).sendTagged x o

/-- A refusal after step 4 (R108). -/
def State.refuse (s : State) (r : Req) (x : Session) (code : Nat) : State := s.respond r x 0xFF 0 (toLE 4 code)

/-- A refusal at step 4, which consumes no number. -/
def State.refuseNumber (s : State) (r : Req) (x : Session) (code : Nat) : State :=
  s.sendTagged x (r.answer x.id 0xFF 0 (toLE 4 code))

/-- A stored response sent again with RETX set (R126); while the content check of a final segment runs there is none yet. -/
def State.resend (s : State) (x : Session) : State :=
  if x.lastRsp = [] then s else s.sendTagged x (x.lastRsp.modify 11 fun b => b ||| 2#8)

/-! ### Arrival -/

/-- The dictionary is served: the management processor has left reset and the part is not held in production test (R72, R92). -/
def State.serves (s : State) : Bool := s.power.mgmtUp && !s.power.testMode

/-- The endpoint takes the request: a dictionary datagram within the port's ingress limit (R684), or a frame of a RUNNING
controller whose endpoint is enabled (R135), which counts as received without error. -/
def State.heard (s : State) (e : Endpoint) : State × Bool :=
  if e.port < 2 then
    let a := (s.clearSent e.port).portFrame e.port 0 32
    (a.1, a.2 && s.serves)
  else
    let n := e.port - 2
    let on := decide (n < 4) && s.canHears n && s.canMode n == 0 && s.cfg (canIdx n 0x10) 1 == 1
    (if on then s.canReceived n else s, on && s.serves)

/-- Opcodes of requests (Table 03-10). -/
def requestOpcodes : List Nat := [0x10, 0x11, 0x20, 0x21, 0x30, 0x31, 0x32, 0x33, 0x34, 0x40]

/-- The first part of step 1: version, then opcode (R114, R153). -/
def Req.headRefused (r : Req) : Option Nat :=
  if r.h.version ≠ 1 then some abVersion else if requestOpcodes.contains r.op then none else some abOpcode

/-- Step 1: version, opcode, length field against the received data and R109. -/
def Req.formRefused (r : Req) : Option Nat :=
  match r.headRefused with
  | some c => some c
  | none =>
    if r.h.len ≠ r.data.length ∨ (if r.h.src.port < 2 then 1028 else 32) < r.data.length then some abLengthField else none

/-- A tag that does not verify: recorded, and the third one closes the session (R123, R138). -/
def State.tagFailure (s : State) (r : Req) (x : Session) : State :=
  let s1 := s.record 0x0012 x.id (toLE 1 r.op ++ toLE 4 r.h.seq)
  let s2 := s1.onSession x.id fun y => { y with tagFails := y.tagFails + 1 }
  (if x.tagFails + 1 < 3 then s2 else s2.closeSessions (fun y => y.id == x.id) 2).refuseBare r abTag

/-- The times of a list that lie within the last second (R118). -/
def State.recent (s : State) (l : List Nat) : List Nat := l.filter fun t => decide (s.time.ringNs < t + 1000000000)

/-- Step 4: a repeat of the last consumed request is answered again; a number out of turn is refused; else the number is consumed
(R116, R126). Answers the session as it stood before. -/
def State.number (s : State) (r : Req) (x : Session) : State × Option Session :=
  if r.h.seq = x.lastSeq ∧ r.octets ++ r.h.tag = x.lastReq then (s.resend x, none)
  else if x.lastSeq = 0xFFFFFFFF then (s.refuseNumber r x abExhausted, none)
  else if r.h.seq ≠ x.lastSeq + 1 then (s.refuseNumber r x abSequence, none)
  else
    (s.onSession x.id fun y =>
      { y with lastSeq := r.h.seq, lastReq := r.octets ++ r.h.tag, lastRsp := [], latch := none }, some x)

/-- Step 5: the rate limits (R118). -/
def State.rated (s : State) (r : Req) (x : Session) : State × Option Session :=
  let mine := s.recent x.reqAt
  let all := s.recent s.dict.reqAt
  if 2000 ≤ mine.length ∨ 10000 ≤ all.length then (s.refuse r x abRate, none)
  else
    ((s.onSession x.id fun y => { y with reqAt := mine ++ [s.time.ringNs] }).onDict fun d =>
      { d with reqAt := all ++ [s.time.ringNs] }, some x)

/-- Steps 1 to 5 of Table 03-11. Answers the session when the request goes on, else the response has been sent. The endpoint that a
session is bound to is the port, the address and the UDP port; that the port counts too is the model's choice (R121; assumption
log 68). -/
def State.letIn (s : State) (r : Req) : State × Option Session :=
  match r.formRefused with
  | some c => (s.refuseBare r c, none)
  | none =>
    match s.session r.h.session with
    | none => (s.refuseBare r abNotOpen, none)
    | some x =>
      if x.src ≠ r.h.src then (s.refuseBare r abEndpoint, none)
      else if r.h.tag ≠ reqTag x.key r.octets then (s.tagFailure r x, none)
      else
        let a := (s.onSession x.id fun y => { y with confirmed := true }).number r x
        match a.2 with
        | some y => a.1.rated r y
        | none => a

/-- What passes steps 1 to 5 is served. -/
def State.letThrough (s : State) (r : Req) (serve : Session → State → State) : State :=
  let b := s.letIn r
  match b.2 with
  | some x => serve x b.1
  | none => b.1

/-! ### The way to the management processor: items of flow 118 (R21, R22, R137, R293, R320, R649) -/

/-- Origin of the dictionary items of a port: HP0, HP1, CAN0 to CAN3 in rising order (R137; assumption log 50). -/
def requestOrigin (port : Nat) : Nat := 0x1001E + port

/-- A dictionary item: its buffer holds where the message came from and the message, which with a frame's largest length ends within
2 048 octets (R675; assumption log 69). -/
def requestItem (e : Endpoint) (o : Octets) (buffer tag : Nat) : Item :=
  let p := (toLE 1 e.port ++ toLE 16 e.addr ++ toLE 2 e.udp ++ o).take 2048
  ⟨118, requestOrigin e.port, buffer, p.length, 0, tag % 2 ^ 32, p, 0⟩

/-- A dictionary item is on its way: queued, held or in service. -/
def Waystation.requestsWait (w : Waystation) : Bool := w.load 118 != 0 || w.held.any fun h => h.flow == 118

/-- A command still waiting brings a message at the same instant on a port that goes first (R137). -/
def State.outranked (s : State) (port at_ : Nat) : Bool :=
  s.pending.any fun c => match c.arrival with | some a => a.1 == at_ && decide (a.2 < port) | none => false

/-- A message becomes an item of flow 118. When none is on its way, the item goes straight to a free position of the management
processor (R302, R303), and the answer is true; else it waits its turn, or is held (R320), or, from a controller that already
holds one, is lost (R649). Without a Waystation RUNNING there are no items, and the management processor takes the message
itself (assumption log 69). -/
def State.carry (s : State) (e : Endpoint) (o : Octets) (at_ : Nat) : State × Bool :=
  if !s.isRunning .waystation then (s, true)
  else if 2 ≤ e.port ∧ (s.way.held.any fun h => h.origin == requestOrigin e.port) = true then
    (s.raise (canEvent (e.port - 2) 3), false)
  else
    let b := s.drawBuffer 0x100000 (0x100000 - 2048)
    let d := b.2.draw
    let it := requestItem e o b.1 d.1
    match (if d.2.way.requestsWait || s.outranked e.port at_ then none else d.2.placeFor .management false) with
    | some p => ((d.2.handOver it).setPos p.1 (some it), true)
    | none => (d.2.post it, false)

/-- The octets of a request as its port receives them: a CAN frame fills up with zeros (R136). -/
def Req.received (r : Req) : Octets :=
  let o := r.octets ++ r.h.tag
  if r.h.src.port < 2 then o else padTo (canLength true false (canDlc o.length)) o

/-- A request at its endpoint: carried to the management processor, then steps 1 to 5. -/
def State.request (s : State) (r : Req) (serve : Session → State → State) : State :=
  let a := (s.advanceTo r.h.at_).heard r.h.src
  if a.2 then
    let c := a.1.carry r.h.src r.received r.h.at_
    if c.2 then c.1.letThrough r serve else c.1
  else a.1

/-! ### OPEN -/

/-- A session identity: non-zero and unused, from where a free value points (assumption log 1). -/
def State.freshId (s : State) (from_ : Nat) : Nat :=
  (((List.range 9).map fun i => (from_ + i) % 65535 + 1).find? fun id => (s.session id).isNone).getD 1

/-- Why OPEN is refused: rate (R118), slot, number of sessions (R124), a safety commissioning session already open (R98). -/
def State.openRefused (s : State) (slot : Nat) (data : Octets) : Option Nat :=
  if data.length ≠ 32 then some abLength
  else if 10000 ≤ (s.recent s.dict.reqAt).length then some abRate
  else
    match (if slot < 8 then s.keySlot slot else none) with
    | none => some abKeySlot
    | some k =>
      if !k.enabled then some abKeySlot
      else if 8 ≤ s.dict.sessions.length then some abSessionsFull
      else if k.role == 3 && s.dict.sessions.any (fun x => x.role == 3) then some abSafetySession
      else none

/-- Payload of the record of an opened session (kind 0x0010). -/
def openPayload (slot role : Nat) (e : Endpoint) : Octets :=
  toLE 1 slot ++ toLE 1 role ++ toLE 2 (if e.port < 2 then e.udp else e.port - 2) ++
  (if e.port < 2 then padTo 16 (if e.addr < 2 ^ 32 then toBE 4 e.addr else toBE 16 e.addr) else zeros 16)

/-- A session opened (R119, R121, R124, R138). -/
def State.openWith (s : State) (r : Req) (slot : Nat) (nonce : Octets) (k : KeySlot) : State :=
  let d := s.draw
  let id := s.freshId d.1
  let n := d.2.drawOctets 16
  let key := Keccak.kmac256 k.key (toLE 2 id ++ nonce ++ n.1) 32 customSession
  let x : Session :=
    { id := id, src := r.h.src, slot := slot, role := k.role, emptyKey := k.key.isEmpty, key := key, confirmed := false,
      lastSeq := 0, lastReq := [], lastRsp := [], tagFails := 0, reqAt := [], xfer := none, latch := none }
  let s1 := n.2.onDict fun y => { y with sessions := y.sessions ++ [x], reqAt := s.recent s.dict.reqAt ++ [s.time.ringNs] }
  (s1.record 0x0010 id (openPayload slot k.role r.h.src)).sendTagged x (r.answer id 0x90 0 (n.1 ++ toLE 1 k.role ++ zeros 15))

/-- An OPEN request; its checks are those of the message's form and of R98, R118 and R124. -/
def State.openReq (s : State) (r : Req) : State :=
  let slot := u8At r.data 0
  let nonce := slice r.data 16 16
  match r.formRefused with
  | some c => s.refuseBare r c
  | none =>
    match s.openRefused slot r.data with
    | some c => s.refuseBare r c
    | none =>
      match s.keySlot slot with
      | some k => s.openWith r slot nonce k
      | none => s.refuseBare r abKeySlot

end Sys2Proof.Machine
end

