-- ==== Sys2Proof/Machine/Objects.lean ====
section
/-! DEFINITION. Reading and writing objects: values, steps 6 to 12 of Table 03-11, what an accepted write does
(spec/03_object_dictionary.md R93 to R97, R110 to R116, R125, R127, R816; the cards of every chapter). -/

namespace Sys2Proof.Machine

/-! ### Values -/

/-- Value of a control record (Tables 03-5, 03-7). -/
def State.readControl (s : State) (f : Fn) (sub : Nat) : Octets :=
  if sub = 1 then toLE 1 (s.fnSt f).code else if sub = 3 then toLE 2 (s.fn f).code else [0#8]

/-- Value that State computes for an object, if it does. -/
def State.computed (s : State) (session idx sub : Nat) : Option Octets :=
  if idx < 0x1C00 then s.readManagement idx sub
  else if idx < 0x2000 then s.readPairing idx
  else if idx < 0x2400 then s.readWay idx sub
  else if idx < 0x2800 then (if idx = 0x2408 then some (toLE 4 (s.engineStatus (sub - 1))) else none)
  else if idx < 0x2C00 then s.readPlan idx sub
  else if idx < 0x2E00 then s.readPercep idx sub
  else if idx < 0x2F00 then s.readFabric idx
  else if idx < 0x3000 then s.readTrace idx sub
  else if idx < 0x3800 then let b := blockOf idx 0x3000 0x200; s.readRing b.1 b.2 sub
  else if idx < 0x3C00 then let b := blockOf idx 0x3800 0x100; s.readCan b.1 b.2 sub
  else if idx < 0x3E00 then let b := blockOf idx 0x3C00 0x100; s.readPort b.1 b.2 sub
  else if idx < 0x3F00 then s.readTime idx sub
  else if idx < 0x6000 then s.readPlan idx sub
  else if idx < 0x7000 then let b := blockOf idx 0x6000 0x20; s.readJoint b.1 b.2 sub
  else if idx < 0xA000 then s.readAux idx sub
  else s.readSafety session idx sub

/-- Value of an object as a session reads it (R113). -/
def State.value (s : State) (session idx sub : Nat) : Octets :=
  match Fn.ofBase idx with
  | some f => s.readControl f sub
  | none => (s.computed session idx sub).getD (s.obj idx sub)

/-- The times that a read of 0x3E01 returns (R276): those its session latched with the other subindex in the request just before,
else those of the present tick. -/
def State.latched (s : State) (x : Session) (sub : Nat) : Nat × Nat × Nat :=
  match x.latch with
  | some l => if l.1 = sub then (s.time.sec, s.time.ns, s.time.ringNs) else l.2
  | none => (s.time.sec, s.time.ns, s.time.ringNs)

/-- The value of 0x3E01 from latched times. -/
def latchValue (sub : Nat) (l : Nat × Nat × Nat) : Octets :=
  if sub = 1 then time96 l.1 l.2.1 else time96 (l.2.2 / 1000000000) (l.2.2 % 1000000000)

/-! ### Steps 6 to 8 -/

/-- Step 6: the object exists (R94). -/
def objectRefused (idx sub : Nat) : Option Nat :=
  match lookup idx sub with
  | .noIndex => some abNoIndex
  | .noSub => some abNoSub
  | .found _ => none

/-- The lowest role that may write (Table 03-3). -/
def writeRole (idx : Nat) (c : Card) : Nat :=
  if c.acc = .safe then 3
  else if c.acc = .rws ∨ c.ty.isDomain = true ∨
      idx = 0x1010 ∨ idx = 0x1011 ∨ idx = 0x1021 ∨ idx = 0x1022 ∨ idx = 0x1043 then 2
  else 1

/-- The session's role permits the write (R97, R748, R758, R765). -/
def State.mayWrite (s : State) (x : Session) (idx : Nat) (c : Card) : Bool :=
  decide (writeRole idx c ≤ x.role) || idx == 0x1820 ||
    (x.emptyKey && s.sec.tampered && (idx == 0x1801 || idx == 0x1803))

/-- Steps 7 and 8 of a read (R115). -/
def State.readAccess (s : State) (idx : Nat) (c : Card) : Option Nat :=
  if !s.available idx false then some abLifeCycle else if c.acc = .wo then some abWriteOnly else none

/-- Steps 7 and 8 of a write (R115). -/
def State.writeAccess (s : State) (x : Session) (idx : Nat) (c : Card) : Option Nat :=
  if !s.available idx true then some abLifeCycle
  else if c.acc = .ro ∨ c.acc = .const then some abReadOnly
  else if c.acc = .safe ∧ x.role ≠ 3 then some abSafe
  else if !s.mayWrite x idx c then some abRole
  else none

/-! ### Steps 10 and 11 -/

/-- A write to the period of the board reference ring needs the functions that run by it STOPPED (R384). -/
def State.periodRefused (s : State) (idx : Nat) : Bool :=
  idx == 0x3001 + 0x200 * s.boardRing &&
  !(s.isStopped .loopEngines && s.isStopped .front && s.isStopped .trace &&
    (List.range 8).all (fun g => s.isStopped (.pwm g)) && (List.range 4).all fun n => s.isStopped (.can n))

/-- Refusals of the device, security and Waystation ranges in the state they are in (R82 to R84, R143, R745, R748, R754, R758).
Table 03-11 gives 0x05000002 no step; it is judged here, with the states (assumption log 68). -/
def State.deviceRefused (s : State) (idx v : Nat) : Option Nat :=
  if idx = 0x1010 then (if s.dict.storing.isSome then some abStoring else none)
  else if idx = 0x1022 then (if s.powerModeRefused v then some abState else none)
  else if idx = 0x1040 then (if s.imageInitRefused then some abState else none)
  else if idx = 0x1043 then (if inRange 1 3 v && !s.fwCommandAllowed v then some abState else none)
  else if idx = 0x1810 then s.keyWriteState
  else if idx = 0x1820 then s.checkChallenge
  else none

/-- Refusals of the safety range (R518, R545, R582, R587). -/
def State.safetyRefused (s : State) (x : Session) (idx v : Nat) (c : Card) : Option Nat :=
  if c.acc = .safe ∧ s.isStopped .safety = false ∧ s.fnSt .safety ≠ .fault then some abState
  else if idx = 0xA003 then s.confirmRefused x.id v
  else if idx = 0xA151 then (if s.ackRefused v then some abState else none)
  else if idx = 0xA152 then (if brakeReqOk v then s.brakeRefused v else some abRange)
  else none

/-- Refusals of an object's own chapter, in the state of its owner and then by its value. -/
def State.ownRefused (s : State) (x : Session) (idx sub v : Nat) (c : Card) : Option Nat :=
  if idx < 0x1C00 then s.deviceRefused idx v
  else if idx < 0x2000 then s.checkPairing idx
  else if idx < 0x2800 then none
  else if idx < 0x2C00 then (if idx = 0x2841 ∧ s.engageRefused (sub - 1) = true then some abState else none)
  else if idx < 0x3000 then none
  else if idx < 0x3800 then let b := blockOf idx 0x3000 0x200; s.checkRingState b.1 b.2
  else if idx < 0x3C00 then let b := blockOf idx 0x3800 0x100; s.canRefused b.1 b.2 sub v
  else if idx < 0x3E00 then none
  else if idx < 0x3F00 then s.checkTime idx
  else if idx < 0x6000 then none
  else if idx < 0x7000 then let b := blockOf idx 0x6000 0x20; s.checkJoint b.1 b.2
  else if idx < 0xA000 then s.auxRefused idx v
  else s.safetyRefused x idx v c

/-- Step 10 for a write: R46, the function commands, and what the owner's chapter states. -/
def State.stateRefused (s : State) (x : Session) (idx sub v : Nat) (c : Card) : Option Nat :=
  match Fn.ofBase idx with
  | some f => s.commandRefused f v
  | none =>
    if (c.acc == .rws && match c.owner with | some f => !s.isStopped f | none => false) || s.periodRefused idx then some abState
    else s.ownRefused x idx sub v c

/-- Step 11: Range row, reserved bits, and ranges that depend on other objects (R7, R10, R14). -/
def State.rangeRefused (s : State) (idx sub v : Nat) (c : Card) : Option Nat :=
  if !c.ok v then some abRange
  else if 0x3000 ≤ idx ∧ idx < 0x3800 then let b := blockOf idx 0x3000 0x200; s.checkRingRange b.1 b.2 v
  else if 0x3800 ≤ idx ∧ idx < 0x3C00 then
    let b := blockOf idx 0x3800 0x100
    if s.canRangeOk b.1 b.2 sub v then none else some abRange
  else none

/-- Steps 6 to 11 of a WRITE. -/
def State.writeRefused (s : State) (x : Session) (idx sub : Nat) (v : Octets) : Option Nat :=
  match lookup idx sub with
  | .noIndex => some abNoIndex
  | .noSub => some abNoSub
  | .found c =>
    match s.writeAccess x idx c with
    | some e => some e
    | none =>
      if c.ty.isDomain = true ∨ v.length ≠ c.ty.size then some abLength
      else
        match s.stateRefused x idx sub (leNat v) c with
        | some e => some e
        | none => s.rangeRefused idx sub (leNat v) c

/-- Steps 6 to 9 of a READ. -/
def State.readRefused (s : State) (idx sub : Nat) : Option Nat :=
  match lookup idx sub with
  | .noIndex => some abNoIndex
  | .noSub => some abNoSub
  | .found c =>
    match s.readAccess idx c with
    | some e => some e
    | none => if c.ty.isDomain then some abLength else none

/-! ### Effects of a WRITE -/

/-- Every RWS value at this instant (R140). -/
def State.rwsValues (s : State) : List ((Nat × Nat) × Octets) :=
  s.dict.store.filter fun e => match cardAt e.1.1 e.1.2 with | some c => c.acc == .rws | none => false

/-- An accepted store command: the snapshot is taken and its write starts in the copy that the marker does not name (R140). -/
def State.storeStart (s : State) : State :=
  let half := fun (d : Dict) =>
    if !s.power.mramOk then d
    else if d.markerA then { d with copyB := { d.copyB with valid := false } }
    else { d with copyA := { d.copyA with valid := false } }
  s.onDict fun d => { half d with storing := some s.rwsValues, storeStatus := 1 }

/-- An accepted restore-defaults command (R145). One during a store leaves the store running, whose end makes its copy valid
(assumption log 68). -/
def State.restoreDefaults (s : State) : State :=
  let code := if s.power.mramOk then 5 else 3
  (s.onDict fun d => { (if s.power.mramOk then d.imageWiped else d) with storeStatus := code }).record 0x0030 0 (toLE 1 code)

/-- Effects of writes in the device and Ledger ranges. -/
def State.applyDevice (s : State) (idx v : Nat) : State :=
  if idx = 0x1010 then s.storeStart
  else if idx = 0x1011 then s.restoreDefaults
  else if idx = 0x1022 then (if v = 3 then s else s.setPowerMode v)
  else if idx = 0x1043 then s.fwCommand v
  else if idx = 0x1A02 then s.onLedger fun l => { l with cursor := v }
  else s

/-- A write to debug enable: 0x00 resumes every halted engine (R375). -/
def State.applyDebug (s : State) (v : Nat) : State := if v = 0 then s.resumeHalts else s

/-- Effects of writes in the safety range. -/
def State.applySafety (s : State) (idx v : Nat) : State :=
  if idx = 0xA003 then s.confirm v
  else if idx = 0xA004 then s.discardPending
  else if idx = 0xA151 then s.acknowledge v
  else if idx = 0xA152 then s.brakeStart v
  else s

/-- What an accepted write does beside storing its value. -/
def State.applyOwn (s : State) (idx sub : Nat) (v : Octets) : State :=
  let w := leNat v
  if idx < 0x1C00 then s.applyDevice idx w
  else if idx < 0x2000 then s.applyPairing idx
  else if idx < 0x2400 then s.applyWay idx w
  else if idx < 0x2800 then (if idx = 0x2407 then s.applyDebug w else s)
  else if idx < 0x2E00 then s
  else if idx < 0x2F00 then (if idx = 0x2E05 then s.fabricClear w else s)
  else if idx < 0x3000 then (if idx = 0x2F05 then s.traceNow else s)
  else if idx < 0x3800 then let b := blockOf idx 0x3000 0x200; s.applyRing b.1 b.2 w
  else if idx < 0x3C00 then let b := blockOf idx 0x3800 0x100; s.applyCan b.1 b.2 w
  else if idx < 0x3E00 then s
  else if idx < 0x3F00 then s.applyTime idx w
  else if idx < 0x6000 then s
  else if idx < 0x7000 then let b := blockOf idx 0x6000 0x20; s.applyJoint b.1 b.2 sub v
  else if idx < 0xA000 then s.applyAux idx sub w
  else s.applySafety idx w

/-- RW and RWS objects hold what was written, apart from those whose value State keeps elsewhere. -/
def stores (idx : Nat) (c : Card) : Bool := (c.acc == .rw || c.acc == .rws) && idx != 0x1022 && idx != 0x1A02

/-- Payload of the record of an accepted write (kind 0x0020). -/
def writePayload (idx sub : Nat) (v : Octets) : Octets :=
  toLE 2 idx ++ toLE 1 sub ++ [0#8] ++ toLE 4 v.length ++ padTo 16 v

/-- Payload of the record of a function command (kind 0x0021). -/
def commandPayload (idx v : Nat) : Octets := toLE 2 idx ++ toLE 1 v ++ toLE 1 (commandState v).code

/-- Planning cycle in which an accepted write takes effect: a group's engagement with the next one, any other at once (R138, Table
10-7). -/
def State.effectCycle (s : State) (idx : Nat) : Nat := if idx = 0x2841 then s.plan.cycle + 1 else s.plan.cycle

/-- An accepted write: its record, its value, its effect. A STOP of a host port waits for the response (R106). -/
def State.applyWrite (s : State) (session idx sub : Nat) (v : Octets) : State :=
  match Fn.ofBase idx with
  | some f =>
    let s1 := s.record 0x0021 session (commandPayload idx (leNat v))
    match f with
    | .hostPort _ => if leNat v = 2 then s1 else s1.command f (leNat v)
    | _ => s1.command f (leNat v)
  | none =>
    let s1 := (s.recordAt (s.effectCycle idx) 0x0020 session (writePayload idx sub v)).applyOwn idx sub v
    match cardAt idx sub with
    | some c => if stores idx c then s1.putObj idx sub v else s1
    | none => s1

/-- A requested reset (R67) or MAIN_OFF (R82) begins. -/
def State.beginReset (s : State) (idx v : Nat) : State :=
  if idx = 0x1022 then s.setPowerMode 3 else if v = 1 then s.startMainReset 7 else s.startDeviceReset 8

/-- A reset whose response has left its controller, or was discarded there (R667, R670), begins (R76; assumption log 73). -/
def State.resetDue (s : State) : State :=
  match s.power.resetAsked with
  | some x =>
    if x.2.2.2 = 0 ∨ (s.can x.2.2.1).responses = [] then (s.onPower fun p => { p with resetAsked := none }).beginReset x.1 x.2.1 else s
  | none => s

/-- What follows a response that has left port `port`: a reset (R76), MAIN_OFF (R82), the STOP of a host port with its sessions
(R106). A response on CAN leaves when its frame has been sent. -/
def State.afterWrite (s : State) (port idx v : Nat) : State :=
  match Fn.ofBase idx with
  | some (.hostPort n) =>
    if v = 2 then (s.stopFn (.hostPort n)).closeSessions (fun x => x.src.port == n) 4 else s
  | some (.can _) => s.resetDue
  | _ =>
    if idx = 0x1021 ∨ (idx = 0x1022 ∧ v = 3) then
      let wait := (s.can (port - 2)).responses.length
      if port < 2 ∨ wait = 0 then s.beginReset idx v
      else s.onPower fun p => { p with resetAsked := some (idx, v, port - 2, wait) }
    else s

/-- A WRITE past step 5. -/
def State.serveWrite (s : State) (r : Req) (x : Session) (idx sub : Nat) (v : Octets) : State :=
  match s.writeRefused x idx sub v with
  | some e => s.refuse r x e
  | none => ((s.applyWrite x.id idx sub v).respond r x 0xA1 0 []).afterWrite r.h.src.port idx (leNat v)

/-! ### READ -/

/-- A READ past step 5: a read of 0x3E01 latches both times (R276). -/
def State.serveRead (s : State) (r : Req) (x : Session) (idx sub : Nat) : State :=
  match s.readRefused idx sub with
  | some e => s.refuse r x e
  | none =>
    if idx = 0x3E01 then
      let l := s.latched x sub
      let keep := match x.latch with | some k => k.1 == sub | none => true
      (s.onSession x.id fun y => { y with latch := if keep then some (sub, l) else none }).respond r x 0xA0 0 (latchValue sub l)
    else s.respond r x 0xA0 0 (s.value x.id idx sub)

end Sys2Proof.Machine
end

