-- ==== Sys2Proof/Machine/Segments.lean ====
section
/-! DEFINITION. Segmented transfers of DOMAIN objects and the motion command mailbox
(spec/03_object_dictionary.md R127 to R134, R146 to R152, R816). -/

namespace Sys2Proof.Machine

/-! ### Opening a transfer -/

/-- Step 9 for the opening of a transfer: a DOMAIN object, no transfer open (R110, R131). -/
def transferRefused (x : Session) (c : Card) : Option Nat :=
  if !c.ty.isDomain then some abLength else if x.xfer.isSome then some abTransferOpen else none

/-- Steps 6 to 9 of a SEG_READ_INIT. -/
def State.readInitRefused (s : State) (x : Session) (idx sub : Nat) : Option Nat :=
  match lookup idx sub with
  | .noIndex => some abNoIndex
  | .noSub => some abNoSub
  | .found c =>
    match s.readAccess idx c with
    | some e => some e
    | none => transferRefused x c

/-- Steps 6 to 10 of a SEG_WRITE_INIT (R128, R131). -/
def State.writeInitRefused (s : State) (x : Session) (idx sub total : Nat) : Option Nat :=
  match lookup idx sub with
  | .noIndex => some abNoIndex
  | .noSub => some abNoSub
  | .found c =>
    match s.writeAccess x idx c with
    | some e => some e
    | none =>
      match transferRefused x c with
      | some e => some e
      | none =>
        if c.ty.size < total then some abTotal else s.stateRefused x idx sub 0 c

/-- The transfer of a session replaced. -/
def State.setTransfer (s : State) (id : Nat) (t : Option Transfer) : State := s.onSession id fun y => { y with xfer := t }

/-- A transfer closed with its object unchanged; an image is no longer being received (Table 18-12). -/
def State.closeTransfer (s : State) (x : Session) : State :=
  let s1 := s.setTransfer x.id none
  match x.xfer with
  | some t => if t.write && t.idx == 0x1040 then s1.onFw fun f => { f with update := 0 } else s1
  | none => s1

/-- A SEG_READ_INIT past step 5: the content is taken as it stands (R134). -/
def State.serveReadInit (s : State) (r : Req) (x : Session) (idx sub : Nat) : State :=
  match s.readInitRefused x idx sub with
  | some e => s.refuse r x e
  | none =>
    let o := s.value x.id idx sub
    let t : Transfer := { write := false, idx := idx, sub := sub, total := o.length, done := 0, content := o, initSeq := r.h.seq,
                          left := false, checking := false, finalSeq := 0 }
    (s.setTransfer x.id (some t)).respond r x 0xB0 0 (toLE 4 o.length)

/-- A SEG_WRITE_INIT past step 5. -/
def State.serveWriteInit (s : State) (r : Req) (x : Session) (idx sub total : Nat) : State :=
  match s.writeInitRefused x idx sub total with
  | some e => s.refuse r x e
  | none =>
    let t : Transfer := { write := true, idx := idx, sub := sub, total := total, done := 0, content := [], initSeq := r.h.seq,
                          left := false, checking := false, finalSeq := 0 }
    let s1 := if idx = 0x1040 then s.imageInit else s
    (s1.setTransfer x.id (some t)).respond r x 0xB2 0 []

/-! ### Segments -/

/-- Octets of content that a segment of a read carries to an endpoint: the most that R109 allows. How many the device sends is left
open (R134; assumption log 68). -/
def segmentOctets (e : Endpoint) : Nat := if e.port < 2 then 1024 else 28

/-- Delivery of the last segment of a read: a mailbox unlocks (R653), the Ledger cursor moves (R742). -/
def State.delivered (s : State) (idx sub : Nat) : State :=
  if idx = 0x1A03 then s.ledgerDelivered
  else if 0x3800 ≤ idx ∧ idx < 0x3C00 ∧ (idx - 0x3800) % 0x100 = 0x20 then s.canRelease ((idx - 0x3800) / 0x100) (sub - 1)
  else s

/-- The open transfer in a direction, with no content check running (R132). -/
def openTransfer (x : Session) (write : Bool) : Option Transfer :=
  match x.xfer with
  | some t => if t.write == write && !t.checking then some t else none
  | none => none

/-- A SEG_READ past step 5 (R129, R134). -/
def State.serveSegRead (s : State) (r : Req) (x : Session) (offset : Nat) : State :=
  match openTransfer x false with
  | none => s.refuse r x abNoTransfer
  | some t =>
    if offset ≠ t.done then s.refuse r x abOffset
    else
      let o := slice t.content t.done (segmentOctets x.src)
      let last := decide (t.total ≤ t.done + o.length)
      let s1 := s.setTransfer x.id (if last then none else some { t with done := t.done + o.length })
      let s2 := s1.respond r x 0xB1 (b2n last) (toLE 4 offset ++ o)
      if last then s2.delivered t.idx t.sub else s2

/-- A SEG_WRITE past step 5: offset (R129), length (R130), the owner's state (R133), after which the transfer is closed
(assumption log 22). The last segment starts the content check, and its response waits (R112, R127). -/
def State.serveSegWrite (s : State) (r : Req) (x : Session) (offset : Nat) (v : Octets) : State :=
  match openTransfer x true with
  | none => s.refuse r x abNoTransfer
  | some t =>
    let last := bitAt r.h.flags 0
    let done := t.done + v.length
    if offset ≠ t.done then s.refuse r x abOffset
    else if t.total < done ∨ (last = true ∧ done ≠ t.total) then s.refuse r x abLength
    else if last = true ∧ t.left = true then (s.closeTransfer x).refuse r x abState
    else
      let t1 : Transfer := { t with done := done, content := t.content ++ v, checking := last, finalSeq := r.h.seq }
      let s1 := s.setTransfer x.id (some t1)
      if last then s1 else s1.respond r x 0xB3 0 []

/-- A SEG_ABORT past step 5. -/
def State.serveAbort (s : State) (r : Req) (x : Session) : State :=
  match x.xfer with
  | none => s.refuse r x abNoTransfer
  | some t => if t.checking then s.refuse r x abNoTransfer else (s.closeTransfer x).respond r x 0xB4 0 []

/-! ### Content checks -/

/-- Content check of an arm's member list (R386). -/
def State.membersOk (s : State) (a : Nat) (o : Octets) : Bool :=
  let l := o.map (·.toNat)
  let j := l.filter (· != 0xFF)
  (l.all fun v => v ≤ 95 || v == 0xFF) && decide j.Nodup && l.take j.length == j &&
    (List.range 12).all fun b => b == a || (s.members b).all fun q => !j.contains q

/-- The owning function's check of a DOMAIN's content, apart from its length. -/
def State.contentOk (s : State) (idx sub : Nat) (o : Octets) : Bool :=
  if idx = 0x1803 then s.authorisationOk o
  else if idx = 0x2010 then wayTableOk o
  else if idx = 0x2401 then programOk o
  else if idx = 0x2404 then lensOk o
  else if idx < 0x2800 then true
  else if idx < 0x2C00 then checkPlan 0 idx sub o
  else if idx < 0x2E00 then checkPercep idx o
  else if idx = 0x2E03 then windowTableOk o
  else if idx < 0x2F00 then !s.windowRefused (idx - 0x2E20) o.length
  else if idx < 0x3000 then traceChannelsOk o
  else if idx < 0x3800 then panniersOk o
  else if idx < 0x3C00 then checkCan (blockOf idx 0x3800 0x100).2 o
  else if idx < 0x3E00 then let b := blockOf idx 0x3C00 0x100; s.checkPort b.1 b.2 o
  else if idx < 0x6000 then
    let b := blockOf idx 0x5000 0x40
    if b.2 = 1 then s.membersOk b.1 o else checkPlan (s.members b.1).length idx sub o
  else if idx < 0x7000 then coefsOk o
  else if idx < 0xA000 then rampOk o
  else checkSafe idx o

/-- A total length that the card allows (R816). -/
def Card.lengthOk (c : Card) (n : Nat) : Bool :=
  match c.ty with
  | .domain size derived => if derived then n ≤ size else n == size
  | t => n == t.size

/-- Why a completed DOMAIN write is refused (Table 03-11 step 12, and the services with codes of their own). -/
def State.contentRefused (s : State) (x : Session) (idx sub : Nat) (c : Card) (o : Octets) : Option Nat :=
  if !c.lengthOk o.length then some abContent
  else if idx = 0x1040 then s.checkImage o
  else if idx = 0x1801 then s.checkTransition x o
  else if idx = 0x1810 then s.checkKeyWrite x (sub - 1) o
  else if idx = 0x1820 then s.checkChallenge
  else if s.contentOk idx sub o then none else some abContent

/-- Payload of the record of a DOMAIN write (kind 0x0022). -/
def domainPayload (t : Transfer) : Octets :=
  toLE 2 t.idx ++ toLE 1 t.sub ++ [0#8] ++ toLE 4 t.total ++ Keccak.shake256 t.content 16

/-- A return authorisation accepted: its target (R768, R769). -/
def State.authorise (s : State) (o : Octets) : State := s.onSec fun x => { x with authorised := some (u8At o 2) }

/-- Effect of an accepted DOMAIN write. -/
def State.applyDomain (s : State) (x : Session) (t : Transfer) (c : Card) : State :=
  let o := t.content
  if t.idx = 0x1040 then s.imageAccepted o
  else if t.idx = 0x1801 then s.applyTransition x t.initSeq o
  else if t.idx = 0x1803 then s.authorise o
  else if t.idx = 0x1810 then s.applyKeyWrite x (t.sub - 1) t.initSeq o
  else if t.idx = 0x1820 then s.applyChallenge o
  else if c.acc = .safe then s.safeWrite x.id t.idx o
  else
    let s1 := s.putObj t.idx t.sub o
    if 0x2E20 ≤ t.idx ∧ t.idx ≤ 0x2E2F then (s1.windowWrite (t.idx - 0x2E20) 0 o).windowOverlap (t.idx - 0x2E20)
    else if 0x6000 ≤ t.idx ∧ t.idx < 0x7000 then
      let b := blockOf t.idx 0x6000 0x20
      s1.applyJoint b.1 b.2 t.sub o
    else s1

/-- The response to the final segment, kept for a repeat of that segment. -/
def State.respondFinal (s : State) (x : Session) (t : Transfer) (op : Nat) (data : Octets) : State :=
  let o := message 1 op x.id t.finalSeq 0 0 0 data.length 0 data
  (s.onSession x.id fun y => if y.lastSeq = t.finalSeq then { y with lastRsp := o } else y).sendTagged x o

/-- The content check of a session's completed write ends: the write takes effect or is refused, and the response leaves
(R112, R127, R133). -/
def State.contentDone (s : State) (x : Session) (t : Transfer) (c : Card) : State :=
  if t.left then (s.closeTransfer x).respondFinal x t 0xFF (toLE 4 abState)
  else
    match s.contentRefused x t.idx t.sub c t.content with
    | some e => (s.closeTransfer x).respondFinal x t 0xFF (toLE 4 e)
    | none =>
      (((s.setTransfer x.id none).record 0x0022 x.id (domainPayload t)).applyDomain x t c).respondFinal x t 0xB3 []

/-- The transfer whose content check is running in a session, with its object's card. -/
def State.checkingIn (s : State) (id : Nat) : Option (Session × Transfer × Card) :=
  match s.session id with
  | none => none
  | some x =>
    match x.xfer with
    | none => none
    | some t => if t.checking then (cardAt t.idx t.sub).map fun c => (x, t, c) else none

/-- A content check of a write to one of the objects named by `p` ends; with none running nothing happens. -/
def State.contentEnds (s : State) (id : Nat) (p : Nat → Card → Bool) : State :=
  match s.checkingIn id with
  | some y => if p y.2.1.idx y.2.2 then s.contentDone y.1 y.2.1 y.2.2 else s
  | none => s

/-! ### Mailbox -/

/-- Octets of a command record (Table 03-23). -/
def commandRecord (kind : Nat) (m : Motion) : Octets :=
  toLE 1 kind ++ toLE 1 m.rsvd1 ++ toLE 2 m.mask ++ toLE 4 m.ident ++ toLE 2 m.target ++ toLE 2 m.speed ++ toLE 2 m.accel ++
  toLE 2 m.blend ++ toLE 8 m.start ++ toLE 4 m.after ++ toLE 4 m.rsvd28

/-- Target of a command lies below the size of the table that a kind takes it from; a mask that no group has names no table, and
the planner rejects such a command (R432). -/
def State.targetBelow (s : State) (kind : Nat) (m : Motion) : Bool :=
  let t := s.targetTable { MboxSlot.initial with record := commandRecord kind m }
  (3 ≤ kind && !((List.range 6).any fun g => s.groupMask g == m.mask)) || decide (t.2 * m.target + t.2 ≤ t.1.length)

/-- Range of Target (Table 03-23): ignored by HOLD and RESUME; in a CANCEL for one arm, within one of the arm's two tables
(assumption log 68). -/
def State.targetOk (s : State) (kind : Nat) (m : Motion) : Bool :=
  if kind = 4 ∨ kind = 5 then true
  else if kind = 6 ∧ popCount 12 m.mask = 1 then s.targetBelow 1 m || s.targetBelow 2 m
  else s.targetBelow kind m

/-- Ranges of a command record (Table 03-23, R146); its reserved fields are ignored (R6). -/
def State.commandOk (s : State) (kind : Nat) (m : Motion) : Bool :=
  let arms := popCount 12 m.mask
  inRange 1 6 kind && field m.mask 15 12 == 0 && m.ident != 0 &&
  (kind > 2 || arms == 1) && (kind != 3 || decide (2 ≤ arms)) &&
  (kind == 4 || kind == 5 || (inRange 1 1000 m.speed && inRange 1 1000 m.accel)) && s.targetOk kind m &&
  (m.start == 0 || decide (s.plan.cycle < m.start))

/-- The identity that must be held by a slot: After of a move, the command that CANCEL names (R148). -/
def namedIdentity (kind : Nat) (m : Motion) : Option Nat :=
  if kind = 6 then some m.after else if kind ≤ 3 ∧ m.after ≠ 0 then some m.after else none

/-- Steps 6 to 11 of a MBOX_POST, then R148 and R149. Which of these two is answered when both hold is the model's choice
(assumption log 68). -/
def State.postRefused (s : State) (x : Session) (kind : Nat) (m : Motion) : Option Nat :=
  if !s.available 0x2881 true then some abLifeCycle
  else if x.role < 1 then some abRole
  else if !(s.isRunning .planner && (bitsOf 12 m.mask).all fun a => s.isRunning (.arm a)) then some abState
  else if !s.commandOk kind m then some abRange
  else if (match namedIdentity kind m with | some i => (s.slotOf i).isNone | none => false) then some abIdentity
  else if s.dict.mbox.all MboxSlot.open then some abMailboxFull
  else none

/-- The slot that ended the longest time ago among those neither queued nor active. -/
def State.oldestEnded (s : State) : Nat :=
  ((List.range 64).foldl (fun b i =>
    if (s.mslot i).open then b
    else match b with
      | some j => if (s.mslot i).ended < (s.mslot j).ended then some i else b
      | none => some i) none).getD 0

/-- The slot that a post takes: of several free ones the lowest-numbered (R150; assumption log 68). -/
def State.postSlot (s : State) : Nat :=
  match (List.range 64).find? fun i => (s.mslot i).st == 0 with
  | some i => i
  | none => s.oldestEnded

/-- Planning cycle at which a post takes effect: the next boundary, or its start cycle if that is later (R151). -/
def State.postEffect (s : State) (start : Nat) : Nat := max (s.boardCycle / s.planRatio + 1) start

/-- State in which the command named by After has ended, 0 where it has not or none is named. -/
def State.afterEnded (s : State) (after : Nat) : Nat :=
  match s.slotOf after with
  | some j => if (s.mslot j).open then 0 else (s.mslot j).st
  | none => 0

/-- A post accepted: its slot, its record with the planning cycle of effect, its response (R31, R138, R150, R151). -/
def State.servePost (s : State) (r : Req) (x : Session) (kind : Nat) (m : Motion) : State :=
  match s.postRefused x kind m with
  | some e => s.refuse r x e
  | none =>
    let i := s.postSlot
    let k := s.postEffect m.start
    let rec_ := toLE 4 m.ident ++ toLE 1 kind ++ toLE 1 i ++ toLE 2 m.mask
    let s1 := s.onDict fun d =>
      { d with mbox := upd d.mbox i fun _ => ⟨1, commandRecord kind m, d.mboxOrder, 0, k, s.afterEnded m.after, false⟩,
                mboxOrder := d.mboxOrder + 1 }
    (s1.recordAt k 0x0023 x.id rec_).respond r x 0xC0 0 (toLE 8 k ++ toLE 1 i)

end Sys2Proof.Machine
end

