-- ==== Sys2Proof/Machine/Boot.lean ====
section
/-! DEFINITION. Boot: slot selection, parameter load, the functions started by the firmware
(spec/18_management_security.md R749 to R752; spec/03_object_dictionary.md R141, R142; spec/20_startup_test.md R800 to R802). -/

namespace Sys2Proof.Machine

/-- The RWS image that boot takes: the marked copy if valid, else the other (R141). -/
def Dict.bootImage (d : Dict) : Option (List ((Nat × Nat) × Octets)) :=
  let a := if d.markerA then d.copyA else d.copyB
  let b := if d.markerA then d.copyB else d.copyA
  if a.valid then some a.image else if b.valid then some b.image else none

/-- A stored value passes the checks that a write of it would pass, in a state whose store is the image (R142). -/
def State.storedOk (s : State) (e : (Nat × Nat) × Octets) : Bool :=
  match cardAt e.1.1 e.1.2 with
  | none => false
  | some c =>
    c.acc == .rws &&
    (if c.ty.isDomain then c.lengthOk e.2.length && s.contentOk e.1.1 e.1.2 e.2
     else e.2.length == c.ty.size && (s.rangeRefused e.1.1 e.1.2 (leNat e.2) c).isNone)

/-- The RWS values in force after boot: each that fails is replaced by its default, with a record (R142). -/
def State.parameterLoad (s : State) : State :=
  let image := s.dict.bootImage.getD []
  let s1 := s.onDict fun d => { d with store := image }
  let bad := image.filter fun e => !s1.storedOk e
  let s2 := s1.onDict fun d =>
    { d with store := image.filter fun e => s1.storedOk e
             storeStatus := if s.dict.bootImage.isNone then 4 else d.storeStatus
             parametersLoaded := true }
  bad.foldl (fun s e => s.record 0x0031 0 (toLE 2 e.1.1 ++ toLE 1 e.1.2)) s2

/-- What takes effect with the stored values: the Waystation table (R814), the board reference ring, the trip
polarities, the planning ratio, the windows' content. -/
def State.storedInForce (s : State) : State :=
  let pol := maskOf ((List.range 8).filter fun t => bitAt (s.cfg (0x7880 + t) 0) 16)
  let s1 := (s.onWay fun w => { w with table := s.obj 0x2010 0 }).onLe fun l => { l with boardRing := s.cfg 0x2406 0 }
  let s2 := (s1.onAux fun u => { u with tripPol := pol }).onPlan fun p => { p with ratio := s.cfg 0x2801 1 }
  s2.windowsLoad

/-- The functions that the firmware starts, in order (R800). -/
def State.autoList (s : State) : List Fn :=
  [.timeBase, .hostPort 0, .hostPort 1] ++ ((List.range 4).filter fun n => s.cfg (canIdx n 0x10) 1 == 1).map .can

/-- Record of a boot (kind 0x0001). -/
def State.bootPayload (s : State) (slot : Nat) : Octets :=
  toLE 4 s.power.cause ++ toLE 4 s.fw.version ++ toLE 1 slot ++ toLE 1 s.sec.lifeCycle ++ toLE 1 (b2n s.power.thermal)

/-- The keys that boot unwraps from MRAM: none that needs a device secret whose use is disabled, so only empty keys (R762, R771). -/
def Security.unwrapped (x : Security) : List (Option KeySlot) :=
  x.stored.map fun k => k.filter fun k => !x.secretDestroyed || k.key.isEmpty

/-- Boot of a verified slot: keys unwrapped into the vault, values and safety set taken, the boot record and its events (R141,
R589, R734, R749, R762, R770, R800). -/
def State.bootSlot (s : State) (slot : Nat) : State :=
  let thermal := s.power.thermal
  let changed := s.sec.changed
  let s1 := s.onFw fun f => { f with running := some slot, hold := false, version := (f.slot slot).version }
  let s2 := s1.onSec fun x => { x with keys := if x.vaultReadable then x.unwrapped else x.keys, changed := false }
  let s3 := s2.parameterLoad.storedInForce.safetyLoad
  let s4 := s3.record 0x0001 0 (s3.bootPayload slot)
  let s5 := s4.onPower fun p => { p with thermal := false }
  let s6 := if thermal then s5.raise 401 else s5
  let s7 := if changed then s6.raise 396 else s6
  s7.onFw fun f => { f with autoStart := s7.autoList, autoLast := none }

/-- The boot ROM finds no slot and holds (R751). -/
def State.bootHold (s : State) : State := s.onFw fun f => { f with running := none, hold := true, erased := [] }

/-- BOOT_ROM_VERIFY (R749 to R751), after the management processor has left reset; with TEST_MODE high no flash image is loaded
(R92). -/
def execBootRomVerify (s : State) : Host.Outcome State Fault Refusal :=
  if s.serves && s.fw.running.isNone && !s.fw.hold then
    let a := s.adoptProgrammed.selectSlot
    match a.2 with
    | some i => .next (a.1.bootSlot i)
    | none => .next a.1.bootHold
  else .next s

/-- The firmware starts a function that is STOPPED (R800). -/
def State.autoIssue (s : State) (f : Fn) : State := if (s.startRefused f).isNone then s.startFn f else s

/-- AUTO_START (R800 to R802): the next START, once the function started before it has left STARTING. -/
def execAutoStart (s : State) : Host.Outcome State Fault Refusal :=
  match s.fw.autoStart with
  | [] => .next s
  | f :: r =>
    let waits : Bool := match s.fw.autoLast with | some g => s.fnSt g == .starting && !s.staysStarting g | none => false
    if waits then .next s
    else .next ((s.onFw fun x => { x with autoStart := r, autoLast := some f }).autoIssue f)

end Sys2Proof.Machine
end

