-- ==== Sys2Proof/Machine/Cycle.lean ====
section
/-! DEFINITION. The start of a cycle of the board reference ring (spec/08_loop_engine.md R383). -/

namespace Sys2Proof.Machine

/-- The groups that START has passed may begin their periods, PHASE control cycles after this start of cycle `c` (R613). -/
def State.armGroups (s : State) (c : Nat) : State :=
  let at_ := ((cycleStart (s.period s.boardRing) c : Int) - s.thetaNs).toNat
  (List.range 8).foldl (fun s g =>
    if s.fnSt (.pwm g) = .starting ∧ (s.group g).armed = false then
      s.onGroup g fun x => { x with armed := true, next := (2 * at_ + 4) / 5 + field (s.groupCfg g) 47 32 }
    else s) s

/-- What a cycle start of the board reference ring does: EV100 for items of cycle c − 2, the trace record, the reference slots,
the pose set of a window that ended, the PWM groups' first periods and the cyclic CAN buffers (R356, R415, R461, R481, R613,
R659). -/
def State.boardCycleStart (s : State) (c : Nat) : State :=
  let s1 := (((s.boardLag c).traceCycle c).referenceWrite).capturePoses
  ((s1.armGroups c).canCycle c).onPlan fun p => { p with boardDone := some c }

/-- BOARD_CYCLE_START (R383): the current cycle when its start has not taken place yet, else the next one at its time. -/
def execBoardCycleStart (s : State) : Host.Outcome State Fault Refusal :=
  if !s.time.ticking then .next s
  else if s.plan.boardDone = some s.boardCycle then
    let c := s.boardCycle + 1
    let t := cycleStart (s.period s.boardRing) c
    let s1 := s.advanceNow t
    .next (s1.boardCycleStart c)
  else .next (s.boardCycleStart s.boardCycle)

end Sys2Proof.Machine
end

