-- ==== Sys2Proof/Machine/Requests.lean ====
section
/-! DEFINITION. Requests as messages: what a received message says, and which service takes it
(spec/03_object_dictionary.md R107 to R117, R135 to R137; spec/07_waystation_scheduler.md Table 07-2). -/

namespace Sys2Proof.Machine

/-! ### The requests of the rows -/

/-- The WRITE request of a header, object and value. -/
def writeReq (h : Hdr) (idx sub : Nat) (v : Octets) : Req := ⟨h, 0x21, idx, sub, v⟩

/-- A WRITE request (R111). -/
def State.writeRequest (s : State) (h : Hdr) (idx sub : Nat) (v : Octets) : State :=
  s.request (writeReq h idx sub v) fun x s => s.serveWrite (writeReq h idx sub v) x idx sub v

/-- The READ request of a header and object. -/
def readReq (h : Hdr) (idx sub : Nat) : Req := ⟨h, 0x20, idx, sub, []⟩

/-- A READ request (R113). -/
def State.readRequest (s : State) (h : Hdr) (idx sub : Nat) : State :=
  s.request (readReq h idx sub) fun x s => s.serveRead (readReq h idx sub) x idx sub

/-- The MBOX_POST request of a header and command record. It names no object, and neither do SEG_READ, SEG_WRITE and SEG_ABORT: their
Index and Subindex are 0 (R107; assumption log 68). -/
def postReq (h : Hdr) (kind : Nat) (m : Motion) : Req := ⟨h, 0x40, 0, 0, commandRecord kind m⟩

/-- A MBOX_POST request (R146). -/
def State.postRequest (s : State) (h : Hdr) (kind : Nat) (m : Motion) : State :=
  s.request (postReq h kind m) fun x s => s.servePost (postReq h kind m) x kind m

/-- A CLOSE past step 5 (R123). -/
def State.serveClose (s : State) (r : Req) (x : Session) : State :=
  (s.closeSessions (fun y => y.id == x.id) 0).respond r x 0x91 0 []

/-! ### Messages as they arrive -/

/-- A command record's fields apart from Kind (Table 03-23). -/
def Motion.ofRecord (o : Octets) : Motion :=
  ⟨u8At o 1, u16At o 2, u32At o 4, u16At o 8, u16At o 10, u16At o 12, u16At o 14, u64At o 16, u32At o 24, u32At o 28⟩

/-- Number of data octets that a received message has: on UDP what lies between header and tag, on CAN what its length field says
(R107, R136). -/
def dataLength (e : Endpoint) (o : Octets) : Nat := if e.port < 2 then o.length - 32 else u16At o 12

/-- A received message read in the order of Table 03-9. -/
def Req.ofMessage (e : Endpoint) (o : Octets) : Req :=
  let n := dataLength e o
  { h := { src := e, version := u8At o 0, session := u16At o 2, seq := u32At o 4, flags := u8At o 11, len := u16At o 12,
           rsvd := u16At o 14, tag := slice o (16 + n) 16, at_ := 0 },
    op := u8At o 1, idx := u16At o 8, sub := u8At o 10, data := slice o 16 n }

/-- A received message is one whole message: at least a header and a tag, and on CAN in the smallest frame, filled up with zeros
(R107, R136). -/
def messageFits (e : Endpoint) (o : Octets) : Bool :=
  let n := 32 + dataLength e o
  decide (32 ≤ o.length) &&
    (decide (e.port < 2) || (o.length == canLength true false (canDlc n) && decide (n ≤ o.length) && allZero (o.drop n)))

/-- Data of the length that an opcode of fixed length has (Table 03-10), else 0x03000006 (assumption log 69). -/
def State.ofLength (s : State) (r : Req) (x : Session) (n : Nat) (t : State) : State :=
  if r.data.length = n then t else s.refuse r x abLength

/-- A request past step 5, served by its opcode. -/
def State.serve (s : State) (r : Req) (x : Session) : State :=
  if r.op = 0x11 then s.ofLength r x 0 (s.serveClose r x)
  else if r.op = 0x20 then s.ofLength r x 0 (s.serveRead r x r.idx r.sub)
  else if r.op = 0x21 then s.serveWrite r x r.idx r.sub r.data
  else if r.op = 0x30 then s.ofLength r x 0 (s.serveReadInit r x r.idx r.sub)
  else if r.op = 0x31 then s.ofLength r x 4 (s.serveSegRead r x (leNat r.data))
  else if r.op = 0x32 then s.ofLength r x 4 (s.serveWriteInit r x r.idx r.sub (leNat r.data))
  else if r.op = 0x33 then
    if 4 ≤ r.data.length then s.serveSegWrite r x (u32At r.data 0) (r.data.drop 4) else s.refuse r x abLength
  else if r.op = 0x34 then s.ofLength r x 0 (s.serveAbort r x)
  else s.ofLength r x 32 (s.servePost r x (u8At r.data 0) (Motion.ofRecord r.data))

/-- A message at the management processor. -/
def State.takeMessage (s : State) (e : Endpoint) (o : Octets) : State :=
  let r := Req.ofMessage e o
  if !messageFits e o then s.refuseBare r (r.headRefused.getD abLengthField)
  else if r.op = 0x10 then s.openReq r
  else s.letThrough r fun x s => s.serve r x

/-- A dictionary item that the management processor takes from flow 118: the message in its buffer (R22). -/
def State.takeItem (s : State) (it : Item) : State :=
  let port := u8At it.payload 0
  if it.flow = 118 ∧ requestOrigin 0 ≤ it.origin ∧ it.origin ≤ requestOrigin 5 then
    ((s.clearSent port).takeMessage ⟨port, leNat (slice it.payload 1 16), u16At it.payload 17⟩ (it.payload.drop 19))
  else s

end Sys2Proof.Machine
end

