-- ==== Sys2Proof/Machine/Dictionary.lean ====
section
/-! DEFINITION. The dictionary's requests and events (spec/03_object_dictionary.md): sessions, reads, writes, transfers, function
commands, store and restore, and the writes that have a behaviour of their own in other chapters. -/

namespace Sys2Proof.Machine

/-! ### Sessions -/

/-- OPEN (R119). -/
def execOpenSession (h : Hdr) (slot : Nat) (pad nonce : Octets) (s : State) : Host.Outcome State Fault Refusal :=
  let r : Req := ⟨h, 0x10, 0, 0, toLE 1 slot ++ pad ++ nonce⟩
  let a := (s.advanceTo h.at_).heard h.src
  if a.2 then
    let c := a.1.carry h.src r.received h.at_
    .next (if c.2 then c.1.openReq r else c.1)
  else .next a.1

/-- CAN_FRAME_RECEIVED (R135, R648, R649); the time is that of its start of frame. A frame with the request identifier is a
dictionary message. -/
def execCanFrameReceived (n : Fin 4) (frame : CanFrame) (at_ : Nat) (s : State) : Host.Outcome State Fault Refusal :=
  let s0 := s.advanceTo at_
  let s1 := s0.canFrame n frame
  if s0.canTakes n frame && s0.isRequest n frame && s0.canMode n == 0 && s0.serves then
    let c := s1.carry ⟨2 + n.val, 0, 0⟩ (canOctets frame) at_
    .next (if c.2 then c.1.takeMessage ⟨2 + n.val, 0, 0⟩ (canOctets frame) else c.1)
  else .next s1

/-- CLOSE (R123). -/
def execClose (h : Hdr) (s : State) : Host.Outcome State Fault Refusal :=
  .next (s.request ⟨h, 0x11, 0, 0, []⟩ fun x s => s.serveClose ⟨h, 0x11, 0, 0, []⟩ x)

/-- SESSION_CONFIRM_TIMEOUT (R122). -/
def execSessionConfirmTimeout (session : Nat) (s : State) : Host.Outcome State Fault Refusal :=
  match s.session session with
  | some x => if x.confirmed then .next s else .next (s.closeSessions (fun y => y.id == session) 1)
  | none => .next s

/-- SESSION_IDLE_TIMEOUT (R123). -/
def execSessionIdleTimeout (session : Nat) (s : State) : Host.Outcome State Fault Refusal :=
  .next (s.closeSessions (fun y => y.id == session) 1)

/-! ### READ and WRITE -/

/-- READ (R113). -/
def execRead (h : Hdr) (idx sub : Nat) (s : State) : Host.Outcome State Fault Refusal := .next (s.readRequest h idx sub)

/-- WRITE (R111). -/
def execWrite (h : Hdr) (idx sub : Nat) (value : Octets) (s : State) : Host.Outcome State Fault Refusal :=
  .next (s.writeRequest h idx sub value)

/-! ### Segmented transfers -/

/-- SEG_READ_INIT (R134). -/
def execSegReadInit (h : Hdr) (idx sub : Nat) (s : State) : Host.Outcome State Fault Refusal :=
  .next (s.request ⟨h, 0x30, idx, sub, []⟩ fun x s => s.serveReadInit ⟨h, 0x30, idx, sub, []⟩ x idx sub)

/-- SEG_READ (R134). -/
def execSegRead (h : Hdr) (offset : Nat) (s : State) : Host.Outcome State Fault Refusal :=
  .next (s.request ⟨h, 0x31, 0, 0, toLE 4 offset⟩ fun x s => s.serveSegRead ⟨h, 0x31, 0, 0, toLE 4 offset⟩ x offset)

/-- SEG_WRITE_INIT (R128). -/
def execSegWriteInit (h : Hdr) (idx sub total : Nat) (s : State) : Host.Outcome State Fault Refusal :=
  .next (s.request ⟨h, 0x32, idx, sub, toLE 4 total⟩ fun x s => s.serveWriteInit ⟨h, 0x32, idx, sub, toLE 4 total⟩ x idx sub total)

/-- SEG_WRITE (R129). -/
def execSegWrite (h : Hdr) (offset : Nat) (value : Octets) (s : State) : Host.Outcome State Fault Refusal :=
  .next (s.request ⟨h, 0x33, 0, 0, toLE 4 offset ++ value⟩ fun x s =>
    s.serveSegWrite ⟨h, 0x33, 0, 0, toLE 4 offset ++ value⟩ x offset value)

/-- SEG_ABORT (R132). -/
def execSegAbort (h : Hdr) (s : State) : Host.Outcome State Fault Refusal :=
  .next (s.request ⟨h, 0x34, 0, 0, []⟩ fun x s => s.serveAbort ⟨h, 0x34, 0, 0, []⟩ x)

/-- DOMAIN_CONTENT_CHECK_DONE (R127). -/
def execDomainContentCheckDone (session : Nat) (s : State) : Host.Outcome State Fault Refusal :=
  .next (s.contentEnds session fun _ _ => true)

/-- SEGMENT_TIMEOUT (R132). -/
def execSegmentTimeout (session : Nat) (s : State) : Host.Outcome State Fault Refusal :=
  match s.session session with
  | some x =>
    match x.xfer with
    | some t => if t.checking then .next s else .next (s.closeTransfer x)
    | none => .next s
  | none => .next s

/-- SAFE_OBJECT_WRITE (R583): the content check of a write to a SAFE object ends. -/
def execSafeObjectWrite (session : Nat) (s : State) : Host.Outcome State Fault Refusal :=
  .next (s.contentEnds session fun _ c => c.acc == .safe)

/-- KEY_SLOT_WRITE (R753): the content check of a key slot write ends. -/
def execKeySlotWrite (session : Nat) (s : State) : Host.Outcome State Fault Refusal :=
  .next (s.contentEnds session fun idx _ => idx == 0x1810)

/-- ATTESTATION_CHALLENGE (R758, R759): the content check of a challenge ends. -/
def execAttestationChallenge (session : Nat) (s : State) : Host.Outcome State Fault Refusal :=
  .next (s.contentEnds session fun idx _ => idx == 0x1820)

/-- TRANSITION_REQUEST (R767, R768): the content check of a transition request ends. -/
def execTransitionRequest (session : Nat) (s : State) : Host.Outcome State Fault Refusal :=
  .next (s.contentEnds session fun idx _ => idx == 0x1801)

/-- RETURN_AUTHORISATION (R769): the content check of a return authorisation ends. -/
def execReturnAuthorisation (session : Nat) (s : State) : Host.Outcome State Fault Refusal :=
  .next (s.contentEnds session fun idx _ => idx == 0x1803)

/-! ### Function commands -/

/-- START (R99, R102). -/
def execStart (f : Fn) (h : Hdr) (s : State) : Host.Outcome State Fault Refusal := .next (s.writeRequest h f.base 2 (toLE 1 1))

/-- STOP (R99, R103). -/
def execStop (f : Fn) (h : Hdr) (s : State) : Host.Outcome State Fault Refusal := .next (s.writeRequest h f.base 2 (toLE 1 2))

/-- CLEAR (R105). -/
def execClear (f : Fn) (h : Hdr) (s : State) : Host.Outcome State Fault Refusal := .next (s.writeRequest h f.base 2 (toLE 1 3))

/-! ### Persistence, resets, power modes -/

/-- STORE (R140). -/
def execStore (h : Hdr) (s : State) : Host.Outcome State Fault Refusal := .next (s.writeRequest h 0x1010 1 (toLE 4 0x524F5453))

/-- A store ends: the copy that the marker does not name holds the snapshot and its check passes, or not (R140, R144). -/
def State.storeDone (s : State) (image : List ((Nat × Nat) × Octets)) (ok : Bool) : State :=
  let good := ok && s.power.mramOk
  let s1 := s.onDict fun d =>
    { d with
      copyA := if d.markerA then d.copyA else ⟨good, image⟩
      copyB := if d.markerA then ⟨good, image⟩ else d.copyB
      markerA := if good then !d.markerA else d.markerA
      storing := none
      storeStatus := if good then 2 else 3 }
  s1.record 0x0030 0 (toLE 1 (if good then 2 else 3))

/-- CAN_TRANSMISSION_END (R662); a reset asked for over the controller follows its response (R76). -/
def execCanTransmissionEnd (n : Fin 4) (outcome lec : Nat) (exempt : Bool) (delay : Nat) (s : State) :
    Host.Outcome State Fault Refusal := .next (s.txEnd n outcome lec exempt delay).resetDue

/-- CAN_RECEIVE_ERROR (R663); bus-off discards a response that a reset waits for (R667). -/
def execCanReceiveError (n : Fin 4) (lec : Nat) (heavy : Bool) (s : State) : Host.Outcome State Fault Refusal :=
  .next (s.canReceiveError n lec heavy).resetDue

/-- STORE_COMPLETE (R140, R144). -/
def execStoreComplete (ok : Bool) (s : State) : Host.Outcome State Fault Refusal :=
  match s.dict.storing with
  | some image => .next (s.storeDone image ok)
  | none => .next s

/-- RESTORE_DEFAULTS (R145). -/
def execRestoreDefaults (h : Hdr) (s : State) : Host.Outcome State Fault Refusal :=
  .next (s.writeRequest h 0x1011 1 (toLE 4 0x53464544))

/-- MAIN_RESET_REQUEST (R76). -/
def execMainResetRequest (h : Hdr) (s : State) : Host.Outcome State Fault Refusal := .next (s.writeRequest h 0x1021 0 (toLE 1 1))

/-- DEVICE_RESET_REQUEST (R76). -/
def execDeviceResetRequest (h : Hdr) (s : State) : Host.Outcome State Fault Refusal :=
  .next (s.writeRequest h 0x1021 0 (toLE 1 2))

/-- POWER_MODE_RUN (R84). -/
def execPowerModeRun (h : Hdr) (s : State) : Host.Outcome State Fault Refusal := .next (s.writeRequest h 0x1022 0 (toLE 1 0))

/-- POWER_MODE_DOZE (R84). -/
def execPowerModeDoze (h : Hdr) (s : State) : Host.Outcome State Fault Refusal := .next (s.writeRequest h 0x1022 0 (toLE 1 1))

/-- POWER_MODE_COMPUTE_OFF (R84). -/
def execPowerModeComputeOff (h : Hdr) (s : State) : Host.Outcome State Fault Refusal :=
  .next (s.writeRequest h 0x1022 0 (toLE 1 2))

/-- POWER_MODE_MAIN_OFF (R82). -/
def execPowerModeMainOff (h : Hdr) (s : State) : Host.Outcome State Fault Refusal := .next (s.writeRequest h 0x1022 0 (toLE 1 3))

/-! ### Rings, time base, Waystation, loop engines, joints, trace -/

/-- UNFOLD_REQUEST (R258, R259). -/
def execUnfoldRequest (n : Fin 4) (h : Hdr) (s : State) : Host.Outcome State Fault Refusal :=
  .next (s.writeRequest h (0x3048 + 0x200 * n.val) 0 (toLE 1 1))

/-- A global command request (Table 05-18): command, argument, target. -/
def globalCommand (cmd arg target : Nat) : Octets := toLE 6 target ++ toLE 1 arg ++ toLE 1 cmd

/-- SNAPSHOT (R262, R263). -/
def execSnapshot (n : Fin 4) (arg target : Nat) (h : Hdr) (s : State) : Host.Outcome State Fault Refusal :=
  .next (s.writeRequest h (0x3040 + 0x200 * n.val) 0 (globalCommand 1 arg target))

/-- OUTPUT_RESET (R262, R263). -/
def execOutputReset (n : Fin 4) (arg target : Nat) (h : Hdr) (s : State) : Host.Outcome State Fault Refusal :=
  .next (s.writeRequest h (0x3040 + 0x200 * n.val) 0 (globalCommand 2 arg target))

/-- MODE (R262, R263). -/
def execMode (n : Fin 4) (arg target : Nat) (h : Hdr) (s : State) : Host.Outcome State Fault Refusal :=
  .next (s.writeRequest h (0x3040 + 0x200 * n.val) 0 (globalCommand 3 arg target))

/-- BARRIER_REQUEST (R266). -/
def execBarrierRequest (n : Fin 4) (ident : Nat) (h : Hdr) (s : State) : Host.Outcome State Fault Refusal :=
  .next (s.writeRequest h (0x3042 + 0x200 * n.val) 0 (toLE 2 ident))

/-- REGULATOR_STEP (R277). -/
def execRegulatorStep (sec ns : Nat) (h : Hdr) (s : State) : Host.Outcome State Fault Refusal :=
  .next (s.writeRequest h 0x3E02 0 (time96 sec ns))

/-- INCREMENT_WRITE (R278). -/
def execIncrementWrite (value : Nat) (h : Hdr) (s : State) : Host.Outcome State Fault Refusal :=
  .next (s.writeRequest h 0x3E03 2 (toLE 8 value))

/-- EVENT_RAISE (R322). -/
def execEventRaise (ev : Nat) (h : Hdr) (s : State) : Host.Outcome State Fault Refusal :=
  .next (s.writeRequest h 0x2022 0 (toLE 2 ev))

/-- EVENT_CLEAR (R326). -/
def execEventClear (ev : Nat) (h : Hdr) (s : State) : Host.Outcome State Fault Refusal :=
  .next (s.writeRequest h 0x2021 0 (toLE 2 ev))

/-- WAYSTATION_STATUS_CLEAR (R333). -/
def execWaystationStatusClear (mask : Nat) (h : Hdr) (s : State) : Host.Outcome State Fault Refusal :=
  .next (s.writeRequest h 0x2031 0 (toLE 1 mask))

/-- DEBUG_ENABLE_WRITE (R375). -/
def execDebugEnableWrite (value : Nat) (h : Hdr) (s : State) : Host.Outcome State Fault Refusal :=
  .next (s.writeRequest h 0x2407 0 (toLE 1 value))

/-- LAW_SELECT_REQUEST (R398). -/
def execLawSelectRequest (j entry : Nat) (h : Hdr) (s : State) : Host.Outcome State Fault Refusal :=
  .next (s.writeRequest h (jointIdx j 2) 0 (toLE 2 entry))

/-- TUNE_REQUEST (R411). -/
def execTuneRequest (j value : Nat) (h : Hdr) (s : State) : Host.Outcome State Fault Refusal :=
  .next (s.writeRequest h (jointIdx j 0xB) 0 (toLE 8 value))

/-- TRACE_TRIGGER_NOW (R418). -/
def execTraceTriggerNow (h : Hdr) (s : State) : Host.Outcome State Fault Refusal := .next (s.writeRequest h 0x2F05 0 (toLE 1 1))

/-! ### Planning -/

/-- MOVE_JOINT (R146, R431). -/
def execMoveJoint (m : Motion) (h : Hdr) (s : State) : Host.Outcome State Fault Refusal := .next (s.postRequest h 1 m)

/-- MOVE_LINEAR (R146, R431). -/
def execMoveLinear (m : Motion) (h : Hdr) (s : State) : Host.Outcome State Fault Refusal := .next (s.postRequest h 2 m)

/-- COOP_MOVE (R146, R431). -/
def execCoopMove (m : Motion) (h : Hdr) (s : State) : Host.Outcome State Fault Refusal := .next (s.postRequest h 3 m)

/-- HOLD (R146, R433). -/
def execHold (m : Motion) (h : Hdr) (s : State) : Host.Outcome State Fault Refusal := .next (s.postRequest h 4 m)

/-- RESUME (R146, R433). -/
def execResume (m : Motion) (h : Hdr) (s : State) : Host.Outcome State Fault Refusal := .next (s.postRequest h 5 m)

/-- CANCEL (R146, R433). -/
def execCancel (m : Motion) (h : Hdr) (s : State) : Host.Outcome State Fault Refusal := .next (s.postRequest h 6 m)

/-- GROUP_ENGAGE (R430). -/
def execGroupEngage (g : Fin 6) (value : Nat) (h : Hdr) (s : State) : Host.Outcome State Fault Refusal :=
  .next (s.writeRequest h 0x2841 (g.val + 1) (toLE 1 value))

/-! ### Safety -/

/-- HOST_STOP_REQUEST (R546). -/
def execHostStopRequest (a : Fin 12) (value : Nat) (h : Hdr) (s : State) : Host.Outcome State Fault Refusal :=
  .next (s.writeRequest h 0xA150 (a.val + 1) (toLE 1 value))

/-- ARM_ACKNOWLEDGE (R518). -/
def execArmAcknowledge (mask : Nat) (h : Hdr) (s : State) : Host.Outcome State Fault Refusal :=
  .next (s.writeRequest h 0xA151 0 (toLE 2 mask))

/-- BRAKE_TEST_REQUEST (R529, R545). -/
def execBrakeTestRequest (value : Nat) (h : Hdr) (s : State) : Host.Outcome State Fault Refusal :=
  .next (s.writeRequest h 0xA152 0 (toLE 4 value))

/-- SAFETY_CONFIRM (R587, R588). -/
def execSafetyConfirm (value : Nat) (h : Hdr) (s : State) : Host.Outcome State Fault Refusal :=
  .next (s.writeRequest h 0xA003 0 (toLE 4 value))

/-- DISCARD_PENDING (R584). -/
def execDiscardPending (h : Hdr) (s : State) : Host.Outcome State Fault Refusal := .next (s.writeRequest h 0xA004 0 (toLE 1 1))

/-! ### Axes, PWM, CAN, fabric -/

/-- A move command (Table 14-4): kind and target. -/
def moveCommand (kind target : Nat) : Octets := toLE 4 target ++ toLE 3 0 ++ toLE 1 kind

/-- MOVE_ABS (R594, R596). -/
def execMoveAbs (k : Fin 16) (target : Nat) (h : Hdr) (s : State) : Host.Outcome State Fault Refusal :=
  .next (s.writeRequest h (0x7005 + 0x40 * k.val) 0 (moveCommand 1 target))

/-- MOVE_REL (R594, R596). -/
def execMoveRel (k : Fin 16) (distance : Nat) (h : Hdr) (s : State) : Host.Outcome State Fault Refusal :=
  .next (s.writeRequest h (0x7005 + 0x40 * k.val) 0 (moveCommand 2 distance))

/-- JOG_POS (R594, R596). -/
def execJogPos (k : Fin 16) (h : Hdr) (s : State) : Host.Outcome State Fault Refusal :=
  .next (s.writeRequest h (0x7005 + 0x40 * k.val) 0 (moveCommand 3 0))

/-- JOG_NEG (R594, R596). -/
def execJogNeg (k : Fin 16) (h : Hdr) (s : State) : Host.Outcome State Fault Refusal :=
  .next (s.writeRequest h (0x7005 + 0x40 * k.val) 0 (moveCommand 4 0))

/-- AXIS_STOP (R602). -/
def execAxisStop (k : Fin 16) (h : Hdr) (s : State) : Host.Outcome State Fault Refusal :=
  .next (s.writeRequest h (0x7005 + 0x40 * k.val) 0 (moveCommand 5 0))

/-- HOME (R606). -/
def execHome (k : Fin 16) (h : Hdr) (s : State) : Host.Outcome State Fault Refusal :=
  .next (s.writeRequest h (0x7005 + 0x40 * k.val) 0 (moveCommand 6 0))

/-- HALT (R602). -/
def execHalt (k : Fin 16) (h : Hdr) (s : State) : Host.Outcome State Fault Refusal :=
  .next (s.writeRequest h (0x7005 + 0x40 * k.val) 0 (moveCommand 7 0))

/-- DUTY_WRITE (R617, R618). -/
def execDutyWrite (g : Fin 8) (p : Fin 3) (value : Nat) (h : Hdr) (s : State) : Host.Outcome State Fault Refusal :=
  .next (s.writeRequest h (0x7803 + 0x10 * g.val) (p.val + 1) (toLE 4 value))

/-- TRANSMIT_REQUEST (R658). -/
def execTransmitRequest (n : Fin 4) (mask : Nat) (h : Hdr) (s : State) : Host.Outcome State Fault Refusal :=
  .next (s.writeRequest h (canIdx n.val 0x31) 0 (toLE 2 mask))

/-- RECOVERY_REQUEST (R666). -/
def execRecoveryRequest (n : Fin 4) (h : Hdr) (s : State) : Host.Outcome State Fault Refusal :=
  .next (s.writeRequest h (canIdx n.val 6) 0 (toLE 1 1))

/-- FABRIC_STATUS_CLEAR (R726). -/
def execFabricStatusClear (mask : Nat) (h : Hdr) (s : State) : Host.Outcome State Fault Refusal :=
  .next (s.writeRequest h 0x2E05 0 (toLE 1 mask))

/-! ### Firmware, pairing -/

/-- ACTIVATE (R748). -/
def execActivate (h : Hdr) (s : State) : Host.Outcome State Fault Refusal := .next (s.writeRequest h 0x1043 0 (toLE 1 1))

/-- CONFIRM (R748). -/
def execConfirm (h : Hdr) (s : State) : Host.Outcome State Fault Refusal := .next (s.writeRequest h 0x1043 0 (toLE 1 2))

/-- REJECT (R748). -/
def execReject (h : Hdr) (s : State) : Host.Outcome State Fault Refusal := .next (s.writeRequest h 0x1043 0 (toLE 1 3))

/-- MEASURE_REQUEST (R787). -/
def execMeasureRequest (h : Hdr) (s : State) : Host.Outcome State Fault Refusal := .next (s.writeRequest h 0x1C03 0 (toLE 1 1))

/-- SWITCHOVER_TEST_REQUEST (R794). -/
def execSwitchoverTestRequest (h : Hdr) (s : State) : Host.Outcome State Fault Refusal :=
  .next (s.writeRequest h 0x1C04 0 (toLE 1 1))

end Sys2Proof.Machine
end

