-- ==== Sys2Proof/Machine/Pairing.lean ====
section
/-! DEFINITION. The pairing commands (spec/19_standby_pairing.md). -/

namespace Sys2Proof.Machine

/-- ACTV_I_CHANGE. -/
def execActvIChange (level : Bool) (s : State) : Host.Outcome State Fault Refusal := .next (s.actvIn level)

/-- CLAIM_DELAY_EXPIRY (R777): ACTV_I has been low for the claim delay. -/
def execClaimDelayExpiry (s : State) : Host.Outcome State Fault Refusal :=
  if s.mayClaim then .next (s.onPair fun p => { p with actvO := true }) else .next s

/-- ACTING_BEGIN (R778, R791): ACTV_O high and ACTV_I low for 1 µs. -/
def execActingBegin (s : State) : Host.Outcome State Fault Refusal :=
  if s.pair.actvO && !s.pair.actvI && !s.pair.acting then .next s.beginActing.takeOverOutputs else .next s

/-- ACTING_RELEASE at the start of the board cycle that ends acting (Table 19-2, R782, R794). -/
def execActingRelease (s : State) : Host.Outcome State Fault Refusal :=
  if s.pair.acting && s.pair.releasePending then
    let test := s.pair.testPending
    .next (s.release.onPair fun p =>
      { p with testRunning := test || p.testRunning, testFailed := if test then false else p.testFailed })
  else .next s

/-- ARMED_TIMEOUT (R789): ACTV_I low for 10 ms without the unit acting. -/
def execArmedTimeout (s : State) : Host.Outcome State Fault Refusal :=
  if s.pair.armed && !s.pair.actvI && !s.pair.acting then
    .next ((s.onPair fun p => { p with armed := false }).raise 419)
  else .next s

/-- TEST_WINDOW_END (R796). -/
def execTestWindowEnd (s : State) : Host.Outcome State Fault Refusal :=
  if s.pair.testRunning && !s.pair.acting then
    let good := s.pair.actvI && !s.pair.testFailed && (s.namedRings.all fun n => s.isRunning (.ring n)) &&
      s.fnSt .safety != .fault
    let s1 := s.onPair fun p => { p with testRunning := false, testResult := if good then 1 else p.testResult }
    .next (if good then s1.raise 422
      else if s.pair.actvI && !s.pair.testFailed then
        (s1.onPair fun p => { p with testResult := 3 }).raise 423
      else s1)
  else .next s

/-- RETURN_HOLD_EXPIRY (R792): a principal ARMED for the hold time, with RETURN set. -/
def execReturnHoldExpiry (s : State) : Host.Outcome State Fault Refusal :=
  if !s.pair.pairSel && s.pair.armed && bitAt (s.cfg 0x1C01 0) 4 && s.pair.actvI then
    .next (s.onPair fun p => { p with actvO := true })
  else .next s

/-- INTERLOCK_FAULT (R798): both lines high for 2 ms. -/
def execInterlockFault (s : State) : Host.Outcome State Fault Refusal :=
  if s.isRunning .pairing && s.pair.actvO && s.pair.actvI then .next ((s.fault .pairing 0x0102).raise 424)
  else .next s

/-- Two heads make a full valid cycle (R219): RUN or BEACON, consecutive numbers, the interval the Period within ±8 ns. -/
def fullCycle (prev : Option (Nat × Nat × Bool)) (prevKind kind c at_ period : Nat) : Bool :=
  match prev with
  | none => false
  | some p => (prevKind == 1 || prevKind == 2) && (kind == 1 || kind == 2) && p.1 + 1 == c &&
      decide (at_ ≤ p.2.1 + period + 8) && decide (p.2.1 + period ≤ at_ + 8)

/-- A valid head on its first pass at a tracking unit (R219, R783, R785, R786). -/
def State.trackHead (s : State) (n : Nat) (o : Octets) (at_ : Nat) : State :=
  let c := u64At o 4
  let kind := u8At o 2
  let folded := bitAt (u8At o 3) 7
  let tr := (s.ring n).tracking
  let s1 := s.onRing n fun r =>
    let t : Tracking := { tr with lastHead := some (c, at_, folded), kind := kind, period := u32At o 12 }
    { r with cycle := some c, folded := folded, tracking := t, outE := [], outW := [],
             lastMeasure := if kind = 3 then r.measure else r.lastMeasure,
             measure := if kind = 3 then some ⟨c, at_, none, []⟩ else r.measure,
             entries := r.entries.map fun x => { x with got := false, posted := false } }
  -- the interval between two heads is the Period that the first one carries (R222)
  let s2 := if s.fnSt (.ring n) = .starting && fullCycle tr.lastHead tr.kind kind c at_ tr.period then
      s1.setFn (.ring n) .running
    else s1
  let s3 := match nth s.pair.q n none with
    | some q =>
      if n = s.boardRing && !folded && s.isRunning .pairing then
        s2.onPair fun p => { p with theta := 1000 * (cycleStart (s.period n) c : Int) + q - 1000 * (at_ : Int) }
      else s2
    | none => s2
  s3.updateArmed

/-- TRACKING_HEAD_RECEIVED: the octets of a head at the receive boundary, whether it is the second pass of a MEASURE
caravan, and this unit's own ring time of its /SC/. It is forwarded in every case (R216), and one of reserved Version or Type counts
as missing (R167). -/
def execTrackingHeadReceived (n : Fin 4) (octets : Octets) (second : Bool) (at_ : Nat) (s : State) :
    Host.Outcome State Fault Refusal :=
  let s0 := s.advanceTo at_
  if s.isActive (.ring n) && (s.ring n).tracking.on then
    let s1 :=
      if !(headValid octets && headKnown octets) then s0
      else if second then s0.onRing n fun r => { r with measure := r.measure.map fun m => { m with rx := some at_ } }
      else s0.trackHead n octets at_
    .next (s1.passOn n ((s.ring n).trackPort != second) at_ octets)
  else .next s0

end Sys2Proof.Machine
end

