-- ==== Sys2Proof/Machine/Security.lean ====
section
/-! DEFINITION. Tamper, Ledger writes, programming, signatures and life-cycle transitions as events
(spec/18_management_security.md). -/

namespace Sys2Proof.Machine

/-- A tamper sensor trips: the vault is wiped and unreadable, TAMPERED set, with its record and event (R763, R764). -/
def State.tamper (s : State) (sensor : Nat) : State :=
  let s1 := s.vaultWipe.onSec fun x =>
    { x with vaultReadable := false, tampered := x.tampered || s.power.mramOk, sensors := setBits x.sensors (1 <<< sensor) }
  (s1.record 0x0071 0 (toLE 1 (1 <<< sensor))).raise 397

/-- TAMPER (R764): the sensors watch the main die while it has power. -/
def execTamper (sensor : Fin 5) (s : State) : Host.Outcome State Fault Refusal :=
  if s.power.pwrEn && !s.power.compReset then .next (s.tamper sensor) else .next s

/-- LEDGER_RECORD_WRITE (R738, R740, R741); no write starts while the MRAM supply is low (R56). -/
def execLedgerRecordWrite (s : State) : Host.Outcome State Fault Refusal :=
  if s.power.mgmtUp && s.power.mramOk then .next s.ledgerWrite else .next s

/-- The slot not running holds the image as programmed and read back, `ok` when every octet came back (R747). -/
def State.programmed (s : State) (o : Octets) (ok : Bool) : State :=
  let i := s.fw.other
  let len := 786432
  let s1 := s.onFw fun f =>
    { f with flash := if ok then flashWrite (flashErase f.flash (slotBase i) len) (slotBase i) o
                      else flashErase f.flash (slotBase i) len
             programming := none }
  if ok && s1.imageVerifies o then
    (((s1.onSlot i fun _ => ⟨1, 0, u32At o 4⟩).onFw fun f => { f with update := 3 }).recordFw 1 i (u32At o 4)).raise 391
  else ((s1.onFw fun f => { f with update := 4 }).recordFw 2 i (u32At o 4)).raise 392

/-- FLASH_PROGRAMMING_DONE (R747). -/
def execFlashProgrammingDone (ok : Bool) (s : State) : Host.Outcome State Fault Refusal :=
  match s.fw.programming with
  | some o => .next (s.programmed o ok)
  | none => .next s

/-- SIGNATURE_COMPLETE (R760, R761): the check value is 0xA001:00. -/
def execSignatureComplete (s : State) : Host.Outcome State Fault Refusal := .next (s.signatureDone (s.saf.set.force.getD 0))

/-- The safety area wiped: no copy and no set in force (R771, R589). -/
def State.wipeSafety (s : State) : State :=
  (s.onSaf fun f => { f with set := { SafSet.initial with markerA := f.set.markerA } }).forceSet none

/-- An accepted transition takes place once its response has left (R770); while no MRAM write may start the old state is left (R56,
R770). -/
def State.transitNow (s : State) (dst : Nat) (key : Octets) : State :=
  let wipe := dst = 4 ∨ (s.sec.lifeCycle = 3 ∧ dst = 1)
  let s1 := if wipe then s.wipeSafety else s
  if s.power.mramOk then (s1.transitionEffect dst key).startMainReset 7 else s.startMainReset 7

/-- LIFE_CYCLE_TRANSITION (R770, R771). -/
def execLifeCycleTransition (s : State) : Host.Outcome State Fault Refusal :=
  match s.sec.transition with
  | some t => .next (s.transitNow t.1 t.2)
  | none => .next s

end Sys2Proof.Machine
end

