-- ==== Sys2Proof/Machine/Tap.lean ====
section
/-! DEFINITION. The test access port and flash programming through it (spec/20_startup_test.md). -/

namespace Sys2Proof.Machine

/-- EXTEST, CLAMP, HIGHZ, EXTEST_PULSE and EXTEST_TRAIN are granted (R808). -/
def State.tapGrants (s : State) : Bool :=
  s.fw.hold ||
  (((List.range 4).all fun n => s.isStopped (.ring n) && s.isStopped (.can n)) &&
   ((List.range 2).all fun n => s.isStopped (.hostPort n)) && ((List.range 8).all fun g => s.isStopped (.pwm g)) &&
   ((List.range 16).all fun k => s.isStopped (.axis k)) && s.isStopped .safety)

/-- FLASH_PROG is available (R804). -/
def State.flashProgOn (s : State) : Bool := s.fw.hold && s.sec.lifeCycle != 4

/-- What the instruction register captures: 0b00000w01, with w set when the last instruction loaded was not granted (R807). -/
def Tap.irCapture (t : Tap) : Nat := b2n (!t.granted) <<< 2 ||| 1

/-- Identification register: version 0x1 of stepping B0, part number 0x9612, manufacturer code 0x3A5, and 1 (R807). -/
def idcode : Nat := 0x1 <<< 28 ||| 0x9612 <<< 12 ||| 0x3A5 <<< 1 ||| 1

/-- BYPASS in effect; its register holds 0. -/
def State.tapBypass (s : State) (granted : Bool) : State :=
  s.onTap fun t => { t with ir := 0xFF, granted := granted, bypass := false }

/-- An instruction in effect. -/
def State.tapLoad (s : State) (op : Nat) : State := s.onTap fun t => { t with ir := op, granted := true }

/-- An instruction that R808 grants or turns into BYPASS. -/
def State.tapGranted (s : State) (op : Nat) : State := if s.tapGrants then s.tapLoad op else s.tapBypass false

/-- An instruction that selects the boundary register, and the value shifted into it. -/
def State.tapBoundary (s : State) (op value : Nat) : State :=
  if s.tapGrants then (s.tapLoad op).onTap fun t => { t with boundary := BitVec.ofNat 1048 value } else s.tapBypass false

/-- TAP_RESET (R807, Table 02-5): the port alone; IDCODE is in effect, as IEEE 1149.1 has it. -/
def execTapReset (s : State) : Host.Outcome State Fault Refusal := .next (s.tapLoad 0x01)

/-- IDCODE (R807). -/
def execIdcode (s : State) : Host.Outcome State Fault Refusal := .next (s.tapLoad 0x01)

/-- BYPASS (R807). -/
def execBypass (s : State) : Host.Outcome State Fault Refusal := .next (s.tapBypass true)

/-- SAMPLE/PRELOAD with the value shifted in (R807). -/
def execSamplePreload (value : Nat) (s : State) : Host.Outcome State Fault Refusal :=
  .next ((s.tapLoad 0x02).onTap fun t => { t with boundary := BitVec.ofNat 1048 value })

/-- EXTEST (R808, R809). -/
def execExtest (value : Nat) (s : State) : Host.Outcome State Fault Refusal := .next (s.tapBoundary 0x00 value)

/-- EXTEST_PULSE (R808, R809). -/
def execExtestPulse (value : Nat) (s : State) : Host.Outcome State Fault Refusal := .next (s.tapBoundary 0x06 value)

/-- EXTEST_TRAIN (R808, R809). -/
def execExtestTrain (value : Nat) (s : State) : Host.Outcome State Fault Refusal := .next (s.tapBoundary 0x07 value)

/-- CLAMP (R808, R809). -/
def execClamp (s : State) : Host.Outcome State Fault Refusal := .next (s.tapGranted 0x04)

/-- HIGHZ (R808, R809). -/
def execHighz (s : State) : Host.Outcome State Fault Refusal := .next (s.tapGranted 0x05)

/-- FLASH_PROG (R804): otherwise it acts as BYPASS. -/
def execFlashProg (s : State) : Host.Outcome State Fault Refusal :=
  .next (if s.flashProgOn then s.tapLoad 0x10 else s.tapBypass true)

/-! ### FLASH_PROG operations (R805, R806) -/

/-- The port decides over the balls: boundary cells or high impedance, only while R808 grants it (Table 20-4, R809). -/
def State.tapDrives (s : State) : Bool :=
  s.tapGrants && (s.tap.ir == 0 || s.tap.ir == 4 || s.tap.ir == 5 || s.tap.ir == 6 || s.tap.ir == 7)

/-- FLASH_PROG is in effect and available. -/
def State.flashOps (s : State) : Bool := s.tap.ir == 0x10 && s.flashProgOn

/-- The captured register (Table 20-3). -/
def Tap.captured (t : Tap) : Nat := t.status <<< 56 ||| t.offset <<< 32 ||| t.word

/-- Length and content of the data register of the instruction in effect (Table 20-4); an instruction whose grant has ended acts as
BYPASS (R804, R808). -/
def State.tapData (s : State) : Nat × Nat :=
  let op := s.tap.ir
  if op = 0x01 then (32, idcode)
  else if op = 0x02 ∨ ((op = 0x00 ∨ op = 0x06 ∨ op = 0x07) ∧ s.tapGrants = true) then (1048, s.tap.boundary.toNat)
  else if s.flashOps then (64, s.tap.captured)
  else (1, b2n s.tap.bypass)

/-- An operation refused. -/
def State.flashRefuse (s : State) : State := s.onTap fun t => { t with status := 2, word := 0 }

/-- An offset that an operation may use (R806). -/
def flashOffsetOk (off : Nat) : Bool := off % 4 == 0 && decide (off < 0x200000)

/-- The slot that an offset lies in. -/
def flashSlotOf (off : Nat) : Nat := if off < 0x100000 then 0 else 1

/-- Operation 0x01. -/
def State.flashSetOffset (s : State) (off : Nat) : State :=
  if s.tap.busy || !flashOffsetOk off then s.flashRefuse
  else s.onTap fun t => { t with offset := off, status := 0, word := 0 }

/-- Operation 0x02: the word at the current offset, in a sector erased since the boot ROM began holding. -/
def State.flashWriteWord (s : State) (v : Nat) : State :=
  let off := s.tap.offset
  if s.tap.busy || !flashOffsetOk off || !s.fw.erased.contains (off / 4096) then s.flashRefuse
  else
    (s.onFw fun f =>
      { f with flash := flashWrite f.flash off (toLE 4 v), progWritten := flashSlotOf off :: f.progWritten.filter (· != flashSlotOf off) }).onTap
      fun t => { t with offset := off + 4, status := 1, busy := true, word := 0 }

/-- Operation 0x03. -/
def State.flashReadWord (s : State) : State :=
  let off := s.tap.offset
  if s.tap.busy || !flashOffsetOk off then s.flashRefuse
  else s.onTap fun t => { t with offset := off + 4, status := 0, word := leNat (flashOctets s.fw.flash off 4) }

/-- Operation 0x04: the 4 KiB sector at the offset. -/
def State.flashEraseSector (s : State) (off : Nat) : State :=
  if s.tap.busy || !flashOffsetOk off then s.flashRefuse
  else
    let sec := off / 4096
    (s.onFw fun f =>
      { f with flash := flashErase f.flash (4096 * sec) 4096, erased := sec :: f.erased.filter (· != sec)
               progWritten := flashSlotOf off :: f.progWritten.filter (· != flashSlotOf off) }).onTap
      fun t => { t with offset := off, status := 1, busy := true, word := 0 }

/-- FLASH_SET_OFFSET (R805, R806). -/
def execFlashSetOffset (offset : Nat) (s : State) : Host.Outcome State Fault Refusal :=
  if s.flashOps then .next (s.flashSetOffset (offset % 2 ^ 24)) else .next s

/-- FLASH_WRITE_WORD (R806). -/
def execFlashWriteWord (word : Nat) (s : State) : Host.Outcome State Fault Refusal :=
  if s.flashOps then .next (s.flashWriteWord (word % 2 ^ 32)) else .next s

/-- FLASH_READ_WORD (R805, R806). -/
def execFlashReadWord (s : State) : Host.Outcome State Fault Refusal := if s.flashOps then .next s.flashReadWord else .next s

/-- FLASH_ERASE_SECTOR (R805, R806). -/
def execFlashEraseSector (offset : Nat) (s : State) : Host.Outcome State Fault Refusal :=
  if s.flashOps then .next (s.flashEraseSector (offset % 2 ^ 24)) else .next s

/-- FLASH_NO_OPERATION (R805): the status says whether an operation is still under way. -/
def execFlashNoOperation (s : State) : Host.Outcome State Fault Refusal :=
  if s.flashOps then .next (s.onTap fun t => { t with status := b2n t.busy, word := 0 }) else .next s

/-- FLASH_OPERATION_COMPLETE (R806). -/
def execFlashOperationComplete (s : State) : Host.Outcome State Fault Refusal :=
  .next (s.onTap fun t => { t with busy := false, status := if t.status = 1 then 0 else t.status })

end Sys2Proof.Machine
end

