-- ==== Sys2Proof/Machine/Way.lean ====
section
/-! DEFINITION. The Waystation's own steps: held items, dispatch, completion, gates, delay lists
(spec/07_waystation_scheduler.md). -/

namespace Sys2Proof.Machine

/-- HELD_ITEM_ENTRY (R320): the held item that comes first enters its flow. -/
def execHeldItemEntry (s : State) : Host.Outcome State Fault Refusal :=
  match s.way.nextHeld with
  | some it =>
    if s.isRunning .waystation then .next ((s.onWay fun w => { w with held := w.held.erase it }).enqueue it) else .next s
  | none => .next s

/-- ITEM_DISPATCH (R301, R306): one item of a class goes to a position. A trace item makes the trace unit send its block
(R419), and the management processor takes a dictionary item (R21). -/
def execItemDispatch (cls : Fin 8) (s : State) : Host.Outcome State Fault Refusal :=
  let r := s.dispatch (consumerOf cls.val)
  match r.2 with
  | some it => if it.flow = 120 then .next (r.1.traceSend it.payload) else .next (r.1.takeItem it)
  | none => .next r.1

/-- ITEM_COMPLETION (R305): the consumer at a position reports. -/
def execItemCompletion (pos : Fin 112) (err : Bool) (s : State) : Host.Outcome State Fault Refusal :=
  .next (s.reportCompletion pos.val err)

/-- GATE_HELD_POST (R317). -/
def execGateHeldPost (g : Fin 1024) (s : State) : Host.Outcome State Fault Refusal := .next (s.gatePost g.val)

/-- DELAY_LIST_TICK (R311, R312): the list's next tick, at the next multiple of its tick time after its last one; a multiple that
the clock has passed meanwhile is made up for. -/
def execDelayListTick (d : Fin 4) (s : State) : Host.Outcome State Fault Refusal :=
  let tick := wayTick s.way.table d.val
  let last := nth s.way.ticks d.val 0
  let t := tick * (last / tick + 1)
  if s.isRunning .waystation && s.time.ticking then .next ((s.advanceTo t).delayTick d.val t) else .next s

/-- GATE_WAIT_TIMEOUT (R319). -/
def execGateWaitTimeout (g : Fin 1024) (s : State) : Host.Outcome State Fault Refusal := .next (s.gateTimeout g.val)

end Sys2Proof.Machine
end

