-- ==== Sys2Proof/Machine/Dispatch.lean ====
section
/-! DEFINITION. The meaning of each command: one arm per constructor. -/

namespace Sys2Proof.Machine

/-- The effect of a command on everything but the queue. -/
def exec (i : Instr) (s : State) : Host.Outcome State Fault Refusal :=
  match i with
  | .companionResetRelease => Sys2Proof.Machine.execCompanionResetRelease s
  | .powerGoodTimeout => Sys2Proof.Machine.execPowerGoodTimeout s
  | .mainPwrEnRetry => Sys2Proof.Machine.execMainPwrEnRetry s
  | .mainPgoodRise => Sys2Proof.Machine.execMainPgoodRise s
  | .mainResetRelease => Sys2Proof.Machine.execMainResetRelease s
  | .pllLock => Sys2Proof.Machine.execPllLock s
  | .sramClearDone => Sys2Proof.Machine.execSramClearDone s
  | .resetOutRelease => Sys2Proof.Machine.execResetOutRelease s
  | .companionRailFail => Sys2Proof.Machine.execCompanionRailFail s
  | .sysReset => Sys2Proof.Machine.execSysReset s
  | .mainPgoodFall longUp => Sys2Proof.Machine.execMainPgoodFall longUp s
  | .companionClockFault => Sys2Proof.Machine.execCompanionClockFault s
  | .clockMonitorFault cm => Sys2Proof.Machine.execClockMonitorFault cm s
  | .cm2ShortDelay => Sys2Proof.Machine.execCm2ShortDelay s
  | .watchdogExpiry => Sys2Proof.Machine.execWatchdogExpiry s
  | .wake => Sys2Proof.Machine.execWake s
  | .mramSupplyLow => Sys2Proof.Machine.execMramSupplyLow s
  | .sensorReadingUpdate r => Sys2Proof.Machine.execSensorReadingUpdate r s
  | .thermalShutdown sensor => Sys2Proof.Machine.execThermalShutdown sensor s
  | .tamper sensor => Sys2Proof.Machine.execTamper sensor s
  | .bootRomVerify => Sys2Proof.Machine.execBootRomVerify s
  | .autoStart => Sys2Proof.Machine.execAutoStart s
  | .openSession h slot pad nonce => Sys2Proof.Machine.execOpenSession h slot pad nonce s
  | .close h => Sys2Proof.Machine.execClose h s
  | .read h idx sub => Sys2Proof.Machine.execRead h idx sub s
  | .write h idx sub value => Sys2Proof.Machine.execWrite h idx sub value s
  | .segReadInit h idx sub => Sys2Proof.Machine.execSegReadInit h idx sub s
  | .segRead h offset => Sys2Proof.Machine.execSegRead h offset s
  | .segWriteInit h idx sub total => Sys2Proof.Machine.execSegWriteInit h idx sub total s
  | .segWrite h offset value => Sys2Proof.Machine.execSegWrite h offset value s
  | .segAbort h => Sys2Proof.Machine.execSegAbort h s
  | .domainContentCheckDone session => Sys2Proof.Machine.execDomainContentCheckDone session s
  | .sessionConfirmTimeout session => Sys2Proof.Machine.execSessionConfirmTimeout session s
  | .sessionIdleTimeout session => Sys2Proof.Machine.execSessionIdleTimeout session s
  | .segmentTimeout session => Sys2Proof.Machine.execSegmentTimeout session s
  | .start f h => Sys2Proof.Machine.execStart f h s
  | .stop f h => Sys2Proof.Machine.execStop f h s
  | .clear f h => Sys2Proof.Machine.execClear f h s
  | .startChecksComplete f => Sys2Proof.Machine.execStartChecksComplete f s
  | .startLimitExpiry f => Sys2Proof.Machine.execStartLimitExpiry f s
  | .stopSequenceComplete f => Sys2Proof.Machine.execStopSequenceComplete f s
  | .store h => Sys2Proof.Machine.execStore h s
  | .storeComplete ok => Sys2Proof.Machine.execStoreComplete ok s
  | .restoreDefaults h => Sys2Proof.Machine.execRestoreDefaults h s
  | .mainResetRequest h => Sys2Proof.Machine.execMainResetRequest h s
  | .deviceResetRequest h => Sys2Proof.Machine.execDeviceResetRequest h s
  | .powerModeRun h => Sys2Proof.Machine.execPowerModeRun h s
  | .powerModeDoze h => Sys2Proof.Machine.execPowerModeDoze h s
  | .powerModeComputeOff h => Sys2Proof.Machine.execPowerModeComputeOff h s
  | .powerModeMainOff h => Sys2Proof.Machine.execPowerModeMainOff h s
  | .computeWakeDone => Sys2Proof.Machine.execComputeWakeDone s
  | .boardCycleStart => Sys2Proof.Machine.execBoardCycleStart s
  | .ringCycleStart n => Sys2Proof.Machine.execRingCycleStart n s
  | .headReturn n east octets at_ => Sys2Proof.Machine.execHeadReturn n east octets at_ s
  | .pannierReturn n position octets at_ => Sys2Proof.Machine.execPannierReturn n position octets at_ s
  | .trailerReturn n octets at_ => Sys2Proof.Machine.execTrailerReturn n octets at_ s
  | .ringLost n => Sys2Proof.Machine.execRingLost n s
  | .courierFrameReceived n octets violated at_ => Sys2Proof.Machine.execCourierFrameReceived n octets violated at_ s
  | .nodeServiceTimeout n addr => Sys2Proof.Machine.execNodeServiceTimeout n addr s
  | .portReceiveSyncLoss n east => Sys2Proof.Machine.execPortReceiveSyncLoss n east s
  | .unfoldRequest n h => Sys2Proof.Machine.execUnfoldRequest n h s
  | .snapshot n arg target h => Sys2Proof.Machine.execSnapshot n arg target h s
  | .outputReset n arg target h => Sys2Proof.Machine.execOutputReset n arg target h s
  | .mode n arg target h => Sys2Proof.Machine.execMode n arg target h s
  | .barrierRequest n ident h => Sys2Proof.Machine.execBarrierRequest n ident h s
  | .trackingHeadReceived n octets second at_ => Sys2Proof.Machine.execTrackingHeadReceived n octets second at_ s
  | .regulatorStep sec ns h => Sys2Proof.Machine.execRegulatorStep sec ns h s
  | .incrementWrite value h => Sys2Proof.Machine.execIncrementWrite value h s
  | .ppsEdge at_ => Sys2Proof.Machine.execPpsEdge at_ s
  | .disciplineHoldoverTimeout => Sys2Proof.Machine.execDisciplineHoldoverTimeout s
  | .announceTimeout => Sys2Proof.Machine.execAnnounceTimeout s
  | .timePairLatch => Sys2Proof.Machine.execTimePairLatch s
  | .heldItemEntry => Sys2Proof.Machine.execHeldItemEntry s
  | .itemDispatch cls => Sys2Proof.Machine.execItemDispatch cls s
  | .contextFill pos => Sys2Proof.Machine.execContextFill pos s
  | .itemCompletion pos err => Sys2Proof.Machine.execItemCompletion pos err s
  | .gateHeldPost g => Sys2Proof.Machine.execGateHeldPost g s
  | .delayListTick d => Sys2Proof.Machine.execDelayListTick d s
  | .gateWaitTimeout g => Sys2Proof.Machine.execGateWaitTimeout g s
  | .eventRaise ev h => Sys2Proof.Machine.execEventRaise ev h s
  | .eventClear ev h => Sys2Proof.Machine.execEventClear ev h s
  | .waystationStatusClear mask h => Sys2Proof.Machine.execWaystationStatusClear mask h s
  | .preemptSwitch k => Sys2Proof.Machine.execPreemptSwitch k s
  | .executionLimit k => Sys2Proof.Machine.execExecutionLimit k s
  | .writeBackEnd k => Sys2Proof.Machine.execWriteBackEnd k s
  | .leMemoryError k corrected => Sys2Proof.Machine.execLeMemoryError k corrected s
  | .debugEnableWrite value h => Sys2Proof.Machine.execDebugEnableWrite value h s
  | .nop k => Sys2Proof.Machine.execNop k s
  | .done k g err => Sys2Proof.Machine.execDone k g err s
  | .rts k => Sys2Proof.Machine.execRts k s
  | .rep k n => Sys2Proof.Machine.execRep k n s
  | .loop k len n => Sys2Proof.Machine.execLoop k len n s
  | .lexit k => Sys2Proof.Machine.execLexit k s
  | .bkpt k => Sys2Proof.Machine.execBkpt k s
  | .bra k cond target => Sys2Proof.Machine.execBra k cond target s
  | .bsr k cond target => Sys2Proof.Machine.execBsr k cond target s
  | .moveImmediate k dst value long => Sys2Proof.Machine.execMoveImmediate k dst value long s
  | .moveAbsolute k y store reg addr => Sys2Proof.Machine.execMoveAbsolute k y store reg addr s
  | .moveIndirect k y store reg ptr md => Sys2Proof.Machine.execMoveIndirect k y store reg ptr md s
  | .move k dst src => Sys2Proof.Machine.execMove k dst src s
  | .shln k d n => Sys2Proof.Machine.execShln k d n s
  | .shrn k d n => Sys2Proof.Machine.execShrn k d n s
  | .addp k ptr off => Sys2Proof.Machine.execAddp k ptr off s
  | .post k flow list ptr => Sys2Proof.Machine.execPost k flow list ptr s
  | .evr k v => Sys2Proof.Machine.execEvr k v s
  | .get k dst ind ptr md addr => Sys2Proof.Machine.execGet k dst ind ptr md addr s
  | .pub k src ind ptr md addr => Sys2Proof.Machine.execPub k src ind ptr md addr s
  | .ftap k d neg ptr tap => Sys2Proof.Machine.execFtap k d neg ptr tap s
  | .pmov k x y => Sys2Proof.Machine.execPmov k x y s
  | .clr k d x y => Sys2Proof.Machine.execClr k d x y s
  | .cpy k d src x y => Sys2Proof.Machine.execCpy k d src x y s
  | .add k d src x y => Sys2Proof.Machine.execAdd k d src x y s
  | .sub k d src x y => Sys2Proof.Machine.execSub k d src x y s
  | .cmp k d src x y => Sys2Proof.Machine.execCmp k d src x y s
  | .neg k d x y => Sys2Proof.Machine.execNeg k d x y s
  | .abs k d x y => Sys2Proof.Machine.execAbs k d x y s
  | .mul k d src x y => Sys2Proof.Machine.execMul k d src x y s
  | .muln k d src x y => Sys2Proof.Machine.execMuln k d src x y s
  | .mac k d src x y => Sys2Proof.Machine.execMac k d src x y s
  | .msu k d src x y => Sys2Proof.Machine.execMsu k d src x y s
  | .mulr k d src x y => Sys2Proof.Machine.execMulr k d src x y s
  | .madr k d src x y => Sys2Proof.Machine.execMadr k d src x y s
  | .rnd k d x y => Sys2Proof.Machine.execRnd k d x y s
  | .tst k d x y => Sys2Proof.Machine.execTst k d x y s
  | .asl k d x y => Sys2Proof.Machine.execAsl k d x y s
  | .asr k d x y => Sys2Proof.Machine.execAsr k d x y s
  | .max k d src x y => Sys2Proof.Machine.execMax k d src x y s
  | .min k d src x y => Sys2Proof.Machine.execMin k d src x y s
  | .and k d src x y => Sys2Proof.Machine.execAnd k d src x y s
  | .or k d src x y => Sys2Proof.Machine.execOr k d src x y s
  | .xor k d src x y => Sys2Proof.Machine.execXor k d src x y s
  | .sat k d x y => Sys2Proof.Machine.execSat k d x y s
  | .lawSelectRequest j entry h => Sys2Proof.Machine.execLawSelectRequest j entry h s
  | .tuneRequest j value h => Sys2Proof.Machine.execTuneRequest j value h s
  | .identRunEnd j => Sys2Proof.Machine.execIdentRunEnd j s
  | .tuneFitDone j => Sys2Proof.Machine.execTuneFitDone j s
  | .traceTriggerNow h => Sys2Proof.Machine.execTraceTriggerNow h s
  | .planningBoundary => Sys2Proof.Machine.execPlanningBoundary s
  | .moveJoint m h => Sys2Proof.Machine.execMoveJoint m h s
  | .moveLinear m h => Sys2Proof.Machine.execMoveLinear m h s
  | .coopMove m h => Sys2Proof.Machine.execCoopMove m h s
  | .hold m h => Sys2Proof.Machine.execHold m h s
  | .resume m h => Sys2Proof.Machine.execResume m h s
  | .cancel m h => Sys2Proof.Machine.execCancel m h s
  | .groupEngage g value h => Sys2Proof.Machine.execGroupEngage g value h s
  | .assemblyDone a => Sys2Proof.Machine.execAssemblyDone a s
  | .solveEnd a => Sys2Proof.Machine.execSolveEnd a s
  | .solverDeadline a iterates => Sys2Proof.Machine.execSolverDeadline a iterates s
  | .interpolatorSegmentsWritten => Sys2Proof.Machine.execInterpolatorSegmentsWritten s
  | .pointPacket n v6 addr udp octets at_ => Sys2Proof.Machine.execPointPacket n v6 addr udp octets at_ s
  | .windowAcceptanceClose => Sys2Proof.Machine.execWindowAcceptanceClose s
  | .mapUpdateEnd => Sys2Proof.Machine.execMapUpdateEnd s
  | .separationComplete => Sys2Proof.Machine.execSeparationComplete s
  | .separationLate => Sys2Proof.Machine.execSeparationLate s
  | .voxelBuilderRun => Sys2Proof.Machine.execVoxelBuilderRun s
  | .safetyCycleBoundary => Sys2Proof.Machine.execSafetyCycleBoundary s
  | .telegramCollectionClose => Sys2Proof.Machine.execTelegramCollectionClose s
  | .channelADecision => Sys2Proof.Machine.execChannelADecision s
  | .channelBDecision => Sys2Proof.Machine.execChannelBDecision s
  | .decisionCompare mismatch => Sys2Proof.Machine.execDecisionCompare mismatch s
  | .safetyMarker interval => Sys2Proof.Machine.execSafetyMarker interval s
  | .xaEdgeTimeout => Sys2Proof.Machine.execXaEdgeTimeout s
  | .xbEdgeTimeout => Sys2Proof.Machine.execXbEdgeTimeout s
  | .outputFrameTimeout => Sys2Proof.Machine.execOutputFrameTimeout s
  | .channelInternalFault chB => Sys2Proof.Machine.execChannelInternalFault chB s
  | .tstopElapsed a => Sys2Proof.Machine.execTstopElapsed a s
  | .degradedTimerExpiry => Sys2Proof.Machine.execDegradedTimerExpiry s
  | .hostStopRequest a value h => Sys2Proof.Machine.execHostStopRequest a value h s
  | .armAcknowledge mask h => Sys2Proof.Machine.execArmAcknowledge mask h s
  | .brakeTestRequest value h => Sys2Proof.Machine.execBrakeTestRequest value h s
  | .brakeTestPhaseEnd => Sys2Proof.Machine.execBrakeTestPhaseEnd s
  | .brakeTestDue j => Sys2Proof.Machine.execBrakeTestDue j s
  | .brakeAgeStore => Sys2Proof.Machine.execBrakeAgeStore s
  | .inputFilterChange line level => Sys2Proof.Machine.execInputFilterChange line level s
  | .discrepancyFault n => Sys2Proof.Machine.execDiscrepancyFault n s
  | .testPulseStart k => Sys2Proof.Machine.execTestPulseStart k s
  | .testPulseEnd k high si => Sys2Proof.Machine.execTestPulseEnd k high si s
  | .edmTimeout n => Sys2Proof.Machine.execEdmTimeout n s
  | .bindingWatchdogExpiry b => Sys2Proof.Machine.execBindingWatchdogExpiry b s
  | .safeObjectWrite session => Sys2Proof.Machine.execSafeObjectWrite session s
  | .safetyConfirm value h => Sys2Proof.Machine.execSafetyConfirm value h s
  | .discardPending h => Sys2Proof.Machine.execDiscardPending h s
  | .commitComplete ok => Sys2Proof.Machine.execCommitComplete ok s
  | .moveAbs k target h => Sys2Proof.Machine.execMoveAbs k target h s
  | .moveRel k distance h => Sys2Proof.Machine.execMoveRel k distance h s
  | .jogPos k h => Sys2Proof.Machine.execJogPos k h s
  | .jogNeg k h => Sys2Proof.Machine.execJogNeg k h s
  | .axisStop k h => Sys2Proof.Machine.execAxisStop k h s
  | .home k h => Sys2Proof.Machine.execHome k h s
  | .halt k h => Sys2Proof.Machine.execHalt k h s
  | .profileTick k us => Sys2Proof.Machine.execProfileTick k us s
  | .switchFilterChange k which active edge => Sys2Proof.Machine.execSwitchFilterChange k which active edge s
  | .standstillDelayExpiry k => Sys2Proof.Machine.execStandstillDelayExpiry k s
  | .pwmPeriodStart g => Sys2Proof.Machine.execPwmPeriodStart g s
  | .dutyWrite g p value h => Sys2Proof.Machine.execDutyWrite g p value h s
  | .tripInputActive t => Sys2Proof.Machine.execTripInputActive t s
  | .calibrationMeasure ok => Sys2Proof.Machine.execCalibrationMeasure ok s
  | .feedbackEdge n a b at_ => Sys2Proof.Machine.execFeedbackEdge n a b at_ s
  | .indexEdge n => Sys2Proof.Machine.execIndexEdge n s
  | .speedWindowEnd n => Sys2Proof.Machine.execSpeedWindowEnd n s
  | .canFrameReceived n frame at_ => Sys2Proof.Machine.execCanFrameReceived n frame at_ s
  | .transmitRequest n mask h => Sys2Proof.Machine.execTransmitRequest n mask h s
  | .busFreeArbitration n => Sys2Proof.Machine.execBusFreeArbitration n s
  | .canTransmissionEnd n outcome lec exempt delay => Sys2Proof.Machine.execCanTransmissionEnd n outcome lec exempt delay s
  | .busOffRecoveryComplete n => Sys2Proof.Machine.execBusOffRecoveryComplete n s
  | .recoveryRequest n h => Sys2Proof.Machine.execRecoveryRequest n h s
  | .busIntegrationDone n => Sys2Proof.Machine.execBusIntegrationDone n s
  | .linkUp n => Sys2Proof.Machine.execLinkUp n s
  | .linkDown n => Sys2Proof.Machine.execLinkDown n s
  | .arpRequest n senderMac senderIp target at_ => Sys2Proof.Machine.execArpRequest n senderMac senderIp target at_ s
  | .neighbourSolicitation n source target at_ => Sys2Proof.Machine.execNeighbourSolicitation n source target at_ s
  | .echoRequest n v6 source target body at_ => Sys2Proof.Machine.execEchoRequest n v6 source target body at_ s
  | .ptpMessage n m at_ => Sys2Proof.Machine.execPtpMessage n m at_ s
  | .delayReqTimer n at_ => Sys2Proof.Machine.execDelayReqTimer n at_ s
  | .pdelayReqTimer n at_ => Sys2Proof.Machine.execPdelayReqTimer n at_ s
  | .loopbackTestFrame n intact => Sys2Proof.Machine.execLoopbackTestFrame n intact s
  | .bazaarAccess bank portB cycle moved requests => Sys2Proof.Machine.execBazaarAccess bank portB cycle moved requests s
  | .lockRequest r line cycle => Sys2Proof.Machine.execLockRequest r line cycle s
  | .lockGrant line cycle => Sys2Proof.Machine.execLockGrant line cycle s
  | .unlock r cycle => Sys2Proof.Machine.execUnlock r cycle s
  | .holdCutOff cycle => Sys2Proof.Machine.execHoldCutOff cycle s
  | .fabricStatusClear mask h => Sys2Proof.Machine.execFabricStatusClear mask h s
  | .ledgerRecordWrite => Sys2Proof.Machine.execLedgerRecordWrite s
  | .flashProgrammingDone ok => Sys2Proof.Machine.execFlashProgrammingDone ok s
  | .activate h => Sys2Proof.Machine.execActivate h s
  | .confirm h => Sys2Proof.Machine.execConfirm h s
  | .reject h => Sys2Proof.Machine.execReject h s
  | .keySlotWrite session => Sys2Proof.Machine.execKeySlotWrite session s
  | .attestationChallenge session => Sys2Proof.Machine.execAttestationChallenge session s
  | .signatureComplete => Sys2Proof.Machine.execSignatureComplete s
  | .transitionRequest session => Sys2Proof.Machine.execTransitionRequest session s
  | .lifeCycleTransition => Sys2Proof.Machine.execLifeCycleTransition s
  | .returnAuthorisation session => Sys2Proof.Machine.execReturnAuthorisation session s
  | .actvIChange level => Sys2Proof.Machine.execActvIChange level s
  | .claimDelayExpiry => Sys2Proof.Machine.execClaimDelayExpiry s
  | .actingBegin => Sys2Proof.Machine.execActingBegin s
  | .actingRelease => Sys2Proof.Machine.execActingRelease s
  | .armedTimeout => Sys2Proof.Machine.execArmedTimeout s
  | .measureRequest h => Sys2Proof.Machine.execMeasureRequest h s
  | .switchoverTestRequest h => Sys2Proof.Machine.execSwitchoverTestRequest h s
  | .testWindowEnd => Sys2Proof.Machine.execTestWindowEnd s
  | .returnHoldExpiry => Sys2Proof.Machine.execReturnHoldExpiry s
  | .interlockFault => Sys2Proof.Machine.execInterlockFault s
  | .tapReset => Sys2Proof.Machine.execTapReset s
  | .extest value => Sys2Proof.Machine.execExtest value s
  | .idcode => Sys2Proof.Machine.execIdcode s
  | .samplePreload value => Sys2Proof.Machine.execSamplePreload value s
  | .clamp => Sys2Proof.Machine.execClamp s
  | .highz => Sys2Proof.Machine.execHighz s
  | .extestPulse value => Sys2Proof.Machine.execExtestPulse value s
  | .extestTrain value => Sys2Proof.Machine.execExtestTrain value s
  | .bypass => Sys2Proof.Machine.execBypass s
  | .flashProg => Sys2Proof.Machine.execFlashProg s
  | .flashSetOffset offset => Sys2Proof.Machine.execFlashSetOffset offset s
  | .flashWriteWord word => Sys2Proof.Machine.execFlashWriteWord word s
  | .flashReadWord => Sys2Proof.Machine.execFlashReadWord s
  | .flashEraseSector offset => Sys2Proof.Machine.execFlashEraseSector offset s
  | .flashNoOperation => Sys2Proof.Machine.execFlashNoOperation s
  | .receiveSyncGained n east => Sys2Proof.Machine.execReceiveSyncGained n east s
  | .secondsCarry => Sys2Proof.Machine.execSecondsCarry s
  | .ppsOutPulseEnd => Sys2Proof.Machine.execPpsOutPulseEnd s
  | .safetyIoSample si ed rba rbb => Sys2Proof.Machine.execSafetyIoSample si ed rba rbb s
  | .tripInputInactive t => Sys2Proof.Machine.execTripInputInactive t s
  | .canReceiveError n lec heavy => Sys2Proof.Machine.execCanReceiveError n lec heavy s
  | .hostFrameDiscarded n => Sys2Proof.Machine.execHostFrameDiscarded n s
  | .modulePresenceChange n absent los => Sys2Proof.Machine.execModulePresenceChange n absent los s
  | .flashOperationComplete => Sys2Proof.Machine.execFlashOperationComplete s

end Sys2Proof.Machine
end

