-- ==== Sys2Proof/Machine/Step.lean ====
section
/-! DEFINITION. The step of the block: the command at the front of the queue, or a tick of the clocks when none waits. -/

namespace Sys2Proof.Machine

/-- What an empty queue does: the clocks move on by one tick of 2 ns (R273; DESIGN CHOICE, assumption log 4). -/
def State.idle (s : State) : State := s.advanceTo (s.time.ringNs + 2)

/-- One step: the command at the front of the queue acts on the state with the queue's rest. -/
def step (s : State) : Host.Outcome State Fault Refusal :=
  match s.pending with
  | [] => .next s.idle
  | c :: r => exec c { s with pending := r }

/-- The state with the command that a word of the table spells put at the front of its queue; no row of the table gives bits, so
no word spells one. -/
def State.withFetchWord (s : State) (nbits w : Nat) : State :=
  match decodeTableWord nbits w with
  | some c => { s with pending := c :: s.pending }
  | none => s

end Sys2Proof.Machine
end

