-- ==== Sys2Proof/Safety.lean ====
section
/-! DEFINITION. What claims are stated in: completion of a command, canonical memories, the relations between the supply and
reset levels, and a request that passes the checks of spec/03_object_dictionary.md Table 03-11. -/

namespace Sys2Proof.Machine

/-- The command completes: `exec` answers a next state, and `p` holds of it. -/
def Runs (c : Instr) (s : State) (p : State → Prop) : Prop := ∃ t, exec c s = .next t ∧ p t

/-- Every element of the list is below the next one by `lt`. -/
def risingBy {α : Type} (lt : α → α → Bool) : List α → Bool
  | [] => true
  | [_] => true
  | a :: b :: r => lt a b && risingBy lt (b :: r)

/-- Canonical form of a memory of words: addresses strictly rising, no word equal to what an unlisted address reads as. -/
def Memory.wordsWf (m : Words) : Bool := risingBy (fun a b => decide (a < b)) (m.map (·.1)) && m.all fun e => e.2 != 0

/-- Canonical form of the flash: addresses strictly rising, no octet equal to the erased value. -/
def Memory.flashWf (m : List Host.Cell) : Bool :=
  risingBy (fun a b => decide (a < b)) (m.map (·.1)) && m.all fun e => e.2 != 0xFF#8

/-- Names of a store of objects strictly rising. -/
def Memory.namesWf (m : List ((Nat × Nat) × Octets)) : Bool := risingBy keyLt (m.map (·.1))

/-- Canonical form of the memories of the block: the Bazaar, the voxel map, the xSPI flash, the objects with their MRAM
copies. -/
def Memory.wf (s : State) : Bool :=
  Memory.wordsWf s.fab.mem && Memory.wordsWf s.per.map && Memory.flashWf s.fw.flash && Memory.namesWf s.dict.store &&
  Memory.namesWf s.dict.copyA.image && Memory.namesWf s.dict.copyB.image && Memory.namesWf (s.dict.storing.getD [])

/-- What always holds between the supplies, the resets and the power mode (R60 to R68, R72, R75, R79, R82 to R86). -/
structure Power.Sound (p : Power) : Prop where
  /-- The companion die holds the main die in reset. -/
  companion : p.compReset = true → p.mainReset = true ∧ p.pgFails = 0 ∧ p.retry = false ∧ p.releasing = false
  device : p.deviceReset = true → p.mainReset = true
  /-- In main reset nothing runs and both reset outputs are low. -/
  held : p.mainReset = true →
    p.pllLocked = false ∧ p.mgmtUp = false ∧ p.resetOutHigh = false ∧ p.xspiResetHigh = false
  /-- The management processor runs only with locked PLLs. -/
  order : p.mgmtUp = true → p.pllLocked = true
  powered : p.mainReset = false → p.pwrEn = true
  release : p.releasing = true → p.mainReset = true ∧ p.pwrEn = true ∧ p.pgood = true ∧ p.compReset = false
  /-- In MAIN_OFF the main die is unpowered and no attempt follows. -/
  off : p.mode = 3 →
    p.mainReset = true ∧ p.pwrEn = false ∧ p.retry = false ∧ p.compReset = false ∧ p.deviceReset = false
  waiting : p.retry = true → p.pwrEn = false ∧ p.compReset = false ∧ p.pgFails < 3
  attempts : p.pgFails ≤ 3 ∧ (p.pwrEn = true → p.pgFails < 3)
  modes : p.mode ≤ 4 ∧ p.wakeTo ≤ 1

/-- What every reset leaves of the main die in state `t`, from state `s` (R69, R72, R73, R75, R274): nothing runs, every SO output
is off, ACTV_O is low; MRAM, the Ledger's records, the flash and the test access port are as they were. -/
structure MainCleared (s t : State) : Prop where
  functions : ∀ f : Fn, t.fn f = ⟨.stopped, 0⟩
  outputs : t.saf.soA = 0#8 ∧ t.saf.soB = 0#8
  passive : t.pair.actvO = false ∧ t.pair.acting = false
  sessions : t.dict.sessions = []
  objects : ∀ idx sub : Nat, t.obj idx sub = dfltOctets idx sub
  clocks : t.time = TimeBase.initial
  vault : ∀ k ∈ t.sec.keys, k = none
  bazaar : t.fab.mem = []
  levels : t.power.mainReset = true ∧ t.power.resetOutHigh = false ∧ t.power.xspiResetHigh = false ∧
    t.power.mgmtUp = false ∧ t.power.mode = 0
  mram : t.sec.stored = s.sec.stored ∧ t.dict.copyA.image = s.dict.copyA.image ∧ t.dict.copyB.image = s.dict.copyB.image ∧
    t.saf.set.copyA = s.saf.set.copyA ∧ t.saf.set.copyB = s.saf.set.copyB ∧ t.ledger.records = s.ledger.records
  flash : t.fw.flash = s.fw.flash ∧ t.fw.slots = s.fw.slots
  tap : t.tap = s.tap
  queue : t.pending = s.pending

/-- How many of everything there are (Table 00-3, Table 03-4, Table 07-3): the lists of the state have these lengths, and ring
time is a whole number of ticks (R273). -/
structure State.Shaped (s : State) : Prop where
  fns : s.fns.length = Fn.count
  clock : s.time.ringNs % 2 = 0 ∧ s.time.ns < 1000000000 ∧ s.time.sub < 2 ^ 48
  rings : s.rings.length = 4
  joints : s.joints.length = 96
  ports : s.ports.length = 2
  cans : s.cans.length = 4
  engines : s.le.engines.length = 16
  positions : s.way.positions.length = 112
  axes : s.aux.axes.length = 16
  groups : s.aux.groups.length = 8
  feedbacks : s.aux.feedbacks.length = 16
  arms : s.plan.arms.length = 12
  problems : s.plan.problems.length = 12
  q : s.pair.q.length = 4
  bindings : s.saf.bindings.length = 104
  channels : s.saf.chA.arms.length = 12 ∧ s.saf.chB.arms.length = 12
  stops : s.saf.hostStop.length = 12
  tolerant : s.saf.disagree.length = 36 ∧ s.saf.tolerated.length = 12 ∧ s.saf.joints.length = 96
  brakes : s.saf.brakeFail.length = 12 ∧ s.saf.brakePassed.length = 12
  samples : s.saf.io.runs.length = 40 ∧ s.saf.io.disc.length = 16 ∧ s.saf.io.since.length = 16 ∧ s.saf.io.lows.length = 16 ∧
    s.saf.io.pairSince.length = 8
  ages : s.saf.ages.length = 96 ∧ s.saf.agesStored.length = 96
  counts : ∀ p ∈ s.ports, p.counts.length = 8 ∧ ∀ c ∈ p.counts, c < 2 ^ 32
  windows : ∀ w ∈ s.per.windows, w.counts.length = 8
  ringLists : ∀ r ∈ s.rings, r.errors.length = 4 ∧ r.strays.length = 32 ∧ r.delays.length = 32 ∧ r.tracking.seen.length = 32

/-! ### Frames -/

/-- The state with the clocks, the Waystation, the Ledger and the trace unit taken out: what the passing of time, an event, an
item or a record touches. `t.core = s'.core` says that `t` is `s'` everywhere else. -/
def State.core (s : State) : State :=
  { s with time := TimeBase.initial, way := Waystation.initial, ledger := Ledger.initial, trace := Trace.initial }

/-- The same with the model's counter of free values taken out. -/
def State.rest (s : State) : State := { s.core with free := 0 }

/-- The Bazaar with the words of offsets from `a` up to `b` left out. -/
def Fabric.without (f : Fabric) (a b : Nat) : Fabric := { f with mem := f.mem.filter fun e => decide (8 * e.1 < a) || decide (b ≤ 8 * e.1) }

/-- The same as `rest` with the fixed regions of the Bazaar taken out, where the buffers of items lie (Table 17-2). -/
def State.calm (s : State) : State := { s.rest with fab := s.fab.without 0 0x600000 }

/-- Every word of the Bazaar that has no octet in [off, off + len) reads as before. -/
def Spared (s t : State) (off len : Nat) : Prop :=
  ∀ w : Nat, 8 * w + 8 ≤ off ∨ off + len ≤ 8 * w → wordAt t.fab.mem w = wordAt s.fab.mem w

/-- Item `it` of a hardware source stands in a flow or is held, its buffer has been written, and no other word of the Bazaar (R22,
R294, R320). -/
def Handed (s t : State) (it : Item) : Prop :=
  it ∈ t.way.queue.map (·.item) ++ t.way.held ∧
  (it.buffer ≠ 0xFFFFFFFF → t.bazOctets it.buffer it.payload.length = it.payload ∧ Spared s t it.buffer it.payload.length)

/-- An item of a hardware source with this content has entered its flow, or is held for it. -/
def Posted (s t : State) (flow origin : Nat) (payload : Octets) : Prop :=
  ∃ it, Handed s t it ∧ it.flow = flow ∧ it.origin = origin ∧ it.payload = payload

/-- Item `it` has joined the queue: in its flow behind every item that was posted earlier, or in this control cycle with no higher
rank, and at the end where nothing of its flow comes after it (R294, R299). -/
def Joins (s t : State) (it : Item) : Prop :=
  (t.way.queue.map (·.item)).Perm (s.way.queue.map (·.item) ++ [it]) ∧
  ((∀ q ∈ s.way.queue, q.item.flow = it.flow →
      q.cycle < t.controlCycle ∨ (q.cycle = t.controlCycle ∧ q.rank ≤ 4 + it.origin)) →
    t.way.queue.map (·.item) = s.way.queue.map (·.item) ++ [it])

/-- An item as it joins a flow: one that no pannier made takes its cycle from the board reference ring (R346). -/
def State.stamped (s : State) (it : Item) : Item :=
  if 0x800 ≤ it.origin ∧ it.origin < 0xA00 then it else { it with cyc := s.boardCycle }

/-- This unit runs ring `n` as its master: STARTING or RUNNING, acting, the clocks up (R221, R780, R783). -/
def State.sendsOn (s : State) (n : Nat) : Prop :=
  s.isActive (.ring n) = true ∧ s.masters n = true ∧ s.time.ticking = true ∧ s.power.ringPllIdle = false

/-- The event's pending bit is set (R324). -/
def State.raised (s : State) (ev : Nat) : Prop := s.way.pend.getLsbD ev = true

/-- The Regulator's value in units of 2⁻⁴⁸ ns (R271). -/
def TimeBase.total (t : TimeBase) : Nat := (t.sec * 1000000000 + t.ns) * 2 ^ 48 + t.sub

/-- Every OSSD output is off. -/
def State.allOff (s : State) : Prop := s.saf.soA = 0#8 ∧ s.saf.soB = 0#8

/-! ### Loop-engine instructions -/

/-- Accumulators that the moves of an instruction load: 1 A, 2 B (Table 08-6). -/
def LeOp.loads : LeOp → Nat
  | .imm dst _ _ => accOf dst
  | .abs _ store reg _ => if store then 0 else accOf reg
  | .ind _ store reg _ _ => if store then 0 else accOf reg
  | .mov dst _ => accOf dst
  | .get dst _ _ _ _ => accOf dst
  | .alu _ _ _ x y =>
    (match x with | some p => if p.store then 0 else accOf (parReg false p.reg) | none => 0) |||
    (match y with | some p => if p.store then 0 else accOf (parReg true p.reg) | none => 0)
  | _ => 0

/-- The words that an instruction reads: Y memory or X memory, and the address. -/
def LeOp.reads (v : RegBank) : LeOp → List (Bool × Nat)
  | .abs y store _ a => if store then [] else [(y, a)]
  | .ind y store _ ptr _ => if store then [] else [(y, (nth v.pV ptr 0#14).toNat)]
  | .alu _ _ _ x y =>
    (match x with | some p => if p.store then [] else [(false, (nth v.pV p.ptr 0#14).toNat)] | none => []) ++
    (match y with | some p => if p.store then [] else [(true, (nth v.pV (4 + p.ptr) 0#14).toNat)] | none => [])
  | .ftap _ _ i j => [(false, (nth v.pV i 0#14).toNat), (true, (nth v.pV j 0#14).toNat)]
  | .post _ _ ptr => (List.range 4).map fun i => (false, (nth v.pV ptr 0#14).toNat + i)
  | _ => []

/-- A word of scratch that the item has not written (R343). -/
def Exec.unwritten (x : Exec) (r : Bool × Nat) : Prop :=
  let a := r.2 % 2 ^ 14
  if r.1 then 0x3C00 ≤ a ∧ a < 0x3FC0 ∧ a ∉ x.wroteY else 0x3000 ≤ a ∧ a < 0x3C00 ∧ a ∉ x.wroteX

/-- Engine `k` issues `op` for the item `x`: the engines run, the item is filled, not halted and below the execution limit, no debug
halt waits, it runs no vendor law, and the program holds `op` at its program counter (R366 to R376). -/
structure Issuing (s : State) (k : Fin 16) (x : Exec) (op : LeOp) : Prop where
  shaped : s.Shaped
  cur : (s.engine k).cur = some x
  active : s.leActive = true
  going : (s.engine k).halted = false
  filled : x.filled = true
  limit : x.regs.cycles < s.le.limit
  law : vendorLaw x.law = false
  fetched : fetchLe s.le.prog x.regs.pc = some op
  noHalt : (s.engine k).haltDue = false

/-- Engine `k` issues `op`, and `op` makes no construction of Table 08-6 (R368). -/
structure Issues (s : State) (k : Fin 16) (x : Exec) (op : LeOp) : Prop extends Issuing s k x op where
  legal : hostError x.regs op op.loads s.le.prog = false
  fresh : ∀ r ∈ op.reads x.regs, ¬ x.unwritten r

/-- The registers that a program can name, as the last instruction left them: A, B, X0, X1, Y0, Y1, P, N, M, SR (Table 08-2). -/
def RegBank.file (r : RegBank) :
    (BitVec 56 × BitVec 56) × (BitVec 24 × BitVec 24 × BitVec 24 × BitVec 24) ×
    (List (BitVec 14) × List (BitVec 14) × List (BitVec 14)) × BitVec 24 :=
  ((r.a, r.b), (r.x0, r.x1, r.y0, r.y1), (r.p, r.n, r.m), r.sr)

/-- The bank stands outside every delay slot, repetition and LOOP body. -/
def RegBank.plain (r : RegBank) : Prop := r.slots = 0 ∧ r.rep ≤ 1 ∧ r.loops = []

/-- After the instruction the same item goes on in the same bank of engine `k` as `y`, its cycles counted, and nothing but that
bank and the engine's scratch memories has changed outside the Waystation, the Ledger and the trace unit. -/
structure Went (s : State) (k : Fin 16) (x : Exec) (op : LeOp) (t : State) (y : Exec) : Prop where
  engine : t.engine k = { (s.engine k).onCur (fun _ => y) with scrX := (t.engine k).scrX, scrY := (t.engine k).scrY }
  same : y.item = x.item ∧ y.ctxLen = x.ctxLen ∧ y.law = x.law ∧ y.filled = true
  cycles : y.regs.cycles = x.regs.cycles + op.cycles
  frame : t.core = (s.onEngine k fun _ => t.engine k).core

/-- The engine's scratch memories, the item's context and its out image are as they were. -/
def Kept (s : State) (k : Fin 16) (x : Exec) (t : State) (y : Exec) : Prop :=
  (t.engine k).scrX = (s.engine k).scrX ∧ (t.engine k).scrY = (s.engine k).scrY ∧ y.ctx = x.ctx ∧ y.out = x.out

/-- Execution goes on with the instruction that follows. -/
def Follows (x : Exec) (op : LeOp) (y : Exec) : Prop :=
  x.regs.plain → y.regs.pc = (x.regs.pc + op.words) % 8192 ∧ y.regs.plain

/-- An accumulator: B when `d`, else A. -/
def RegBank.acc (r : RegBank) (d : Bool) : Int := (if d then r.b else r.a).toInt

/-- N, Z, V, C and W of a result of exact value `r` with carry `c`, saturated to 56 bits (R359, R363, R824). -/
def flagsOf (y : RegBank) (r : Int) (c : Bool) : Prop :=
  let q := satSigned 56 r
  bitAt y.sr.toNat 4 = decide (q < 0) ∧ bitAt y.sr.toNat 3 = decide (q = 0) ∧ bitAt y.sr.toNat 2 = decide (q ≠ r) ∧
  bitAt y.sr.toNat 1 = c ∧ bitAt y.sr.toNat 6 = !fitsQ23 q ∧ (q ≠ r → bitAt y.sr.toNat 7 = true)

/-! ### A request that passes the checks -/

/-- The state in which a request's header is checked: the clocks at its arrival, the frame counted by its port. -/
def State.arrived (s : State) (h : Hdr) : State := ((s.advanceTo h.at_).heard h.src).1

/-- The request on its way to the management processor, and whether it is taken there at once: through a position of its own, or
with no Waystation RUNNING (R21, R302; assumption log 69). -/
def State.carried (s : State) (r : Req) : State × Bool := (s.arrived r.h).carry r.h.src r.received r.h.at_

/-- The request reaches the management processor at its arrival. -/
structure Reaches (s : State) (r : Req) : Prop where
  taken : ((s.advanceTo r.h.at_).heard r.h.src).2 = true
  through : (s.carried r).2 = true

/-- The request passes steps 1 to 5 of Table 03-11 in session `x`. -/
structure Admitted (s : State) (r : Req) (x : Session) : Prop where
  reaches : Reaches s r
  version : r.h.version = 1
  opcode : r.op ∈ requestOpcodes
  length : r.h.len = r.data.length
  fits : r.data.length ≤ (if r.h.src.port < 2 then 1028 else 32)
  found : (s.arrived r.h).session r.h.session = some x
  endpoint : x.src = r.h.src
  tag : r.h.tag = reqTag x.key r.octets
  last : x.lastSeq ≠ 0xFFFFFFFF
  next : r.h.seq = x.lastSeq + 1
  own : ((s.arrived r.h).recent x.reqAt).length < 2000
  all : ((s.arrived r.h).recent (s.arrived r.h).dict.reqAt).length < 10000

/-- The state in which steps 6 and after look at an admitted request: its number is consumed and its time counted. -/
def State.served (s : State) (r : Req) (x : Session) : State :=
  let a := (s.carried r).1
  a.onDict fun d => { d with
    sessions := d.sessions.map fun y => if y.id = x.id then
      { y with confirmed := true, lastSeq := r.h.seq, lastReq := r.octets ++ r.h.tag, lastRsp := [], latch := none,
               reqAt := a.recent x.reqAt ++ [a.time.ringNs] } else y
    reqAt := a.recent d.reqAt ++ [a.time.ringNs] }

/-- A WRITE passes all its checks in session `x`. -/
structure Granted (s : State) (h : Hdr) (idx sub : Nat) (v : Octets) (x : Session) : Prop where
  admitted : Admitted s (writeReq h idx sub v) x
  passes : (s.served (writeReq h idx sub v) x).writeRefused x idx sub v = none

/-- The state with what the arrival of a request and its response touch taken out: the clocks, the Waystation, the Ledger, the
trace unit, sessions and responses, the host ports, the CAN controllers, the management buffers of the Bazaar in which a message
lies (Table 17-2), and the counter of free values. What a statement says of `plant` it says of every function state, of the supplies,
the objects and every other unit and memory. -/
def State.plant (s : State) : State :=
  { s with
    time := TimeBase.initial, way := Waystation.initial, ledger := Ledger.initial, trace := Trace.initial, ports := [], cans := [], free := 0
    fab := s.fab.without 0x100000 0x200000
    dict := { s.dict with sessions := [], reqAt := [], lastReply := none } }

/-- A message of a session with its tag (R120). -/
def tagged (x : Session) (o : Octets) : Octets := o ++ rspTag x.key o

/-- The last response is the session's, with an opcode and data, under its tag (R107, R108, R120). -/
def Answered (r : Req) (x : Session) (op : Nat) (data : Octets) (t : State) : Prop :=
  t.dict.lastReply = some ⟨x.src, tagged x (r.answer x.id op 0 data)⟩

/-- A refusal at steps 1 to 3: 0xFF, the abort code, a tag of zeros (R117). -/
def bareAnswer (r : Req) (code : Nat) : Octets := r.answer r.h.session 0xFF 0 (toLE 4 code) ++ zeros 16

/-- The request got such a refusal: no session, no object and no unit has changed. -/
def BareRefusal (s : State) (r : Req) (code : Nat) (t : State) : Prop :=
  t.dict.lastReply = some ⟨r.h.src, bareAnswer r code⟩ ∧ t.dict.sessions = s.dict.sessions ∧ t.plant = s.plant

/-- A write whose content check has ended: its transfer is closed and the response to its final segment has left (R112). -/
def Finished (x : Session) (tr : Transfer) (op : Nat) (data : Octets) (t : State) : Prop :=
  t.dict.lastReply = some ⟨x.src, tagged x (message 1 op x.id tr.finalSeq 0 0 0 data.length 0 data)⟩ ∧
  ∃ y, t.session x.id = some y ∧ y.xfer = none

end Sys2Proof.Machine
end

