-- ==== Sys2Proof/Certificates/Slice0/Obligations.lean ====
section
/-! DEFINITION. The statements about the block. Each is stated over `exec` or `step`; a clause `Runs c s p` says that the command
completes and that `p` holds of the next state. -/

section

open Sys2Proof Sys2Proof.Machine


/-! ### The queue, reset, supplies -/

/-- A step takes the command at the front of the queue and runs it on the state with the queue's rest (00 Scope). -/
def Obligations.StepTakesFrontCommand : Prop :=
  ∀ (s : State) (c : Instr) (r : List Instr), s.pending = c :: r → step s = exec c { s with pending := r }

/-- Ring time counts 2 ns a tick, on an empty queue too, the Regulator its increment; pairs latch at whole milliseconds, a carry raises TB_PPS_OUT (R273, R274, R271, R275, R277, R278, R284, R287).
Rests on choices of the model: assumption logs 4, 5. -/
def Obligations.ClocksTickCountPairsAndCarry : Prop :=
  (
    (∀ s : State, s.pending = [] → s.time.ticking = false → step s = .next s) ∧
    (∀ s : State, s.pending = [] → s.time.ticking = true → s.time.pendStep = none →
      ∃ b : TimeBase, step s = .next { s with time := b } ∧ b.ringNs = s.time.ringNs + 2 ∧ b.ticking = true ∧
        b.mode = s.time.mode ∧ b.disc = s.time.disc)
  ) ∧ (
    (∀ s : State, s.Shaped → s.time.ticking = true → s.time.pendStep = none →
      Runs .timePairLatch s fun t => t = { s with time := t.time } ∧
        t.time.ringNs = (s.time.ringNs / 1000000 + 1) * 1000000 ∧ t.time.pairRing = t.time.ringNs ∧
        t.time.pairSec = t.time.sec ∧ t.time.pairNs = t.time.ns ∧ t.time.inc = s.time.pendInc.getD s.time.inc ∧
        t.time.total = s.time.total + (t.time.ringNs - s.time.ringNs) / 2 * t.time.inc) ∧
    (∀ s : State, s.Shaped → s.time.ticking = true → s.time.pendStep = none → s.time.pendInc = none → 0 < s.time.inc →
      s.time.inc < 2 ^ 64 → Runs .secondsCarry s fun t => t = { s with time := t.time } ∧ t.time.sec = s.time.sec + 1 ∧
        t.time.ppsOut = true ∧ t.time.total < t.time.sec * 1000000000 * 2 ^ 48 + s.time.inc ∧
        t.time.total = s.time.total + (t.time.ringNs - s.time.ringNs) / 2 * s.time.inc) ∧
    (∀ s : State, exec .ppsOutPulseEnd s = .next { s with time := { s.time with ppsOut := false } }) ∧
    (∀ (s : State) (a b c : Nat), s.pending = [] → s.Shaped → s.time.ticking = true →
      s.time.pendStep = some (a, b, c) → b < 1000000000 → c < 2 ^ 48 →
      ∃ t, step s = .next t ∧ t.core = s.core ∧ t.raised 18 ∧ t.time.sec = a ∧ t.time.ns = b ∧ t.time.sub = c ∧
        t.time.ringNs = s.time.ringNs + 2 ∧ t.time.pairSec = a ∧ t.time.pairNs = b ∧ t.time.pairRing = t.time.ringNs ∧
        t.time.inc = s.time.pendInc.getD s.time.inc ∧ t.time.pendStep = none ∧ t.time.pendInc = none)
  )

/-- After power-on every function is STOPPED without a fault, both dies are in reset, MAIN_PWR_EN and ACTV_O are low and every SO output is off (R67, R69, R71, R73, R75, R274). -/
def Obligations.ResetLeavesFunctionsStopped : Prop :=
  (∀ f : Fn, State.reset.fn f = ⟨.stopped, 0⟩) ∧ State.reset.power.cause = 1 ∧ State.reset.power.compReset = true ∧
  State.reset.power.mainReset = true ∧ State.reset.power.pwrEn = false ∧ State.reset.power.resetOutHigh = false ∧
  State.reset.power.xspiResetHigh = false ∧ State.reset.saf.soA = 0#8 ∧ State.reset.saf.soB = 0#8 ∧
  State.reset.pair.actvO = false ∧ State.reset.dict.sessions = [] ∧ State.reset.time.ticking = false ∧
  State.reset.time.ringNs = 0 ∧ State.reset.time.sec = 0 ∧ State.reset.time.ns = 0 ∧
  (∀ idx sub : Nat, State.reset.obj idx sub = dfltOctets idx sub) ∧ State.reset.pending = []

/-- Every step keeps the relations of supplies, resets and power mode, the canonical memories and the state's shape, and takes one command at most (R57, R60, R62, R63, R64, R66, R68, R70, R72, R75, R82, R86). -/
def Obligations.StepKeepsMachineSound : Prop :=
  ∀ s t : State, s.power.Sound → Memory.wf s = true → s.Shaped → step s = .next t →
    t.power.Sound ∧ Memory.wf t = true ∧ t.Shaped ∧ t.pending = s.pending.tail

/-- The machine right after reset meets the relations of supplies and resets, its memories are canonical and its lists have their lengths (R60, R64, R72). -/
def Obligations.ResetIsSound : Prop :=
  State.reset.power.Sound ∧ Memory.wf State.reset = true ∧ State.reset.Shaped

/-- No command stops the machine: exec answers a next state for every command in every state, and so does step (00 Scope, 01 Architecture). -/
def Obligations.EveryCommandAnswersANextState : Prop :=
  (∀ (c : Instr) (s : State), ∃ t, exec c s = .next t) ∧ ∀ s : State, ∃ t, step s = .next t

/-- Power-up: companion release, power-good timeout and retry, MAIN_PGOOD, main die release, PLL lock, SRAM clear, RESET_OUT_L (R60, R62, R63, R68, R72, R75, R79, R274).
Rests on choices of the model: assumption logs 6, 29. -/
def Obligations.PowerUpSequence : Prop :=
  (∀ s : State, s.power.compReset = true → exec .companionResetRelease s = .next { s with power := { s.power with
      railsOk := true, clockOk := true, compReset := false, pwrEn := true, releasing := s.power.pgood } }) ∧
  (∀ s : State, s.power.compReset = false → s.power.pwrEn = true → s.power.pgood = false →
    exec .powerGoodTimeout s = .next { s with power := { s.power with
      pwrEn := false, pgood := false, releasing := false, pgFails := s.power.pgFails + 1,
      retry := decide (s.power.pgFails + 1 < 3), cause := setBits s.power.cause 0x400 } }) ∧
  (∀ s : State, s.power.retry = true →
    exec .mainPwrEnRetry s = .next { s with power := { s.power with retry := false, pwrEn := true } }) ∧
  (∀ s : State, s.power.pwrEn = true → s.power.mainReset = true → s.power.compReset = false → s.power.pgood = false →
    exec .mainPgoodRise s = .next { s with power := { s.power with pgood := true, releasing := true } }) ∧
  (∀ s : State, s.power.releasing = true → exec .mainResetRelease s = .next { s with power := { s.power with
      mainReset := false, deviceReset := false, releasing := false, xspiResetHigh := true, mode := 0,
      cm2Short := [] } }) ∧
  (∀ s : State, s.power.mainReset = false → s.power.pllLocked = false → exec .pllLock s = .next { s with
      power := { s.power with pllLocked := true }, time := { TimeBase.initial with ticking := true } }) ∧
  (∀ s : State, s.power.pllLocked = true → s.power.mgmtUp = false →
    exec .sramClearDone s = .next { s with power := { s.power with mgmtUp := true } }) ∧
  (∀ s : State, s.power.mainReset = false →
    exec .resetOutRelease s = .next { s with power := { s.power with resetOutHigh := true } })

/-- Every reset source of Table 02-5 starts its kind of reset: functions STOPPED, SO off, ACTV_O low, its cause bit alone; a source during a reset adds its bit (R66, R67, R68, R69, R70, R71, R72, R75, R80).
Rests on choices of the model: assumption logs 31, 70. -/
def Obligations.ResetSourcesClearTheMainDie : Prop :=
  (∀ s : State, s.inReset = false →
    let alone := fun (bit : Nat) => setBits bit (if s.power.cm2Short = [] then 0 else 0x020)
    (Runs .sysReset s fun t => MainCleared s t ∧ t.power.deviceReset = true ∧ t.power.compReset = true ∧
      t.power.cause = alone 0x002 ∧ t.power.pwrEn = s.power.pwrEn ∧ t.saf.faultB = false ∧ t.pair.theta = 0) ∧
    (Runs .companionRailFail s fun t => MainCleared s t ∧ t.power.deviceReset = true ∧ t.power.compReset = true ∧
      t.power.cause = alone 0x001 ∧ t.power.pwrEn = false) ∧
    (Runs .companionClockFault s fun t => MainCleared s t ∧ t.power.deviceReset = true ∧ t.power.compReset = true ∧
      t.power.cause = alone 0x004 ∧ t.power.pwrEn = s.power.pwrEn) ∧
    (s.power.mgmtUp = true → Runs .watchdogExpiry s fun t => MainCleared s t ∧
      t.power.deviceReset = s.power.deviceReset ∧ t.power.compReset = s.power.compReset ∧ t.power.cause = alone 0x040 ∧
      t.power.pwrEn = s.power.pwrEn ∧ t.power.releasing = (s.power.pwrEn && s.power.pgood) ∧
      t.saf.faultB = s.saf.faultB ∧ t.saf.chB = s.saf.chB ∧ t.pair.theta = s.pair.theta ∧
      (s.dict.sessions.length ≤ 4096 → t.ledger.queue.length = s.dict.sessions.length)) ∧
    (∀ longUp : Bool, s.power.mainReset = false → s.power.pgood = true → Runs (.mainPgoodFall longUp) s fun t =>
      MainCleared s t ∧ t.power.pwrEn = false ∧ t.power.pgood = false ∧
      t.power.pgFails = (if longUp then 0 else s.power.pgFails + 1) ∧ t.power.retry = decide (t.power.pgFails < 3) ∧
      t.power.cause = (if t.power.pgFails < 3 then alone 0x008 else setBits (alone 0x008) 0x400)) ∧
    (∀ cm : Fin 8, s.power.mainReset = false → cm.val ∈ [0, 1, 3, 7] → Runs (.clockMonitorFault cm) s fun t =>
      MainCleared s t ∧ t.power.compReset = s.power.compReset ∧ t.power.cause = 0x020)) ∧
  (∀ (s : State) (cm : Fin 8), s.inReset = true → s.power.mainReset = true → cm.val ∈ [0, 1, 2, 3, 7] →
    exec (.clockMonitorFault cm) s = .next { s with power := { s.power with cause := setBits s.power.cause 0x020 } }) ∧
  (∀ (s : State) (c : Instr) (bit : Nat), s.power.deviceReset = true →
    (c, bit) ∈ [(.sysReset, 1), (.companionClockFault, 2)] → Runs c s fun t => t.power.cause = setBits s.power.cause (1 <<< bit) ∧
      t.power.compReset = true ∧ t.power.deviceReset = true ∧ t.power.mainReset = true ∧ t.fns = s.fns ∧ t.dict = s.dict)

/-- CM2, CM4, CM5 and CM6, temperatures and rails act by their tables; thermal shutdown, WAKE, the MRAM supply, the compute domain and CM2's short (R56, R80, R83, R86, R625, R734, R43, R67, R731, R732, R733, R735).
Rests on choices of the model: assumption logs 29, 32, 70. -/
def Obligations.ClockMonitorsSensorsAndLowPower : Prop :=
  (
    (∀ s : State, s.inReset = false → s.power.mainReset = false →
      ((∀ g, g < 8 → bitAt (s.groupCfg g) 6 = false) → Runs (.clockMonitorFault 2) s fun t =>
        MainCleared s t ∧ t.power.cause = 0x020) ∧
      ((∃ g, g < 8 ∧ bitAt (s.groupCfg g) 6 = true) → ∃ l : List Nat, l ≠ [] ∧
        (∀ g, g ∈ l ↔ g < 8 ∧ bitAt (s.groupCfg g) 6 = true) ∧
        exec (.clockMonitorFault 2) s = .next { s with power := { s.power with cm2Short := l } }) ∧
      (s.power.cm2Short ≠ [] → Runs .cm2ShortDelay s fun t => MainCleared s t ∧ t.power.cause = 0x020 ∧
        t.power.cm2Short = [])) ∧
    (∀ s : State, s.power.mainReset = false → s.Shaped → s.fnSt .safety ≠ .fault → Runs (.clockMonitorFault 4) s fun t =>
      t.fn .safety = ⟨.fault, 0x0101⟩ ∧ t.saf.soA = 0#8 ∧ t.saf.soB = 0#8) ∧
    (∀ s : State, s.power.mainReset = false → s.Shaped → Runs (.clockMonitorFault 5) s fun t =>
      t.power.ringPllIdle = true ∧ ∀ n, n < 4 → t.fnSt (.ring n) = .fault) ∧
    (∀ s : State, s.power.mainReset = false → Runs (.clockMonitorFault 6) s fun t =>
      ∀ n, n < 2 → (t.port n).pcs = false) ∧
    (∀ (s : State) (k : Fin 20), s.power.pwrEn = true → s.power.compReset = false → Runs (.thermalShutdown k) s fun t =>
      t.power.mode = 3 ∧ t.power.pwrEn = false ∧ t.power.mainReset = true ∧ t.power.thermal = true ∧ t.saf.soA = 0#8 ∧
      t.saf.soB = 0#8 ∧ t.pair.actvO = false ∧ t.fnSt .safety = (if s.isActive .safety then .fault else .stopped)) ∧
    (∀ s : State, s.power.mode = 3 → s.power.deviceReset = false → Runs .wake s fun t => MainCleared s t ∧
      t.power.mode = 0 ∧ t.power.cause = 0x200 ∧ t.power.pwrEn = true ∧ t.power.pgFails = 0) ∧
    (∀ s : State, exec .mramSupplyLow s = .next { s with power := { s.power with mramOk := false } }) ∧
    (∀ s : State, s.power.mode = 4 →
      exec .computeWakeDone s = .next { s with power := { s.power with mode := s.power.wakeTo } })
  ) ∧ (
    ∀ (s : State) (r : Readings),
      let c := Instr.sensorReadingUpdate r
      let x := s.sensors
      let m := meansOf r
      let hi := highest m.temps
      let out := outOfAction m.volts
      let pends := if s.power.cm2Short = [] then 0 else 0x020
      let follows := fun (on new : Bool) (n n' : Nat) (v thr : Int) =>
        (thr ≤ v → new = true ∧ n' = 0) ∧ (v < thr → on = false → new = false) ∧
        (v < thr → thr - 50 < v → on = true → new = true ∧ n' = 0) ∧
        (v ≤ thr - 50 → on = true → new = decide (n + 1 < 100) ∧ (n + 1 < 100 → n' = n + 1))
      let flags := fun t : State => let y := t.sensors
        y.temps = m.temps ∧ y.volts = m.volts ∧ y.derateInForce = x.derateInForce ∧
        follows x.tempWarn y.tempWarn x.tempWarnCount y.tempWarnCount (hi 0 23) (s.cfgInt 16 0x1032 0) ∧
        follows x.mainAlarm y.mainAlarm x.mainCount y.mainCount (hi 0 18) 1100 ∧
        follows x.safaAlarm y.safaAlarm x.safaCount y.safaCount (hi 19 19) 1100 ∧
        follows x.compAlarm y.compAlarm x.compCount y.compCount (hi 20 23) 1100 ∧
        (∃ d1 d2 : Bool, follows (decide (1 ≤ x.derate)) d1 x.derate1Count y.derate1Count (hi 0 11) 1000 ∧
          follows (decide (2 ≤ x.derate)) d2 x.derate2Count y.derate2Count (hi 0 11) 1050 ∧
          y.derate = if d2 then 2 else if d1 then 1 else 0) ∧
        y.voltWarn = (List.range 16).any (fun v => outside (nth m.volts v 0) (nth nominalMv v 0) (nth windowPct v (0, 0)).1) ∧
        (x.tempWarn = false → y.tempWarn = true → t.raised 384) ∧ (y.derate ≠ x.derate → t.raised 385) ∧
        ((x.mainAlarm = false ∧ y.mainAlarm = true) ∨ (x.safaAlarm = false ∧ y.safaAlarm = true) ∨
          (x.compAlarm = false ∧ y.compAlarm = true) → t.raised 386) ∧ (x.voltWarn = false → y.voltWarn = true → t.raised 387)
      (∀ i l, r.temps[i]? = some l → (16 : Int) ∣ l.foldl (· + ·) 0 → nth m.temps i 0 = l.foldl (· + ·) 0 / 16) ∧
      (s.power.mainReset = true → s.inReset = false ∨ (∀ v ∈ out, 15 ≤ v ∨ (v ≤ 11 ∧ s.power.pgood = false)) → exec c s = .next s) ∧
      (s.power.mainReset = true → s.inReset = true → s.power.pgood = true → (∃ v ∈ out, v ≤ 11) → (∀ v ∈ out, v ≤ 11 ∨ 15 ≤ v) →
        exec c s = .next { s with power := { s.power with cause := setBits s.power.cause 0x010 } }) ∧
      (s.power.mainReset = true → s.inReset = true → (∃ v ∈ out, 12 ≤ v ∧ v ≤ 14) → Runs c s fun t =>
        t.power.deviceReset = true ∧ t.power.compReset = true ∧ t.power.pwrEn = false ∧ bitAt t.power.cause 0 = true ∧
        bitAt t.power.cause 4 = (bitAt s.power.cause 4 || (s.power.pgood && out.any (fun v => decide (v ≤ 11)))) ∧ t.fns = s.fns) ∧
      (s.power.mainReset = false → (∀ v ∈ out, 15 ≤ v) → Runs c s fun t =>
        t.power = { s.power with mramOk := !out.contains 15 && decide (1710 ≤ nth m.volts 13 0) } ∧
        (hi 20 23 < 1200 ∨ s.saf.faultB = true → flags t ∧ { t.core with sensors := s.sensors, power := s.power, saf := s.saf } = s.core ∧
          t.saf.degraded = (if 1100 ≤ hi 19 19 ∧ x.safaAlarm = false ∧ s.isRunning .safety = true ∧ s.saf.degraded = none then
            some (4, s.time.ringNs) else s.saf.degraded) ∧ { t.saf with degraded := s.saf.degraded } = s.saf) ∧
        (1200 ≤ hi 20 23 → s.saf.faultB = false → s.fnSt .safety ≠ .fault → s.Shaped →
          t.fn .safety = ⟨.fault, 0x0102⟩ ∧ t.allOff ∧ t.saf.faultB = true)) ∧
      (s.inReset = false → s.power.mainReset = false → (∀ v ∈ out, v < 12 ∨ 14 < v) → (∃ v ∈ out, v ≤ 11) → Runs c s fun t =>
        MainCleared s t ∧ t.power.cause = setBits 0x010 pends ∧ t.power.compReset = s.power.compReset ∧ t.power.pwrEn = s.power.pwrEn) ∧
      (s.inReset = false → s.power.mainReset = false → (∃ v ∈ out, 12 ≤ v ∧ v ≤ 14) → Runs c s fun t =>
        MainCleared s t ∧ t.power.cause = setBits (if out.any (fun v => decide (v ≤ 11)) then 0x011 else 0x001) pends ∧ t.power.deviceReset = true ∧ t.power.compReset = true ∧ t.power.pwrEn = false)
  )

/-! ### The dictionary: checks of a request, reading and writing -/

/-- An admitted request consumes its number and rate; READ answers the value of this instant; WRITE stores its value and leaves every other object (03 Object dictionary, R116, R118, R126, 07 Waystation, R113, R276, R96, R114).
Rests on choices of the model: assumption logs 7, 23, 69. -/
def Obligations.AdmittedRequestsReadAndWrite : Prop :=
  (
    (∀ (s : State) (r : Req) (x : Session), Admitted s r x → (s.carried r).1.letIn r = (s.served r x, some x)) ∧
    (∀ (s : State) (r : Req) (x : Session) (serve : Session → State → State), Admitted s r x →
      s.request r serve = serve x (s.served r x)) ∧
    (∀ (s : State) (r : Req) (x : Session), (s.served r x).plant = s.plant) ∧
    (∀ (s : State) (r : Req) (serve : Session → State → State), ((s.advanceTo r.h.at_).heard r.h.src).2 = true →
      (s.carried r).2 = false → s.request r serve = (s.carried r).1 ∧ (s.request r serve).plant = s.plant) ∧
    (∀ (s : State) (r : Req) (serve : Session → State → State), ((s.advanceTo r.h.at_).heard r.h.src).2 = true →
      r.h.src.port < 2 → (s.arrived r.h).isRunning .waystation = true → (s.arrived r.h).way.requestsWait = true →
      Posted s (s.request r serve) 118 (requestOrigin r.h.src.port)
        ((toLE 1 r.h.src.port ++ toLE 16 r.h.src.addr ++ toLE 2 r.h.src.udp ++ r.received).take 2048))
  ) ∧ (
    (∀ (s : State) (h : Hdr) (idx sub : Nat) (x : Session) (c : Card), Admitted s (readReq h idx sub) x →
      lookup idx sub = .found c → s.available idx false = true → c.acc ≠ .wo → c.ty.isDomain = false → idx ≠ 0x3E01 →
      Runs (.read h idx sub) s fun t => t.plant = s.plant ∧
        Answered (readReq h idx sub) x 0xA0 ((s.served (readReq h idx sub) x).value x.id idx sub) t) ∧
    (∀ (s : State) (h : Hdr) (sub : Nat) (x : Session), Admitted s (readReq h 0x3E01 sub) x → (sub = 1 ∨ sub = 2) →
      s.available 0x3E01 false = true → x.latch = none →
      Runs (.read h 0x3E01 sub) s fun t => t.plant = s.plant ∧
        Answered (readReq h 0x3E01 sub) x 0xA0 (latchValue sub (t.time.sec, t.time.ns, t.time.ringNs)) t ∧
        ∃ y, t.session x.id = some y ∧ y.latch = some (sub, t.time.sec, t.time.ns, t.time.ringNs)) ∧
    (∀ (s : State) (h : Hdr) (sub : Nat) (x : Session) (l : Nat × Nat × Nat), Admitted s (readReq h 0x3E01 (3 - sub)) x →
      (sub = 1 ∨ sub = 2) → s.available 0x3E01 false = true → x.latch = some (sub, l) →
      Runs (.read h 0x3E01 (3 - sub)) s fun t =>
        Answered (readReq h 0x3E01 (3 - sub)) x 0xA0 (latchValue (3 - sub) l) t)
  ) ∧ (
    ∀ (s : State) (h : Hdr) (idx sub : Nat) (v : Octets) (x : Session) (c : Card), Fn.ofBase idx = none →
      cardAt idx sub = some c → stores idx c = true →
      (Granted s h idx sub v x → Runs (.write h idx sub v) s fun t => Answered (writeReq h idx sub v) x 0xA1 [] t ∧
        ∀ i j : Nat, t.obj i j = if (i, j) = (idx, sub) then v else s.obj i j) ∧
      (Admitted s (writeReq h idx sub v) x → (s.served (writeReq h idx sub v) x).writeAccess x idx c = none →
        c.ty.isDomain = false → v.length = c.ty.size →
        (s.served (writeReq h idx sub v) x).stateRefused x idx sub (leNat v) c = none → c.ok (leNat v) = false →
        Runs (.write h idx sub v) s fun t => t.plant = s.plant ∧ Answered (writeReq h idx sub v) x 0xFF (toLE 4 0x03000007) t)
  )

/-- Steps 1 to 3 refuse with a zero tag, step 4 a number out of turn, both consuming nothing; step 5 refuses beyond the rate and consumes the number (R109, R114, R116, R117, R121, R123, R126, 03 Object dictionary).
Rests on choices of the model: assumption logs 68, 69. -/
def Obligations.EarlyRefusalsAndRateLimits : Prop :=
  (
    ∀ (s : State) (r : Req) (serve : Session → State → State), Reaches s r →
      (r.h.version ≠ 1 → BareRefusal s r abVersion (s.request r serve)) ∧
      (r.h.version = 1 → r.op ∉ requestOpcodes → BareRefusal s r abOpcode (s.request r serve)) ∧
      (r.h.version = 1 → r.op ∈ requestOpcodes → (r.h.len ≠ r.data.length ∨ (if r.h.src.port < 2 then 1028 else 32) < r.data.length) →
        BareRefusal s r abLengthField (s.request r serve)) ∧
      (r.formRefused = none → (s.arrived r.h).session r.h.session = none → BareRefusal s r abNotOpen (s.request r serve)) ∧
      ∀ x : Session, r.formRefused = none → (s.arrived r.h).session r.h.session = some x →
        (x.src ≠ r.h.src → BareRefusal s r abEndpoint (s.request r serve)) ∧
        (x.src = r.h.src → r.h.tag ≠ reqTag x.key r.octets →
          (s.request r serve).dict.lastReply = some ⟨r.h.src, bareAnswer r abTag⟩ ∧
          (s.request r serve).session x.id = (if x.tagFails < 2 then some { x with tagFails := x.tagFails + 1 } else none)) ∧
        (x.src = r.h.src → r.h.tag = reqTag x.key r.octets → r.h.seq = x.lastSeq → r.octets ++ r.h.tag = x.lastReq →
          x.lastRsp ≠ [] →
          (s.request r serve).dict.lastReply = some ⟨x.src, tagged x (x.lastRsp.modify 11 fun b => b ||| 2#8)⟩ ∧
          (s.request r serve).plant = s.plant) ∧
        (x.src = r.h.src → r.h.tag = reqTag x.key r.octets → (r.h.seq ≠ x.lastSeq ∨ r.octets ++ r.h.tag ≠ x.lastReq) →
          x.lastSeq = 0xFFFFFFFF →
          (s.request r serve).dict.lastReply = some ⟨x.src, tagged x (r.answer x.id 0xFF 0 (toLE 4 abExhausted))⟩ ∧
          (s.request r serve).session x.id = some { x with confirmed := true }) ∧
        (x.src = r.h.src → r.h.tag = reqTag x.key r.octets → (r.h.seq ≠ x.lastSeq ∨ r.octets ++ r.h.tag ≠ x.lastReq) →
          x.lastSeq ≠ 0xFFFFFFFF → r.h.seq ≠ x.lastSeq + 1 →
          (s.request r serve).dict.lastReply = some ⟨x.src, tagged x (r.answer x.id 0xFF 0 (toLE 4 abSequence))⟩ ∧
          (s.request r serve).session x.id = some { x with confirmed := true })
  ) ∧ (
    ∀ (s : State) (r : Req) (serve : Session → State → State) (x : Session),
      Reaches s r → r.formRefused = none →
      (s.arrived r.h).session r.h.session = some x → x.src = r.h.src → r.h.tag = reqTag x.key r.octets →
      x.lastSeq ≠ 0xFFFFFFFF → r.h.seq = x.lastSeq + 1 →
      (2000 ≤ ((s.arrived r.h).recent x.reqAt).length ∨ 10000 ≤ ((s.arrived r.h).recent (s.arrived r.h).dict.reqAt).length) →
      Answered r x 0xFF (toLE 4 abRate) (s.request r serve) ∧ (s.request r serve).plant = s.plant ∧
      ∃ y, (s.request r serve).session x.id = some y ∧ y.lastSeq = r.h.seq
  )

/-- A READ or WRITE of an undefined index is refused with 0x03000001, of an undefined subindex with 0x03000002 (R94). -/
def Obligations.UndefinedObjectsAreRefused : Prop :=
  ∀ (s : State) (h : Hdr) (idx sub : Nat) (v : Octets) (x : Session),
    (Admitted s (readReq h idx sub) x →
      (lookup idx sub = .noIndex → Runs (.read h idx sub) s fun t => t.plant = s.plant ∧
        Answered (readReq h idx sub) x 0xFF (toLE 4 0x03000001) t) ∧
      (lookup idx sub = .noSub → Runs (.read h idx sub) s fun t => t.plant = s.plant ∧
        Answered (readReq h idx sub) x 0xFF (toLE 4 0x03000002) t)) ∧
    (Admitted s (writeReq h idx sub v) x →
      (lookup idx sub = .noIndex → Runs (.write h idx sub v) s fun t => t.plant = s.plant ∧
        Answered (writeReq h idx sub v) x 0xFF (toLE 4 0x03000001) t) ∧
      (lookup idx sub = .noSub → Runs (.write h idx sub v) s fun t => t.plant = s.plant ∧
        Answered (writeReq h idx sub v) x 0xFF (toLE 4 0x03000002) t))

/-- Steps 7 to 9 of a WRITE come in order: life cycle, access code, safety session, role, then DOMAIN or length (R110, R111, R115, 03 Object dictionary). -/
def Obligations.WriteChecksOfStepEight : Prop :=
  ∀ (s : State) (h : Hdr) (idx sub : Nat) (v : Octets) (x : Session) (c : Card), lookup idx sub = .found c →
    (Admitted s (writeReq h idx sub v) x →
      let refused := fun (code : Nat) => Runs (.write h idx sub v) s fun t => t.plant = s.plant ∧
        Answered (writeReq h idx sub v) x 0xFF (toLE 4 code) t
      (s.available idx true = false → refused 0x03000003) ∧
      (s.available idx true = true → (c.acc = .ro ∨ c.acc = .const) → refused 0x03000004) ∧
      (s.available idx true = true → c.acc = .safe → x.role ≠ 3 → refused 0x0300000A) ∧
      (s.available idx true = true → c.acc ≠ .ro → c.acc ≠ .const → (c.acc = .safe → x.role = 3) →
        s.mayWrite x idx c = false → refused 0x02000008) ∧
      (s.available idx true = true → c.acc ≠ .ro → c.acc ≠ .const → (c.acc = .safe → x.role = 3) →
        s.mayWrite x idx c = true → (c.ty.isDomain = true ∨ v.length ≠ c.ty.size) → refused 0x03000006)) ∧
    (Admitted s (readReq h idx sub) x →
      (s.available idx false = false → Runs (.read h idx sub) s fun t => t.plant = s.plant ∧
        Answered (readReq h idx sub) x 0xFF (toLE 4 0x03000003) t) ∧
      (s.available idx false = true → c.acc = .wo → Runs (.read h idx sub) s fun t => t.plant = s.plant ∧
        Answered (readReq h idx sub) x 0xFF (toLE 4 0x03000005) t) ∧
      (s.available idx false = true → c.acc ≠ .wo → c.ty.isDomain = true → Runs (.read h idx sub) s fun t =>
        t.plant = s.plant ∧ Answered (readReq h idx sub) x 0xFF (toLE 4 0x03000006) t))

/-- A WRITE refused at steps 6 to 12 is answered with its abort code, consumes its sequence number and changes no unit (R116). -/
def Obligations.RefusedWriteChangesNoUnit : Prop :=
  ∀ (s : State) (h : Hdr) (idx sub : Nat) (v : Octets) (x : Session) (e : Nat), Admitted s (writeReq h idx sub v) x →
    (s.served (writeReq h idx sub v) x).writeRefused x idx sub v = some e →
    Runs (.write h idx sub v) s fun t => t.plant = s.plant ∧ Answered (writeReq h idx sub v) x 0xFF (toLE 4 e) t ∧
      ∃ y, t.session x.id = some y ∧ y.lastSeq = h.seq ∧ y.lastRsp = (writeReq h idx sub v).answer x.id 0xFF 0 (toLE 4 e)

/-! ### Sessions and transfers -/

/-- OPEN derives the session key and binds the session to its endpoint; CLOSE and the two timeouts close it; refused OPENs (R98, R119, R121, R122, R123, R124).
Rests on choices of the model: assumption logs 8, 18, 19, 21. -/
def Obligations.SessionsOpenAndClose : Prop :=
  (∀ (s : State) (h : Hdr) (slot : Nat) (pad nonce : Octets) (k : KeySlot),
    Reaches s ⟨h, 0x10, 0, 0, toLE 1 slot ++ pad ++ nonce⟩ → h.version = 1 → h.len = 32 →
    (toLE 1 slot ++ pad ++ nonce).length = 32 → slot < 8 → s.keySlot slot = some k → k.enabled = true → s.dict.sessions.length < 8 →
    (k.role = 3 → ∀ y ∈ s.dict.sessions, y.role ≠ 3) →
    ((s.arrived h).recent s.dict.reqAt).length < 10000 →
    Runs (.openSession h slot pad nonce) s fun t => ∃ (y : Session) (n : Octets), n.length = 16 ∧
      t.dict.sessions = s.dict.sessions ++ [y] ∧ 1 ≤ y.id ∧ y.id ≤ 65535 ∧ (∀ z ∈ s.dict.sessions, z.id ≠ y.id) ∧
      y.src = h.src ∧ y.slot = slot ∧ y.role = k.role ∧ y.lastSeq = 0 ∧ y.confirmed = false ∧
      y.key = Keccak.kmac256 k.key (toLE 2 y.id ++ nonce ++ n) 32 customSession ∧
      Answered ⟨h, 0x10, 0, 0, toLE 1 slot ++ pad ++ nonce⟩ y 0x90 (n ++ toLE 1 k.role ++ zeros 15) t ∧
      t.plant = s.plant) ∧
  (∀ (s : State) (h : Hdr) (x : Session), Admitted s ⟨h, 0x11, 0, 0, []⟩ x → Runs (.close h) s fun t =>
    Answered ⟨h, 0x11, 0, 0, []⟩ x 0x91 [] t ∧ t.session x.id = none ∧ t.fns = s.fns ∧
    ∀ y ∈ s.dict.sessions, y.id ≠ x.id → y ∈ t.dict.sessions) ∧
  (∀ (s : State) (id : Nat) (x : Session), s.session id = some x → x.confirmed = false →
    Runs (.sessionConfirmTimeout id) s fun t => t.session id = none ∧ t.fns = s.fns ∧ t.dict.store = s.dict.store ∧
      ∀ y ∈ s.dict.sessions, y.id ≠ id → y ∈ t.dict.sessions) ∧
  (∀ (s : State) (id : Nat), Runs (.sessionIdleTimeout id) s fun t => t.session id = none ∧ t.fns = s.fns ∧
      t.dict.store = s.dict.store ∧ ∀ y ∈ s.dict.sessions, y.id ≠ id → y ∈ t.dict.sessions) ∧
  (∀ (s : State) (h : Hdr) (slot : Nat) (pad nonce : Octets) (code : Nat),
    Reaches s ⟨h, 0x10, 0, 0, toLE 1 slot ++ pad ++ nonce⟩ → h.version = 1 → h.len = 32 →
    (toLE 1 slot ++ pad ++ nonce).length = 32 → ((s.arrived h).recent s.dict.reqAt).length < 10000 →
    ((8 ≤ slot ∨ s.keySlot slot = none ∨ (∃ k, s.keySlot slot = some k ∧ k.enabled = false)) ∧ code = 0x02000007 ∨
      (slot < 8 ∧ (∃ k, s.keySlot slot = some k ∧ k.enabled = true) ∧ 8 ≤ s.dict.sessions.length ∧ code = 0x02000006) ∨
      (slot < 8 ∧ (∃ k, s.keySlot slot = some k ∧ k.enabled = true ∧ k.role = 3) ∧ s.dict.sessions.length < 8 ∧
        (∃ y ∈ s.dict.sessions, y.role = 3) ∧ code = 0x02000009)) →
    Runs (.openSession h slot pad nonce) s fun t =>
      BareRefusal s ⟨h, 0x10, 0, 0, toLE 1 slot ++ pad ++ nonce⟩ code t)

/-- SEG_READ delivers the content as it stood at its INIT; SEG_WRITE appends in order, LAST starts the check, ABORT and TIMEOUT close it unchanged (R129, R131, R134, R127, R130, R132, 03 Object dictionary).
Rests on choices of the model: assumption logs 22, 24, 68. -/
def Obligations.SegmentedTransfers : Prop :=
  (
    (∀ (s : State) (h : Hdr) (idx sub : Nat) (x : Session), Admitted s ⟨h, 0x30, idx, sub, []⟩ x →
      (s.served ⟨h, 0x30, idx, sub, []⟩ x).readInitRefused x idx sub = none →
      Runs (.segReadInit h idx sub) s fun t => t.plant = s.plant ∧
        ∃ o, o = (s.served ⟨h, 0x30, idx, sub, []⟩ x).value x.id idx sub ∧
          Answered ⟨h, 0x30, idx, sub, []⟩ x 0xB0 (toLE 4 o.length) t ∧
          ∃ y tr, t.session x.id = some y ∧ y.xfer = some tr ∧ tr.content = o ∧ tr.total = o.length ∧ tr.done = 0 ∧
            tr.write = false ∧ tr.idx = idx ∧ tr.sub = sub) ∧
    (∀ (s : State) (h : Hdr) (offset : Nat) (x : Session) (tr : Transfer), Admitted s ⟨h, 0x31, 0, 0, toLE 4 offset⟩ x →
      x.xfer = some tr → tr.write = false → tr.checking = false → tr.total = tr.content.length → tr.done ≤ tr.total →
      offset = tr.done →
      Runs (.segRead h offset) s fun t => t.plant = s.plant ∧
        t.dict.lastReply = some ⟨x.src, tagged x (Req.answer ⟨h, 0x31, 0, 0, toLE 4 offset⟩ x.id 0xB1
          (if tr.total ≤ tr.done + segmentOctets x.src then 1 else 0)
          (toLE 4 offset ++ slice tr.content tr.done (segmentOctets x.src)))⟩ ∧
        ∃ y, t.session x.id = some y ∧ y.xfer = if tr.total ≤ tr.done + segmentOctets x.src then none else
          some { tr with done := tr.done + segmentOctets x.src }) ∧
    (∀ (s : State) (h : Hdr) (offset : Nat) (x : Session) (tr : Transfer), Admitted s ⟨h, 0x31, 0, 0, toLE 4 offset⟩ x →
      x.xfer = some tr → tr.write = false → tr.checking = false → offset ≠ tr.done →
      Runs (.segRead h offset) s fun t => t.plant = s.plant ∧
        Answered ⟨h, 0x31, 0, 0, toLE 4 offset⟩ x 0xFF (toLE 4 0x04000003) t ∧
        ∃ y, t.session x.id = some y ∧ y.xfer = some tr) ∧
    (∀ (s : State) (h : Hdr) (offset : Nat) (x : Session), Admitted s ⟨h, 0x31, 0, 0, toLE 4 offset⟩ x → x.xfer = none →
      Runs (.segRead h offset) s fun t => t.plant = s.plant ∧
        Answered ⟨h, 0x31, 0, 0, toLE 4 offset⟩ x 0xFF (toLE 4 0x04000001) t)
  ) ∧ (
    (∀ (s : State) (h : Hdr) (idx sub total : Nat) (x : Session), Admitted s ⟨h, 0x32, idx, sub, toLE 4 total⟩ x →
      (s.served ⟨h, 0x32, idx, sub, toLE 4 total⟩ x).writeInitRefused x idx sub total = none →
      Runs (.segWriteInit h idx sub total) s fun t => (idx ≠ 0x1040 → t.plant = s.plant) ∧
        (idx = 0x1040 → t.fw = { s.fw with slots := upd s.fw.slots s.fw.other fun _ => ⟨0, 0, 0⟩, update := 1 }) ∧
        Answered ⟨h, 0x32, idx, sub, toLE 4 total⟩ x 0xB2 [] t ∧
        ∃ y tr, t.session x.id = some y ∧ y.xfer = some tr ∧ tr.write = true ∧ tr.idx = idx ∧ tr.sub = sub ∧
          tr.total = total ∧ tr.done = 0 ∧ tr.content = [] ∧ tr.checking = false) ∧
    (∀ (s : State) (h : Hdr) (offset : Nat) (v : Octets) (x : Session) (tr : Transfer),
      Admitted s ⟨h, 0x33, 0, 0, toLE 4 offset ++ v⟩ x → x.xfer = some tr → tr.write = true → tr.checking = false →
      let held := fun (t : State) => t.plant = s.plant
      (offset = tr.done → tr.done + v.length ≤ tr.total → bitAt h.flags 0 = false →
        Runs (.segWrite h offset v) s fun t => held t ∧ Answered ⟨h, 0x33, 0, 0, toLE 4 offset ++ v⟩ x 0xB3 [] t ∧
          ∃ y tr', t.session x.id = some y ∧ y.xfer = some tr' ∧ tr'.content = tr.content ++ v ∧
            tr'.done = tr.done + v.length ∧ tr'.checking = false) ∧
      (offset = tr.done → tr.done + v.length = tr.total → bitAt h.flags 0 = true → tr.left = false →
        Runs (.segWrite h offset v) s fun t => held t ∧ t.dict.lastReply = s.dict.lastReply ∧
          ∃ y tr', t.session x.id = some y ∧ y.xfer = some tr' ∧ tr'.content = tr.content ++ v ∧ tr'.checking = true ∧
            tr'.finalSeq = h.seq) ∧
      (offset ≠ tr.done → Runs (.segWrite h offset v) s fun t => held t ∧
        Answered ⟨h, 0x33, 0, 0, toLE 4 offset ++ v⟩ x 0xFF (toLE 4 0x04000003) t ∧
        ∃ y, t.session x.id = some y ∧ y.xfer = some tr) ∧
      (offset = tr.done → (tr.total < tr.done + v.length ∨ (bitAt h.flags 0 = true ∧ tr.done + v.length ≠ tr.total)) →
        Runs (.segWrite h offset v) s fun t => held t ∧
          Answered ⟨h, 0x33, 0, 0, toLE 4 offset ++ v⟩ x 0xFF (toLE 4 0x03000006) t ∧
          ∃ y, t.session x.id = some y ∧ y.xfer = some tr) ∧
      (offset = tr.done → tr.done + v.length = tr.total → bitAt h.flags 0 = true → tr.left = true →
        Runs (.segWrite h offset v) s fun t => t.dict.store = s.dict.store ∧ (tr.idx ≠ 0x1040 → held t) ∧
          Answered ⟨h, 0x33, 0, 0, toLE 4 offset ++ v⟩ x 0xFF (toLE 4 0x03000008) t ∧
          ∃ y, t.session x.id = some y ∧ y.xfer = none)) ∧
    (∀ (s : State) (h : Hdr) (x : Session) (tr : Transfer), Admitted s ⟨h, 0x34, 0, 0, []⟩ x → x.xfer = some tr →
      tr.checking = false → Runs (.segAbort h) s fun t => t.dict.store = s.dict.store ∧ (tr.idx ≠ 0x1040 → t.plant = s.plant) ∧
        Answered ⟨h, 0x34, 0, 0, []⟩ x 0xB4 [] t ∧ ∃ y, t.session x.id = some y ∧ y.xfer = none) ∧
    (∀ (s : State) (h : Hdr) (x : Session), Admitted s ⟨h, 0x34, 0, 0, []⟩ x → x.xfer = none →
      Runs (.segAbort h) s fun t => t.plant = s.plant ∧ Answered ⟨h, 0x34, 0, 0, []⟩ x 0xFF (toLE 4 0x04000001) t) ∧
    (∀ (s : State) (id : Nat) (x : Session) (tr : Transfer), s.session id = some x → x.xfer = some tr → tr.checking = false →
      Runs (.segmentTimeout id) s fun t => t.dict.store = s.dict.store ∧ (tr.idx ≠ 0x1040 → t.plant = s.plant) ∧
        ∃ y, t.session id = some y ∧ y.xfer = none)
  )

/-- The end of a content check puts the content in force or refuses it; SAFE objects, key slots, challenges, transitions and authorisations (R127, R133, R583, R753, R758, R759, R768, R769, R816).
Rests on choices of the model: assumption logs 3, 22, 24. -/
def Obligations.ContentChecksDecideDomainWrites : Prop :=
  (∀ (s : State) (id : Nat) (x : Session) (tr : Transfer) (c : Card), s.checkingIn id = some (x, tr, c) →
    (tr.left = true → Runs (.domainContentCheckDone id) s fun t => t.dict.store = s.dict.store ∧ t.fns = s.fns ∧
      Finished x tr 0xFF (toLE 4 0x03000008) t) ∧
    (∀ e, tr.left = false → s.contentRefused x tr.idx tr.sub c tr.content = some e →
      Runs (.domainContentCheckDone id) s fun t => t.dict.store = s.dict.store ∧ t.fns = s.fns ∧
        Finished x tr 0xFF (toLE 4 e) t) ∧
    (tr.left = false → s.contentRefused x tr.idx tr.sub c tr.content = none → c.acc ≠ .safe →
      tr.idx ∉ [0x1040, 0x1801, 0x1803, 0x1810, 0x1820] → ¬ (0x2E20 ≤ tr.idx ∧ tr.idx ≤ 0x2E2F) →
      Runs (.domainContentCheckDone id) s fun t => Finished x tr 0xB3 [] t ∧ t.fns = s.fns ∧
        ∀ i j, t.obj i j = if (i, j) = (tr.idx, tr.sub) then tr.content else s.obj i j) ∧
    (∀ y : Nat × Nat, tr.left = false → s.contentRefused x tr.idx tr.sub c tr.content = none → c.acc ≠ .safe →
      0x2E20 ≤ tr.idx → tr.idx ≤ 0x2E2F → s.window (tr.idx - 0x2E20) = some y → s.sharedOffsets (tr.idx - 0x2E20) = [] →
      Runs (.domainContentCheckDone id) s fun t => Finished x tr 0xB3 [] t ∧ t.fab.mem = bazWrite s.fab.mem y.1 tr.content ∧
        ∀ i j, t.obj i j = if (i, j) = (tr.idx, tr.sub) then tr.content else s.obj i j)) ∧
  (∀ (s : State) (id : Nat) (x : Session) (tr : Transfer) (c : Card), s.checkingIn id = some (x, tr, c) → tr.left = false →
    s.contentRefused x tr.idx tr.sub c tr.content = none →
    (c.acc = .safe → tr.idx ∉ [0x1040, 0x1801, 0x1803, 0x1810, 0x1820] → Runs (.safeObjectWrite id) s fun t =>
      Finished x tr 0xB3 [] t ∧ t.dict.store = s.dict.store ∧ t.saf.set.state = 1 ∧
      ∃ st, t.saf.set.pending = some (x.id, st) ∧ storeGet st (tr.idx, 0) =
        (if tr.content = dfltOctets tr.idx 0 then none else some tr.content)) ∧
    (tr.idx = 0x1810 → s.sec.keys.length = 8 → 1 ≤ tr.sub → tr.sub ≤ 8 → Runs (.keySlotWrite id) s fun t =>
      Finished x tr 0xB3 [] t ∧ t.dict.store = s.dict.store ∧
      nth t.sec.keys (tr.sub - 1) none = (if u8At tr.content 0 = 0xFF then none else
        some ⟨u8At tr.content 0, bitAt (u8At tr.content 1) 0,
          List.zipWith (· ^^^ ·) (slice tr.content 4 32)
            (Keccak.kmac256 x.key (toLE 1 (tr.sub - 1) ++ toLE 4 tr.initSeq) 32 customWrap)⟩) ∧
      ∀ i, i ≠ tr.sub - 1 → nth t.sec.keys i none = nth s.sec.keys i none) ∧
    (tr.idx = 0x1820 → s.power.mramOk = true → Runs (.attestationChallenge id) s fun t => Finished x tr 0xB3 [] t ∧
      t.sec = { s.sec with attIndex := s.sec.attIndex + 1, attStatus := 1, challenge := tr.content }) ∧
    (tr.idx = 0x1801 → Runs (.transitionRequest id) s fun t => Finished x tr 0xB3 [] t ∧
      t.sec = { s.sec with transition := some (u8At tr.content 0,
        List.zipWith (· ^^^ ·) (slice tr.content 8 32) (Keccak.kmac256 x.key (toLE 1 0 ++ toLE 4 tr.initSeq) 32 customWrap)) })) ∧
  (∀ (s : State) (id : Nat) (x : Session) (tr : Transfer) (c : Card), s.checkingIn id = some (x, tr, c) → tr.left = false →
    tr.idx = 0x1803 → c.lengthOk tr.content.length = true → Runs (.returnAuthorisation id) s fun t =>
      if s.authorisationOk tr.content = true then
        Finished x tr 0xB3 [] t ∧ t.sec = { s.sec with authorised := some (u8At tr.content 2) }
      else Finished x tr 0xFF (toLE 4 0x0300000B) t ∧ t.sec = s.sec)

/-! ### Functions -/

/-- START of a STOPPED function with RUNNING prerequisites gives STARTING, or FAULT by a start check; STOP gives STOPPING, CLEAR STOPPED with its code (R99, R100, R811, 03 Object dictionary, R103, R105, R106).
Rests on choices of the model: assumption logs 21, 25, 26. -/
def Obligations.StartStopAndClear : Prop :=
  (
    ∀ (s : State) (h : Hdr) (f : Fn) (x : Session), f.exists = true → s.Shaped →
      Admitted s (writeReq h f.base 2 (toLE 1 1)) x → 1 ≤ x.role → s.available f.base true = true →
      s.fnSt f = .stopped → s.computeAsleep f = false → (∀ g ∈ s.prereqs f, s.fnSt g = .running) →
      Runs (.start f h) s fun t => Answered (writeReq h f.base 2 (toLE 1 1)) x 0xA1 [] t ∧
        (t.fn f = ⟨.starting, 0⟩ ∨ (t.fn f = ⟨.running, 0⟩ ∧ ∃ n, f = .can n ∧ s.canMode n = 3) ∨
          (t.fnSt f = .fault ∧ (t.fn f).code ≠ 0)) ∧
        (∀ g, g.exists = true → g ≠ f → s.isActive g = false → t.fn g = s.fn g) ∧
        ((f ∈ [Fn.timeBase, .interp, .voxel, .separation] ∨ ∃ n, f = .arm n ∨ f = .hostPort n ∨ f = .feedback n) →
          t.fn f = ⟨.starting, 0⟩ ∧ ∀ g, g.exists = true → g ≠ f → t.fn g = s.fn g)
  ) ∧ (
    ∀ (s : State) (h : Hdr) (f : Fn) (x : Session), f.exists = true → s.Shaped → 1 ≤ x.role →
      s.available f.base true = true →
      (Admitted s (writeReq h f.base 2 (toLE 1 2)) x → s.isActive f = true →
        (∀ g ∈ s.dependents f, s.isActive g = false) →
        Runs (.stop f h) s fun t => Answered (writeReq h f.base 2 (toLE 1 2)) x 0xA1 [] t ∧
          t.fn f = ⟨.stopping, (s.fn f).code⟩ ∧ (∀ g, g.exists = true → g ≠ f → t.fn g = s.fn g) ∧
          ∀ n, f = .hostPort n → ∀ y ∈ t.dict.sessions, y.src.port ≠ n) ∧
      (Admitted s (writeReq h f.base 2 (toLE 1 3)) x → s.fnSt f = .fault → s.causePresent f = false →
        Runs (.clear f h) s fun t => Answered (writeReq h f.base 2 (toLE 1 3)) x 0xA1 [] t ∧
          ((∀ g, f = .pwm g → s.tripsOf g = 0 ∧ s.anyHalted = false) → t.fn f = ⟨.stopped, (s.fn f).code⟩) ∧
          (∀ g, f = .pwm g → t.fnSt f = .stopped ∨ t.fnSt f = .fault) ∧
          ∀ g, g.exists = true → g ≠ f → t.fn g = s.fn g)
  )

/-- Commands refused: in a state that Table 03-8 marks, START without prerequisites, STOP under active dependents, CLEAR of a present cause (R102, R103). -/
def Obligations.CommandsAreRefusedInTheWrongState : Prop :=
  ∀ (s : State) (h : Hdr) (f : Fn) (x : Session), f.exists = true → 1 ≤ x.role → s.available f.base true = true →
    let refused := fun (c : Instr) (k code : Nat) => Runs c s fun t => t.plant = s.plant ∧
      Answered (writeReq h f.base 2 (toLE 1 k)) x 0xFF (toLE 4 code) t
    (Admitted s (writeReq h f.base 2 (toLE 1 1)) x →
      ((s.fnSt f ≠ .stopped ∨ s.computeAsleep f = true) → refused (.start f h) 1 0x03000008) ∧
      (s.fnSt f = .stopped → s.computeAsleep f = false → (∃ g ∈ s.prereqs f, s.fnSt g ≠ .running) →
        refused (.start f h) 1 0x03000009)) ∧
    (Admitted s (writeReq h f.base 2 (toLE 1 2)) x →
      (s.isActive f = false → refused (.stop f h) 2 0x03000008) ∧
      (s.isActive f = true → (∃ g ∈ s.dependents f, s.isActive g = true) → refused (.stop f h) 2 0x03000009)) ∧
    (Admitted s (writeReq h f.base 2 (toLE 1 3)) x → (s.fnSt f ≠ .fault ∨ s.causePresent f = true) →
      refused (.clear f h) 3 0x03000008)

/-- Start checks end in RUNNING, the start limit in FAULT 0x0002, a stop sequence in STOPPED; a fault takes the active functions that list it with it (R100, R101, R104, R811, R812).
Rests on choices of the model: assumption logs 6, 25. -/
def Obligations.FunctionsReachTheirStatesAndFaultsSpread : Prop :=
  (
    (∀ (s : State) (f : Fn), s.Shaped → f.exists = true → s.fnSt f = .starting → ownStart f = false →
      s.staysStarting f = false → s.startReady f = true → Runs (.startChecksComplete f) s fun t =>
        ((∀ k, f = .axis k → ((s.axis k).limp && (s.axis k).limn) = false) →
          t.fn f = ⟨.running, (s.fn f).code⟩ ∧ ∀ g, g.exists = true → g ≠ f → t.fn g = s.fn g) ∧
        (∀ k, f = .axis k → ((s.axis k).limp && (s.axis k).limn) = true → t.fn f = ⟨.fault, 0x0101⟩)) ∧
    (∀ (s : State) (f : Fn), s.Shaped → f.exists = true → s.fnSt f = .starting → s.staysStarting f = false →
      Runs (.startLimitExpiry f) s fun t => t.fn f = ⟨.fault, 0x0002⟩) ∧
    (∀ (s : State) (f : Fn), s.Shaped → f.exists = true → s.fnSt f = .stopping → s.stopDone f = true →
      Runs (.stopSequenceComplete f) s fun t => t.fn f = ⟨.stopped, (s.fn f).code⟩ ∧
        ∀ g, g.exists = true → g ≠ f → t.fn g = s.fn g)
  ) ∧ (
    ∀ (s : State) (f : Fn), s.Shaped → f.exists = true → s.fnSt f = .starting → s.staysStarting f = false →
      Runs (.startLimitExpiry f) s fun t =>
        (∀ g, g.exists = true → g ≠ f → s.isActive g = true → f ∈ s.prereqs g → t.fn g = ⟨.fault, 0x0001⟩) ∧
        (∀ g, s.isActive g = false → t.fn g = s.fn g)
  )

/-- An RWS object whose owning function is not STOPPED refuses every WRITE with 0x03000008 and keeps its value (R46). -/
def Obligations.StoppedOnlyConfiguration : Prop :=
  ∀ (s : State) (h : Hdr) (idx sub : Nat) (v : Octets) (x : Session) (c : Card) (f : Fn),
    Admitted s (writeReq h idx sub v) x → lookup idx sub = .found c → c.acc = .rws → c.owner = some f →
    c.ty.isDomain = false → v.length = c.ty.size → s.available idx true = true → s.mayWrite x idx c = true →
    Fn.ofBase idx = none → s.fnSt f ≠ .stopped →
    Runs (.write h idx sub v) s fun t => t.plant = s.plant ∧
      Answered (writeReq h idx sub v) x 0xFF (toLE 4 0x03000008) t

/-- Reset requests begin after their response, power modes act by R82 to R86; STORE snapshots RWS values, RESTORE_DEFAULTS invalidates both copies (R76, R81, R82, R83, R84, R86, R56, R140, R143, R144, R145).
Rests on choices of the model: assumption logs 21, 35, 36, 68, 70. -/
def Obligations.ResetPowerStoreAndRestore : Prop :=
  (
    (∀ (s : State) (h : Hdr) (x : Session), Granted s h 0x1021 0 (toLE 1 1) x → h.src.port < 2 → s.inReset = false →
      s.power.cm2Short = [] → Runs (.mainResetRequest h) s fun t => Answered (writeReq h 0x1021 0 (toLE 1 1)) x 0xA1 [] t ∧ t.power.cause = 0x080 ∧
        t.power.mainReset = true ∧ t.power.compReset = s.power.compReset ∧ t.saf.soA = 0#8 ∧ t.saf.soB = 0#8 ∧
        t.pair.actvO = false ∧ t.dict.sessions = [] ∧ ∀ f, t.fn f = ⟨.stopped, 0⟩) ∧
    (∀ (s : State) (h : Hdr) (x : Session), Granted s h 0x1021 0 (toLE 1 2) x → h.src.port < 2 → s.inReset = false →
      s.power.cm2Short = [] → Runs (.deviceResetRequest h) s fun t => Answered (writeReq h 0x1021 0 (toLE 1 2)) x 0xA1 [] t ∧ t.power.cause = 0x100 ∧
        t.power.mainReset = true ∧ t.power.compReset = true ∧ t.power.deviceReset = true ∧ t.saf.soA = 0#8 ∧
        t.saf.soB = 0#8 ∧ t.pair.actvO = false ∧ t.dict.sessions = [] ∧ ∀ f, t.fn f = ⟨.stopped, 0⟩) ∧
    (∀ (s : State) (h : Hdr) (x : Session), Granted s h 0x1022 0 (toLE 1 0) x → Runs (.powerModeRun h) s fun t =>
      Answered (writeReq h 0x1022 0 (toLE 1 0)) x 0xA1 [] t ∧ t.fns = s.fns ∧ t.power = { s.power with
        mode := if s.power.mode = 2 then 4 else 0, wakeTo := if s.power.mode = 2 then 0 else s.power.wakeTo } ∧
      (s.power.mode ≠ 2 → t.plant = { s.plant with power := t.power })) ∧
    (∀ (s : State) (h : Hdr) (x : Session), Granted s h 0x1022 0 (toLE 1 1) x → Runs (.powerModeDoze h) s fun t =>
      Answered (writeReq h 0x1022 0 (toLE 1 1)) x 0xA1 [] t ∧ t.fns = s.fns ∧ t.power = { s.power with
        mode := if s.power.mode = 2 then 4 else 1, wakeTo := if s.power.mode = 2 then 1 else s.power.wakeTo }) ∧
    (∀ (s : State) (h : Hdr) (x : Session), Granted s h 0x1022 0 (toLE 1 2) x →
      Runs (.powerModeComputeOff h) s fun t => Answered (writeReq h 0x1022 0 (toLE 1 2)) x 0xA1 [] t ∧ t.fns = s.fns ∧
        t.power = { s.power with mode := 2 } ∧ (s.power.mode ≠ 2 → t.per.map = []) ∧
        (s.power.mode = 2 → t.plant = s.plant)) ∧
    (∀ (s : State) (h : Hdr) (x : Session), Granted s h 0x1022 0 (toLE 1 3) x → h.src.port < 2 → s.power.mode ≠ 3 →
      Runs (.powerModeMainOff h) s fun t => Answered (writeReq h 0x1022 0 (toLE 1 3)) x 0xA1 [] t ∧ t.power.mode = 3 ∧
        t.power.pwrEn = false ∧ t.power.mainReset = true ∧ t.pair.actvO = false ∧ ∀ f, t.fn f = ⟨.stopped, 0⟩) ∧
    (∀ (s : State) (h : Hdr) (x : Session) (c : Instr) (idx v : Nat), 2 ≤ h.src.port →
      (c, idx, v) ∈ [(.mainResetRequest h, 0x1021, 1), (.deviceResetRequest h, 0x1021, 2), (.powerModeMainOff h, 0x1022, 3)] →
      Granted s h idx 0 (toLE 1 v) x → s.power.mode ≠ 3 → Runs c s fun t =>
        Answered (writeReq h idx 0 (toLE 1 v)) x 0xA1 [] t ∧
        let k := (t.can (h.src.port - 2)).responses.length
        (k ≠ 0 → t.fns = s.fns ∧ t.power = { s.power with resetAsked := some (idx, v, h.src.port - 2, k) }) ∧
        (k = 0 → s.inReset = false → t.power.mainReset = true ∧ ∀ f, t.fn f = ⟨.stopped, 0⟩)) ∧
    (∀ (s : State) (h : Hdr) (x : Session) (m : Nat), Admitted s (writeReq h 0x1022 0 (toLE 1 m)) x → 2 ≤ x.role →
      s.available 0x1022 true = true → m ≠ s.power.mode →
      ((m = 1 ∨ m = 2) ∧ (∃ f ∈ [Fn.voxel, .separation, .front, .solver, .interp], s.fnSt f ≠ .stopped) ∨
        m = 3 ∧ ((∃ n, n < 4 ∧ s.fnSt (.ring n) ≠ .stopped) ∨ s.saf.soA ≠ 0#8 ∨ s.saf.soB ≠ 0#8)) →
      Runs (.write h 0x1022 0 (toLE 1 m)) s fun t => t.plant = s.plant ∧
        Answered (writeReq h 0x1022 0 (toLE 1 m)) x 0xFF (toLE 4 0x03000008) t)
  ) ∧ (
    (∀ (s : State) (h : Hdr) (x : Session), Granted s h 0x1010 1 (toLE 4 0x524F5453) x → Runs (.store h) s fun t =>
      Answered (writeReq h 0x1010 1 (toLE 4 0x524F5453)) x 0xA1 [] t ∧ t.dict.storing = some s.rwsValues ∧
      t.dict.storeStatus = 1 ∧ t.dict.markerA = s.dict.markerA ∧ t.dict.store = s.dict.store ∧
      (s.dict.markerA = true → t.dict.copyA = s.dict.copyA ∧ (s.power.mramOk = true → t.dict.copyB.valid = false)) ∧
      (s.dict.markerA = false → t.dict.copyB = s.dict.copyB ∧ (s.power.mramOk = true → t.dict.copyA.valid = false)) ∧
      (s.power.mramOk = false → t.dict.copyA = s.dict.copyA ∧ t.dict.copyB = s.dict.copyB) ∧ t.fns = s.fns) ∧
    (∀ (s : State) (h : Hdr) (x : Session), Admitted s (writeReq h 0x1010 1 (toLE 4 0x524F5453)) x → 2 ≤ x.role →
      s.available 0x1010 true = true → s.dict.storing.isSome = true → Runs (.store h) s fun t => t.plant = s.plant ∧
        Answered (writeReq h 0x1010 1 (toLE 4 0x524F5453)) x 0xFF (toLE 4 0x05000002) t) ∧
    (∀ (s : State) (image : List ((Nat × Nat) × Octets)) (ok : Bool), s.dict.storing = some image →
      Runs (.storeComplete ok) s fun t => t.dict.storing = none ∧ t.dict.store = s.dict.store ∧ t.fns = s.fns ∧
        (if ok = true ∧ s.power.mramOk = true then
          t.dict.storeStatus = 2 ∧ t.dict.markerA = !s.dict.markerA ∧
          (if t.dict.markerA then t.dict.copyA else t.dict.copyB) = ⟨true, image⟩ ∧
          (if t.dict.markerA then t.dict.copyB else t.dict.copyA) = (if s.dict.markerA then s.dict.copyA else s.dict.copyB)
        else t.dict.storeStatus = 3 ∧ t.dict.markerA = s.dict.markerA ∧
          (if t.dict.markerA then t.dict.copyA else t.dict.copyB) = (if s.dict.markerA then s.dict.copyA else s.dict.copyB))) ∧
    (∀ (s : State) (h : Hdr) (x : Session), Granted s h 0x1011 1 (toLE 4 0x53464544) x → Runs (.restoreDefaults h) s fun t =>
      Answered (writeReq h 0x1011 1 (toLE 4 0x53464544)) x 0xA1 [] t ∧ t.dict.store = s.dict.store ∧ t.fns = s.fns ∧
      (if s.power.mramOk = true then t.dict.copyA.valid = false ∧ t.dict.copyB.valid = false ∧ t.dict.storeStatus = 5
        else t.dict.copyA = s.dict.copyA ∧ t.dict.copyB = s.dict.copyB ∧ t.dict.storeStatus = 3))
  )

/-! ### Rings as their master -/

/-- At a cycle start the master sends one caravan of that cycle, BEACON, MEASURE or RUN, none at the target of UNFOLD (R164, R221, R232, R237, R249, R259, R265, R270).
Rests on choices of the model: assumption log 71. -/
def Obligations.CycleStartSendsOneCaravan : Prop :=
  ∀ (s : State) (n : Fin 4), s.Shaped → s.sendsOn n → (s.ring n).takeover = false →
    let back := ∀ k0, (s.ring n).caravan = some k0 → (k0.retE || k0.retW) = true ∧ k0.trailer = true
    ((∀ g, (s.ring n).command = some g → g.target ≠ s.nextCycle n) →
      (s.loopBack n = true → inRange 1 2 (s.portLoop n true) = true ∨ inRange 1 2 (s.portLoop n false) = true) →
      Runs (.ringCycleStart n) s fun t => (t.ring n).cycle = some (s.nextCycle n) ∧ ∃ k, (t.ring n).caravan = some k ∧
        k.cycle = s.nextCycle n ∧ k.retE = false ∧ k.retW = false ∧ k.discarded = false ∧ k.trailer = false ∧ k.effect = 0 ∧
        (s.planFits n = true → headValid (k.octets.take 32) = true ∧ u8At k.octets 2 = k.kind ∧
          u64At k.octets 4 = k.cycle % 2 ^ 64 ∧ bitAt (u8At k.octets 3) 7 = k.folded ∧
          trailerValid (k.octets.drop (k.octets.length - 40)) = true) ∧
        (s.loopBack n = true → k.kind = 2) ∧
        (s.loopBack n = false → s.fnSt (.ring n) = .starting → back →
          k.kind = if (s.ring n).healMeasures (s.nextCycle n) = true then 3 else if (s.ring n).step = 1 then 2 else if (s.ring n).step = 2 then 3 else 1) ∧
        (s.loopBack n = false → s.fnSt (.ring n) = .running →
          k.kind = 1 ∨ k.kind = 3 ∧ ∀ k0, (s.ring n).caravan = some k0 → k0.kind ≠ 3) ∧
        (back → k.folded = ((s.ring n).folded || (s.ring n).foldDue))) ∧
    ((s.ring n).command = none → s.loopBack n = true → inRange 1 2 (s.portLoop n true) = false →
      inRange 1 2 (s.portLoop n false) = false →
      Runs (.ringCycleStart n) s fun t => (t.ring n).cycle = some (s.nextCycle n) ∧ (t.ring n).caravan = none) ∧
    (∀ g, (s.ring n).command = some g → g.target = s.nextCycle n → g.cmd = 4 → back →
      Runs (.ringCycleStart n) s fun t => (t.ring n).cycle = some (s.nextCycle n) ∧ (t.ring n).caravan = none ∧
        (t.ring n).command = none ∧ (t.ring n).folded = false ∧ (t.ring n).unfold = some (s.nextCycle n, false))

/-- A returned head ends the loss count; on PORTxW it gives R, on PORTxE of an unfolded caravan it is a fold; an invalid one is counted (R165, R211, R228, R232, R241, R247, R249, R251, R256, R267).
Rests on choices of the model: assumption logs 62, 71. -/
def Obligations.ReturnedHeadsJudgeTheRing : Prop :=
  ∀ (s : State) (n : Fin 4) (east : Bool) (o : Octets) (at_ : Nat) (k : Caravan), s.Shaped → s.masters n = true →
    (s.ring n).caravan = some k → s.loopBack n = false →
    let e := s.roleEast east
    let sent := headValid o = true ∧ s.headExpected n k o = true
    let passed := s.passOn n e at_ o
    (sent → e = (s.ring n).takePort → (e = true → k.folded = true) → (k.kind = 3 → s.isRunning (.ring n) = false) →
      Runs (.headReturn n east o at_) s fun t => t.core = (passed.onRing n fun r => { r with
        lost := 0, caravan := some { k with retE := k.retE || e, retW := k.retW || !e }
        unfold := r.unfold.map fun u => (u.1, u.2 || k.cycle == u.1 + 1)
        ringDelay := (1000 * ((at_ : Int) - ((cycleStart (s.period n) k.cycle : Int) - s.thetaNs))).toNat }).core) ∧
    (sent → e = (s.ring n).takePort → (e = true → k.folded = true) → k.kind = 3 → s.isRunning (.ring n) = true →
      Runs (.headReturn n east o at_) s fun t => ∀ i x, i < s.ringEntries n → (s.ring n).entries[i]? = some x →
        ∃ y, (t.ring n).entries[i]? = some y ∧ y.posted = true) ∧
    (headValid o = true → s.headExpected n k o = false → Runs (.headReturn n east o at_) s fun t => t.core = passed.core) ∧
    (sent → s.roleEast east = true → k.folded = false → k.retE = false → ¬ (k.kind = 3 ∧ k.retW = true) →
      Runs (.headReturn n east o at_) s fun t => t.raised (ringEvent n 0) ∧ (t.ring n).foldDue = true ∧
        (t.ring n).heal = some k.cycle ∧ (t.ring n).joins = [] ∧ (t.ring n).lost = 0 ∧
        (t.ring n).caravan = some { k with retE := true, discarded := true }) ∧
    (sent → s.roleEast east = true → k.folded = false → k.kind = 3 → k.retW = true →
      Runs (.headReturn n east o at_) s fun t => t.core = (passed.onRing n fun r => { r with
        lost := 0, caravan := some { k with retE := true }
        measure := r.measure.map fun m => { m with rx := some at_ } }).core) ∧
    (headValid o = false → nth (s.ring n).errors 0 0 < 0xFFFFFFFF →
      Runs (.headReturn n east o at_) s fun t => (t.ring n).lost = 0 ∧
        nth (t.ring n).errors 0 0 = nth (s.ring n).errors 0 0 + 1 ∧
        ∀ i, i ≠ 0 → nth (t.ring n).errors i 0 = nth (s.ring n).errors i 0)

/-- A returned pannier is judged by R178 and stands in its buffer; a valid trailer gives cut mask, node count, acknowledge, barrier and BEACON progress (R178, R179, R291, R698, 17 Fabric and memory, R200, R237, R242, R266, R267). -/
def Obligations.ReturnedPanniersAndTrailers : Prop :=
  (
    ∀ (s : State) (n : Fin 4) (e : Nat) (o : Octets) (at_ : Nat) (k : Caravan) (x : RingEntry), s.Shaped →
      s.isRunning (.ring n) = true → (s.ring n).tracking.on = false → (s.ring n).caravan = some k → k.kind = 1 →
      k.discarded = false → e < s.ringEntries n → e < 128 → (s.ring n).entries[e]? = some x → o.length ≤ 256 →
      let judged := crcCheck (o.take ((s.panEntry n e).len - 4)) (u32At o ((s.panEntry n e).len - 4))
      let known := judged == .good && u8At o 3 == 1
      Runs (.pannierReturn n e o at_) s fun t =>
        (∃ y, (t.ring n).entries[e]? = some y ∧ y.posted = true ∧ y.got = known ∧
          y.flags = (if known then u8At o 5 else x.flags) ∧ y.setpoint = x.setpoint ∧ y.sent = x.sent) ∧
        t.bazOctets (ringSlot n e k.cycle) o.length = o ∧
        (∀ f, (s.panEntry n e).flow? = some f → o ≠ [] → s.isRunning .waystation = true → bitAt (u8At o 5) 0 = true →
          (∀ j ∈ (s.ring n).joins, j.addr ≠ (s.panEntry n e).addr) →
          ∃ i ∈ t.way.queue.map (·.item) ++ t.way.held, i.flow = f ∧ i.origin = 0x800 + 0x80 * n.val + e ∧ i.payload = o ∧
            i.flags = if pannierAccepted (s.panEntry n e) k.cycle o = true then 0 else 0x80) ∧
        (∀ w, (8 * w + 8 ≤ ringSlot n e k.cycle ∨ ringSlot n e k.cycle + 0x100 ≤ 8 * w) →
          wordAt t.fab.mem w = wordAt s.fab.mem w) ∧
        (judged = .good → (t.ring n).errors = (s.ring n).errors) ∧
        (judged = .upstream → nth (s.ring n).errors 2 0 < 0xFFFFFFFF →
          (t.ring n).errors = upd (s.ring n).errors 2 fun v => v + 1) ∧
        (judged = .line → nth (s.ring n).errors 1 0 < 0xFFFFFFFF →
          (t.ring n).errors = upd (s.ring n).errors 1 fun v => v + 1)
  ) ∧ (
    ∀ (s : State) (n : Fin 4) (o : Octets) (at_ : Nat) (k : Caravan), s.Shaped → s.masters n = true →
      (s.ring n).caravan = some k →
      (trailerValid o = true → Runs (.trailerReturn n o at_) s fun t => (t.ring n).retCut = u32At o 12 ∧
        (t.ring n).nodes = min 255 (u16At o 2) ∧
        (t.ring n).unexpected = decide (u16At o 2 > (s.ringAddrs n).length) ∧
        (t.ring n).errors = (s.ring n).errors ∧
        ((s.ring n).barrier ≠ 0 → u16At o 4 = (s.ring n).barrier → u16At o 6 = (s.ringAddrs n).length →
          (t.ring n).barrier = 0 ∧ (t.ring n).barrierDone = k.cycle ∧ t.raised (ringEvent n 7)) ∧
        (¬ ((s.ring n).barrier ≠ 0 ∧ u16At o 4 = (s.ring n).barrier ∧ u16At o 6 = (s.ringAddrs n).length) →
          (t.ring n).barrier = (s.ring n).barrier ∧ (t.ring n).barrierDone = (s.ring n).barrierDone)) ∧
      (trailerValid o = false → nth (s.ring n).errors 3 0 < 0xFFFFFFFF → Runs (.trailerReturn n o at_) s fun t =>
        (t.ring n).retCut = 0 ∧ (t.ring n).nodes = (s.ring n).nodes ∧
        nth (t.ring n).errors 3 0 = nth (s.ring n).errors 3 0 + 1) ∧
      (s.isRunning (.ring n) = false → s.loopBack n = false → (s.ring n).step = 1 →
        Runs (.trailerReturn n o at_) s fun t =>
          let m := if trailerValid o = true ∧ u16At o 2 = (s.ringAddrs n).length then (s.ring n).stepCount + 1 else 0
          (t.ring n).step = (if 16 ≤ m then 2 else 1) ∧ (t.ring n).stepCount = (if 16 ≤ m then 0 else m))
  )

/-- Four cycles without a caravan give FAULT 0x0101; receive sync follows the port's role; a tracking unit takes cycle, FOLDED and time from valid heads (R159, R243, R256, R782, R784, R167, R216, R219, R783, R785, R786).
Rests on choices of the model: assumption logs 14, 62. -/
def Obligations.RingLossAndTrackingUnits : Prop :=
  (
    (∀ (s : State) (n : Fin 4), s.Shaped → 4 ≤ (s.ring n).lost → s.isActive (.ring n) = true → s.loopBack n = false →
      Runs (.ringLost n) s fun t => t.fn (.ring n) = ⟨.fault, 0x0101⟩ ∧ (t.ring n).caravan = none ∧
        (t.ring n).slot0 = none ∧ (s.namesRing n = true → t.pair.acting = false)) ∧
    (∀ (s : State) (n : Fin 4), (s.ring n).lost < 4 → exec (.ringLost n) s = .next s) ∧
    (∀ (s : State) (n : Fin 4) (east : Bool), s.Shaped → Runs (.portReceiveSyncLoss n east) s fun t =>
      (t.ring n).rxE = ((s.ring n).rxE && !(s.pair.pairSel != east)) ∧
      (t.ring n).rxW = ((s.ring n).rxW && (s.pair.pairSel != east)) ∧
      ∀ m, m ≠ n.val → t.ring m = s.ring m) ∧
    (∀ (s : State) (n : Fin 4) (east : Bool), s.Shaped → Runs (.receiveSyncGained n east) s fun t =>
      (t.ring n).rxE = ((s.ring n).rxE || (s.pair.pairSel != east)) ∧
      (t.ring n).rxW = ((s.ring n).rxW || !(s.pair.pairSel != east)) ∧
      ∀ m, m ≠ n.val → t.ring m = s.ring m)
  ) ∧ (
    ∀ (s : State) (n : Fin 4) (o : Octets) (second : Bool) (at_ : Nat), s.Shaped → s.isActive (.ring n) = true →
      (s.ring n).tracking.on = true →
      let known := headValid o && headKnown o
      let port := (s.ring n).trackPort != second
      (known = false → Runs (.trackingHeadReceived n o second at_) s fun t => t.core = (s.passOn n port at_ o).core) ∧
      (known = true → second = true → Runs (.trackingHeadReceived n o second at_) s fun t =>
        t.core = ((s.onRing n fun r => { r with measure := r.measure.map fun m => { m with rx := some at_ } }).passOn n port
          at_ o).core) ∧
      (known = true → second = false → Runs (.trackingHeadReceived n o second at_) s fun t =>
        let c := u64At o 4
        let folded := bitAt (u8At o 3) 7
        (t.ring n).cycle = some c ∧ (t.ring n).folded = folded ∧
        (t.ring n).tracking.lastHead = some (c, at_, folded) ∧ (t.ring n).tracking.kind = u8At o 2 ∧
        (s.fnSt (.ring n) = .starting → t.fnSt (.ring n) =
          (if fullCycle (s.ring n).tracking.lastHead (s.ring n).tracking.kind (u8At o 2) c at_
              (s.ring n).tracking.period = true then .running else .starting)) ∧
        (∀ g : Fn, g.exists = true → g ≠ .ring n → t.fn g = s.fn g) ∧
        (∀ q, nth s.pair.q n none = some q → n.val = s.boardRing → folded = false → s.isRunning .pairing = true →
          t.pair.theta = 1000 * (cycleStart (s.period n) c : Int) + q - 1000 * (at_ : Int)))
  )

/-- A courier response answers its request, an unanswered one is sent 3 times again; global commands, UNFOLD and a barrier wait for the next heads (R189, R192, R200, R207, R238, R245, R258, R259, R262, R263, R266).
Rests on choices of the model: assumption log 71. -/
def Obligations.CourierAndGlobalCommands : Prop :=
  (
    (∀ (s : State) (n : Fin 4) (o : Octets) (v : Bool) (at_ last : Nat), s.masters n = true → s.isActive (.ring n) = true →
      (s.ring n).cycle = some last →
      let good := !v && courierValid o
      let a := u8At o 1
      let c := s.gapCycle n last at_
      let off : Int := 10 * ((at_ : Int) - ((cycleStart (s.period n) c : Int) - s.thetaNs)) - (s.gamma10 n a : Int) -
        ((s.ring n).ringDelay / 100 : Nat)
      (good = false → Runs (.courierFrameReceived n o v at_) s fun t => t.core = s.core) ∧
      (good = true → 1 ≤ a → a ≤ 32 → (off > 400 ∨ off < -400) →
        ((∀ k, (s.ring n).caravan = some k → k.cycle ≠ c + 1) → Runs (.courierFrameReceived n o v at_) s fun t =>
          t.core = (s.onRing n fun r => { r with cuts := setBits r.cuts (1 <<< (a - 1)) }).core) ∧
        (∀ k, (s.ring n).caravan = some k → k.cycle = c + 1 → 40 ≤ k.octets.length →
          10 * (at_ : Int) < 10 * ((cycleStart (s.period n) k.cycle : Int) - s.thetaNs) + wireTime (k.octets.length - 40) →
          Runs (.courierFrameReceived n o v at_) s fun t => (t.ring n).cuts = (s.ring n).cuts ∧
            ∃ k', (t.ring n).caravan = some k' ∧ k'.cycle = k.cycle ∧
              k'.octets.take (k.octets.length - 40) = k.octets.take (k.octets.length - 40) ∧
              u32At (k'.octets.drop (k.octets.length - 40)) 12 =
                setBits (u32At (k.octets.drop (k.octets.length - 40)) 12) (1 <<< (a - 1)))) ∧
      (∀ x, good = true → -400 ≤ off → off ≤ 400 → u8At o 3 = 2 → u8At o 2 = 0 →
        ((s.ring n).svcOut.find? fun y => y.req.dest == a && y.msg == u16At o 6) = some x →
        (x.req.op ≠ 1 ∨ (u8At o 9 ≠ 0x04 ∧ u8At o 9 ≠ 0x05)) → 2 ≤ u16At o 4 →
        Runs (.courierFrameReceived n o v at_) s fun t => t.core = (s.onRing n fun r => { r with
          svcOut := r.svcOut.filter fun y => !(y.req.dest == a && y.msg == u16At o 6) }).core)) ∧
    (∀ (s : State) (n : Fin 4) (a : Nat), (s.ring n).svcOut.find? (·.req.dest == a) = none →
      exec (.nodeServiceTimeout n a) s = .next s) ∧
    (∀ (s : State) (n : Fin 4) (a c : Nat) (x : SvcOut), (s.ring n).svcOut.find? (·.req.dest == a) = some x →
      (s.ring n).cycle = some c → c < x.sentAt + 8 → exec (.nodeServiceTimeout n a) s = .next s) ∧
    (∀ (s : State) (n : Fin 4) (a c : Nat) (x : SvcOut), (s.ring n).svcOut.find? (·.req.dest == a) = some x →
      (s.ring n).cycle = some c → x.sentAt + 8 ≤ c → x.due = false →
      (x.resends < 3 → Runs (.nodeServiceTimeout n a) s fun t => t.way = s.way ∧ t.core = (s.onRing n fun r => { r with
        svcOut := r.svcOut.map fun y =>
          if y.req.dest = a then { y with due := true, resends := y.resends + 1 } else y }).core) ∧
      (3 ≤ x.resends → Runs (.nodeServiceTimeout n a) s fun t => t.raised (ringEvent n 12) ∧
        t.core = (s.onRing n fun r => { r with
          svcOut := r.svcOut.filter fun y => y.req.dest != a
          svcQueue := if x.req.op = 1 ∧ (x.req.param = 0x04 ∨ x.req.param = 0x05) then r.svcQueue ++ [x.req]
            else r.svcQueue }).core))
  ) ∧ (
    (∀ (s : State) (n : Fin 4) (h : Hdr) (arg target : Nat) (x : Session) (c : Instr) (cmd : Nat),
      (c, cmd) ∈ [(.snapshot n arg target h, 1), (.outputReset n arg target h, 2), (.mode n arg target h, 3)] →
      arg < 256 → target < 2 ^ 48 → Granted s h (0x3040 + 0x200 * n.val) 0 (globalCommand cmd arg target) x →
      Runs c s fun t => Answered (writeReq h (0x3040 + 0x200 * n.val) 0 (globalCommand cmd arg target)) x 0xA1 [] t ∧
        let next := (s.arrived h).cycleAhead n
        let T := commandTarget next target
        t.plant = (s.onRing n fun r => { r with command := some ⟨cmd, arg, T, 0, max next (T - 16)⟩, cmdTarget := T }).plant) ∧
    (∀ (s : State) (n : Fin 4) (h : Hdr) (x : Session), Granted s h (0x3048 + 0x200 * n.val) 0 (toLE 1 1) x →
      Runs (.unfoldRequest n h) s fun t => Answered (writeReq h (0x3048 + 0x200 * n.val) 0 (toLE 1 1)) x 0xA1 [] t ∧
        let next := (s.arrived h).cycleAhead n
        t.plant = (s.onRing n fun r => { r with command := some ⟨4, 0, next + 4, 0, next⟩, cmdTarget := next + 4 }).plant) ∧
    (∀ (s : State) (n : Fin 4) (h : Hdr) (ident : Nat) (x : Session), ident < 0x10000 →
      Granted s h (0x3042 + 0x200 * n.val) 0 (toLE 2 ident) x → Runs (.barrierRequest n ident h) s fun t =>
        Answered (writeReq h (0x3042 + 0x200 * n.val) 0 (toLE 2 ident)) x 0xA1 [] t ∧
        t.plant = (s.onRing n fun r => { r with
          barrier := ident, barrierFrom := (s.arrived h).cycleAhead n, barrierDone := 0 }).plant) ∧
    (∀ (s : State) (n : Fin 4) (h : Hdr) (cmd arg target : Nat) (x : Session), inRange 1 3 cmd = true → arg < 256 →
      target < 2 ^ 48 → Admitted s (writeReq h (0x3040 + 0x200 * n.val) 0 (globalCommand cmd arg target)) x → 1 ≤ x.role →
      s.available (0x3040 + 0x200 * n.val) true = true →
      let refused := fun (code : Nat) =>
        Runs (.write h (0x3040 + 0x200 * n.val) 0 (globalCommand cmd arg target)) s fun t => t.plant = s.plant ∧
          Answered (writeReq h (0x3040 + 0x200 * n.val) 0 (globalCommand cmd arg target)) x 0xFF (toLE 4 code) t
      (((s.ring n).command.isSome = true ∨ s.fnSt (.ring n) ≠ .running) → refused 0x03000008) ∧
      ((s.ring n).command = none → s.fnSt (.ring n) = .running →
        commandTarget ((s.arrived h).cycleAhead n) target < (s.arrived h).cycleAhead n + 2 → refused 0x03000007)) ∧
    (∀ (s : State) (n : Fin 4) (h : Hdr) (x : Session) (off : Nat) (v : Octets), 1 ≤ x.role →
      s.available (0x3000 + 0x200 * n.val + off) true = true →
      ((off = 0x48 ∧ v = toLE 1 1 ∧ ((s.ring n).folded = false ∨ (s.ring n).command.isSome = true)) ∨
        (off = 0x42 ∧ v.length = 2 ∧ (s.ring n).barrier ≠ 0)) →
      Admitted s (writeReq h (0x3000 + 0x200 * n.val + off) 0 v) x →
      Runs (.write h (0x3000 + 0x200 * n.val + off) 0 v) s fun t => t.plant = s.plant ∧
        Answered (writeReq h (0x3000 + 0x200 * n.val + off) 0 v) x 0xFF (toLE 4 0x03000008) t)
  )

/-! ### The time base -/

/-- A PPS sample is discarded, steps the Regulator or corrects the increment by Table 06-6; step and increment writes wait a tick or are refused (R279, R280, R281, R282, R686, R823, R277, R278).
Rests on choices of the model: assumption log 60. -/
def Obligations.ServoFollowsItsSamplesAndWrites : Prop :=
  (
    (∀ (s : State) (at_ : Nat), (s.time.mode ≠ 1 ∨ s.fnSt .timeBase ≠ .running ∨ s.time.disc = 0) →
      Runs (.ppsEdge at_) s fun t => t.core = s.core ∧ t.time = s.time.advance at_) ∧
    (∀ (s : State) (at_ : Nat), s.time.mode = 1 → s.fnSt .timeBase = .running → 1 ≤ s.time.disc → s.time.disc ≤ 3 →
      let b := s.time.advance at_
      let stamp := (2 * roundEven (b.fine : Int) (2 ^ 49)).toNat % 1000000000
      let ns : Int := if stamp ≤ 500000000 then (stamp : Int) else (stamp : Int) - 1000000000
      let th : Int := 65536 * ns
      let outlier := b.accepted && decide ((th - b.thetaLast).natAbs > 65536 * s.cfg 0x3E06 1) && decide (b.discards < 4)
      let steps := decide (b.disc ≠ 2) && decide (th.natAbs > 65536 * s.cfg 0x3E06 2)
      let v := ((b.fine : Int) - th * 2 ^ 32).toNat
      let y0 : Int := if b.disc = 3 then (b.inc : Int) - 2 ^ 49 else b.y
      let y1 : Int := y0 - roundEven (th * 2 ^ 49) (16 * 65536 * 1000000000)
      let run := if ns.natAbs ≤ 100 then (if b.disc = 3 then 1 else b.lockRun + 1) else 0
      Runs (.ppsEdge at_) s fun t => t.core = s.core ∧
        (outlier = true → t.time = { b with discards := b.discards + 1 }) ∧
        (outlier = false → t.time.accepted = decide (t.time.disc ≠ 1 ∨ b.disc ≠ 2) ∧
          t.time.offset = ns ∧
          (steps = true → t.time.inc = b.inc ∧
            t.time.pendStep = some (v / 2 ^ 48 / 1000000000, v / 2 ^ 48 % 1000000000, v % 2 ^ 48)) ∧
          (steps = false → t.time.pendStep = b.pendStep ∧ t.time.inc =
            ((2 : Int) ^ 49 + clampInt (-ppm500) ppm500 (y1 - roundEven (th * 2 ^ 49) (4 * 65536 * 1000000000))).toNat) ∧
          t.time.disc = (if b.disc = 2 then (if ns.natAbs > 1000 then 1 else 2)
            else if 16 ≤ run then 2 else 1) ∧
          (b.disc = 1 → 16 ≤ run → t.raised 16))) ∧
    (∀ s : State, s.fnSt .timeBase = .running → (s.time.disc = 1 ∨ s.time.disc = 2) →
      Runs .disciplineHoldoverTimeout s fun t => t.core = s.core ∧ t.raised 17 ∧ t.time.disc = 3 ∧
        t.time.inc = ((2 : Int) ^ 49 + s.time.y).toNat ∧ t.time.ringNs = s.time.ringNs) ∧
    (∀ s : State, (s.fnSt .timeBase ≠ .running ∨ (s.time.disc ≠ 1 ∧ s.time.disc ≠ 2)) →
      exec .disciplineHoldoverTimeout s = .next s) ∧
    (∀ s : State, s.Shaped → 2 ≤ s.time.mode → s.time.mode ≤ 3 → s.time.announced = true → s.fnSt .timeBase = .running →
      (s.time.disc = 1 ∨ s.time.disc = 2) → Runs .announceTimeout s fun t => t.raised 17 ∧ t.time.disc = 3 ∧
        t.time.inc = ((2 : Int) ^ 49 + s.time.y).toNat ∧ (t.port (s.time.mode - 2)).ptp.master = none ∧ t.fns = s.fns) ∧
    (∀ s : State, (s.time.mode < 2 ∨ s.time.announced = false) → exec .announceTimeout s = .next s)
  ) ∧ (
    (∀ (s : State) (h : Hdr) (sec ns : Nat) (x : Session), sec < 2 ^ 64 → ns < 2 ^ 32 →
      Granted s h 0x3E02 0 (time96 sec ns) x → Runs (.regulatorStep sec ns h) s fun t => t.plant = s.plant ∧
        Answered (writeReq h 0x3E02 0 (time96 sec ns)) x 0xA1 [] t ∧
        t.time = { (s.arrived h).time with pendStep := some (sec, ns, 0) }) ∧
    (∀ (s : State) (h : Hdr) (v : Nat) (x : Session), v < 2 ^ 64 → Granted s h 0x3E03 2 (toLE 8 v) x →
      Runs (.incrementWrite v h) s fun t => t.plant = s.plant ∧
        Answered (writeReq h 0x3E03 2 (toLE 8 v)) x 0xA1 [] t ∧ t.time = { (s.arrived h).time with pendInc := some v }) ∧
    (∀ (s : State) (h : Hdr) (sec ns : Nat) (x : Session), Admitted s (writeReq h 0x3E02 0 (time96 sec ns)) x → 1 ≤ x.role →
      s.available 0x3E02 true = true → s.isActive .timeBase = true → s.time.mode ≠ 0 →
      Runs (.regulatorStep sec ns h) s fun t => t.plant = s.plant ∧ t.time = (s.arrived h).time ∧
        Answered (writeReq h 0x3E02 0 (time96 sec ns)) x 0xFF (toLE 4 0x03000008) t) ∧
    (∀ (s : State) (h : Hdr) (v : Nat) (x : Session), Admitted s (writeReq h 0x3E03 2 (toLE 8 v)) x → 1 ≤ x.role →
      s.available 0x3E03 true = true → s.isActive .timeBase = true → s.time.mode ≠ 0 →
      Runs (.incrementWrite v h) s fun t => t.plant = s.plant ∧ t.time = (s.arrived h).time ∧
        Answered (writeReq h 0x3E03 2 (toLE 8 v)) x 0xFF (toLE 4 0x03000008) t)
  )

/-! ### The Waystation -/

/-- Entry `q` of the queue is ready for class `c` and no other ready entry of that class goes before it (R300, R301). -/
def firstReady (s : State) (c : Consumer) (q : Queued) (f : FlowInfo) : Prop :=
  q ∈ s.way.queue ∧ flowInfo s.way.table q.item.flow = some f ∧ f.cls = c ∧ ∃ tq, q.ready = some tq ∧
  ∀ q' ∈ s.way.queue, ∀ t' f', q'.ready = some t' → flowInfo s.way.table q'.item.flow = some f' → f'.cls = c →
    f'.priority < f.priority ∨ (f'.priority = f.priority ∧ (tq < t' ∨ (tq = t' ∧ q.item.flow ≤ q'.item.flow)))

/-- What the completion of a PWM period item does to its group: the shadows take the words of its cycle (R618). -/
def itemDone (s : State) (it : Item) : State :=
  if 96 ≤ it.flow ∧ it.flow ≤ 103 then
    let w := (List.range 3).map fun p => wordAt (nth s.le.pubs (it.cyc % 4) []) (0x700 + 16 * (it.flow - 96) + p)
    s.onGroup (it.flow - 96) fun x => { x with itemOpen := false, shadow := w }
  else s

/-- The ready item of highest priority, then earliest, then lowest flow goes to the lowest free position of its class (R22, R300, R301, R302, R304, R306, R308).
Rests on choices of the model: assumption log 64. -/
def Obligations.ReadyItemsAreDispatchedInOrder : Prop :=
  (∀ (s : State) (c : Fin 8) (q : Queued) (f : FlowInfo) (p : Nat), 1 ≤ c.val → s.Shaped → s.isRunning .waystation = true →
    s.consumes (consumerOf c) = true → firstReady s (consumerOf c) q f →
    let b := (consumerOf c).places
    b.1 ≤ p → p < b.1 + b.2 → nth s.way.positions p none = none →
    (∀ i, b.1 ≤ i → i < p → nth s.way.positions i none ≠ none) →
    Runs (.itemDispatch c) s fun t => ∃ q' ∈ s.way.queue, firstReady s (consumerOf c) q' f ∧ q'.item.flow = q.item.flow ∧
      let it := s.fetchItem q'.item
      ∃ u : State, u.core = s.core ∧ u.way.positions = upd s.way.positions p (fun _ => some it) ∧
        (∃ i, s.way.queue[i]? = some q' ∧ u.way.queue.map (·.item) = (s.way.queue.eraseIdx i).map (·.item)) ∧
        t = (if it.flow = 120 then u.traceSend it.payload else u.takeItem it) ∧ (it.flow ≠ 118 → it.flow ≠ 120 → t = u)) ∧
  (∀ (s : State) (q : Queued) (f : FlowInfo) (k : Nat), s.Shaped → s.isRunning .waystation = true →
    s.isRunning .loopEngines = true → firstReady s .loopEngine q f → k < 16 → (s.engine k).idle = true →
    (f.priority ≤ 6 → (∀ i, i < k → (s.engine i).idle = false) → Runs (.itemDispatch 0) s fun t =>
      ∃ q' ∈ s.way.queue, firstReady s .loopEngine q' f ∧ q'.item.flow = q.item.flow ∧
        t.way.positions = upd s.way.positions (3 * k + 1) (fun _ => some q'.item) ∧
        ∃ x, (t.engine k).normal = some x ∧ x.item = s.fetchItem q'.item ∧ x.regs.cycles = 0 ∧ x.filled = !f.atomic) ∧
    (f.priority = 7 → (s.engine k).urgent = none → (∀ i, i < k → ((s.engine i).idle && (s.engine i).urgent.isNone) = false) →
      Runs (.itemDispatch 0) s fun t => ∃ q' ∈ s.way.queue, firstReady s .loopEngine q' f ∧ q'.item.flow = q.item.flow ∧
        t.way.positions = upd s.way.positions (3 * k + 2) (fun _ => some q'.item) ∧ (t.engine k).inUrgent = true ∧
        ∃ x, (t.engine k).urgent = some x ∧ x.item = s.fetchItem q'.item)) ∧
  (∀ (s : State) (c : Fin 8), (∀ q ∈ s.way.queue, q.ready = none) → exec (.itemDispatch c) s = .next s)

/-- A completion frees its position, an error raises EV2, each gate of its flow counts one and posts, holds or replaces its item at 0 (R305, R314, R315, R316, R317, R320, R618). -/
def Obligations.CompletionsFreePositionsAndCountGates : Prop :=
  (∀ (s : State) (p : Fin 112) (it : Item) (err : Bool), s.Shaped → 48 ≤ p.val → nth s.way.positions p none = some it →
    s.way.finished.find? (·.1 == p.val) = none → s.isRunning .waystation = true →
    s.way.gatesOf it.flow = [] → Runs (.itemCompletion p err) s fun t => t.core = (itemDone s it).core ∧
      t.way.positions = upd s.way.positions p (fun _ => none) ∧ t.way.gates = s.way.gates ∧
      (err = true → t.raised 2 ∧ bitAt t.way.sticky 0 = true) ∧
      (err = false → t.way.queue.map (·.item) = s.way.queue.map (·.item) ∧ t.way.pend = s.way.pend)) ∧
  (∀ (s : State) (p : Fin 112) (it : Item) (g : Nat) (x : Gate), s.Shaped → 48 ≤ p.val → nth s.way.positions p none = some it →
    s.way.finished.find? (·.1 == p.val) = none → s.isRunning .waystation = true →
    s.way.gatesOf it.flow = [g] → s.way.gates[g]? = some x →
    let e := s.way.gateEntry g
    let target := u16At e 0
    let fired := (x.fired + 1) % 2 ^ 32
    let item : Item := ⟨target, 0x400 + g, 0xFFFFFFFF, 0, if x.late then 0x20 else 0, fired, [], s.boardCycle⟩
    let room := (s.setPos p none).way.hasRoom target
    let again : Option Item → Gate := fun h => ⟨u8At e 2, if u16At e 4 = 0 then none else some (u16At e 4), fired, h, false⟩
    (1 < x.count → Runs (.itemCompletion p false) s fun t => t.core = (itemDone s it).core ∧ t.way.pend = s.way.pend ∧
      t.way.gates = upd s.way.gates g (fun y => { y with count := y.count - 1 }) ∧
      t.way.queue.map (·.item) = s.way.queue.map (·.item)) ∧
    (x.count ≤ 1 → x.held = none → room = true → g < 0x400 → Runs (.itemCompletion p false) s fun t => t.core = (itemDone s it).core ∧
      t.way.gates = upd s.way.gates g (fun _ => again none) ∧
      Joins s t item) ∧
    (x.count ≤ 1 → x.held = none → room = false → Runs (.itemCompletion p false) s fun t => t.core = (itemDone s it).core ∧ t.raised 0 ∧
      t.way.gates = upd s.way.gates g (fun _ => again (some { item with cyc := 0 })) ∧ bitAt t.way.sticky 2 = true) ∧
    (∀ h, x.count ≤ 1 → x.held = some h → Runs (.itemCompletion p false) s fun t => t.core = (itemDone s it).core ∧ t.raised 3 ∧
      t.way.gates = upd s.way.gates g (fun _ => again (some h)) ∧ bitAt t.way.sticky 3 = true)) ∧
  (∀ (s : State) (p : Fin 112) (it : Item) (e err : Bool), s.way.finished.find? (·.1 == p.val) = some (p.val, it, e) →
    s.isRunning .waystation = true → s.way.gatesOf it.flow = [] → Runs (.itemCompletion p err) s fun t =>
      t.core = (itemDone s it).core ∧ t.way.finished = s.way.finished.erase (p.val, it, e) ∧
      t.way.positions = s.way.positions ∧ (e = true → t.raised 2)) ∧
  (∀ (s : State) (p : Fin 112) (err : Bool), s.Shaped → nth s.way.positions p none = none →
    s.way.finished.find? (·.1 == p.val) = none → s.isActive .waystation = true →
    Runs (.itemCompletion p err) s fun t => t.fn .waystation = ⟨.fault, 0x0102⟩)

/-- Held items enter when there is room, delayed items at their tick; event requests raise one software event or clear one pending or sticky bit (R294, R299, R311, R312, R313, R317, R318, R319, R320, R324, R326, R333).
Rests on choices of the model: assumption log 64. -/
def Obligations.HeldDelayedAndEventItems : Prop :=
  (
    (∀ (s : State) (it : Item), s.isRunning .waystation = true → s.way.nextHeld = some it → it ∈ s.way.held ∧
      s.way.hasRoom it.flow = true ∧ (∀ i ∈ s.way.held, s.way.hasRoom i.flow = true → it.origin ≤ i.origin) ∧
      Runs .heldItemEntry s fun t => t.core = s.core ∧ t.way.held = s.way.held.erase it ∧ t.way.pend = s.way.pend ∧
        Joins s t (s.stamped it)) ∧
    (∀ s : State, (∀ i ∈ s.way.held, s.way.hasRoom i.flow = false) → exec .heldItemEntry s = .next s) ∧
    (∀ (s : State) (g : Fin 1024) (x : Gate) (it : Item), s.isRunning .waystation = true → s.way.gates[g.val]? = some x →
      x.held = some it → s.way.hasRoom it.flow = true → Runs (.gateHeldPost g) s fun t => t.core = s.core ∧
        t.way.gates = upd s.way.gates g (fun y => { y with held := none }) ∧ t.way.pend = s.way.pend ∧
        Joins s t (s.stamped it)) ∧
    (∀ (s : State) (g : Fin 1024), (∀ x, s.way.gates[g.val]? = some x → x.held = none) → exec (.gateHeldPost g) s = .next s) ∧
    (∀ (s : State) (d : Fin 4), s.isRunning .waystation = true → s.time.ticking = true → s.time.pendStep = none →
      0 < wayTick s.way.table d → Runs (.delayListTick d) s fun t => t.core = s.core ∧ s.time.ringNs ≤ t.time.ringNs ∧
        (∀ v, s.way.ticks[d.val]? = some v → t.way.ticks[d.val]? = some (wayTick s.way.table d * (v / wayTick s.way.table d + 1))) ∧
        (∀ x ∈ t.way.delayed, x.list = d.val → 0 < x.ticks) ∧
        t.way.delayed = (s.way.delayed.map fun x => if x.list = d.val then { x with ticks := x.ticks - 1 } else x).filter
          (fun x => !(x.list == d.val && x.ticks == 0)) ∧
        (let name := fun (i : Item) => (i.flow, i.origin, i.tag, i.buffer)
         let due := (s.way.delayed.filter fun x => x.list == d.val && decide (x.ticks ≤ 1)).map fun x => name x.item
         (t.way.queue.map fun q => name q.item).Perm ((s.way.queue.map fun q => name q.item) ++ due) ∧
         ∀ f : Nat, (due.filter (·.1 == f)).Sublist (t.way.queue.map fun q => name q.item)) ∧
        (∀ (g : Nat) (x : Gate), s.way.gates[g]? = some x → t.way.gates[g]? = some (
          if u8At (s.way.gateEntry g) 3 = d.val then { x with wait := x.wait.map fun n => n - 1 } else x))) ∧
    (∀ (s : State) (g : Fin 1024) (x : Gate), s.isRunning .waystation = true → s.way.gates[g.val]? = some x → x.wait = some 0 →
      Runs (.gateWaitTimeout g) s fun t => t.core = s.core ∧ t.raised 1 ∧ bitAt t.way.sticky 1 = true ∧
        t.way.gates = upd s.way.gates g (fun y => { y with wait := none, late := true })) ∧
    (∀ (s : State) (g : Fin 1024), (∀ x, s.way.gates[g.val]? = some x → x.wait ≠ some 0) →
      exec (.gateWaitTimeout g) s = .next s)
  ) ∧ (
    (∀ (s : State) (h : Hdr) (ev : Nat) (x : Session), ev < 512 → Granted s h 0x2022 0 (toLE 2 ev) x →
      Runs (.eventRaise ev h) s fun t => Answered (writeReq h 0x2022 0 (toLE 2 ev)) x 0xA1 [] t ∧ t.plant = s.plant ∧
        t.raised ev) ∧
    (∀ (s : State) (h : Hdr) (ev : Nat) (x : Session), ev < 512 → h.src.port < 2 → s.time.pendStep = none →
      (∀ i ∈ (s.port h.src.port).counts, i + 2 < 2 ^ 32) → Granted s h 0x2021 0 (toLE 2 ev) x → Runs (.eventClear ev h) s fun t =>
        Answered (writeReq h 0x2021 0 (toLE 2 ev)) x 0xA1 [] t ∧ t.plant = s.plant ∧
        ∀ e, t.way.pend.getLsbD e = (s.way.pend.getLsbD e && (e != ev || (s.arrived h).coincident.1.getLsbD e))) ∧
    (∀ (s : State) (h : Hdr) (mask : Nat) (x : Session), mask < 2 ^ 8 → h.src.port < 2 → s.time.pendStep = none →
      (∀ i ∈ (s.port h.src.port).counts, i + 2 < 2 ^ 32) → Granted s h 0x2031 0 (toLE 1 mask) x → Runs (.waystationStatusClear mask h) s fun t =>
        Answered (writeReq h 0x2031 0 (toLE 1 mask)) x 0xA1 [] t ∧ t.plant = s.plant ∧
        ∀ b, bitAt t.way.sticky b = (bitAt s.way.sticky b && (!bitAt mask b || bitAt (s.arrived h).coincident.2 b)))
  )

/-! ### The loop engines' instructions -/

/-- The word that engine `k` reads for the item `x` from its X memory, or from its Y memory. -/
def memWord (s : State) (k : Fin 16) (x : Exec) (ym : Bool) (a : Nat) : Nat :=
  if ym then (s.coreOf k x).readY s.le a else (s.coreOf k x).readX s.le a

/-- The operand that SRC names as a whole accumulator value (R358, Table 08-10). -/
def srcValue (v : RegBank) (d : Bool) (src : Nat) : Int :=
  if src = 4 then v.acc (!d) else ([v.x0, v.x1, v.y0, v.y1].getD src 0#24).toInt * 2 ^ 24

/-- The product that SRC names, in the accumulator's scale (R357, Table 08-10). -/
def product (v : RegBank) (src : Nat) : Int :=
  2 * ([v.x0.toInt * v.y0.toInt, v.x0.toInt * v.y1.toInt, v.x1.toInt * v.y0.toInt, v.x1.toInt * v.y1.toInt,
    v.x0.toInt * v.x0.toInt, v.x1.toInt * v.x1.toInt, v.y0.toInt * v.y0.toInt, v.y1.toInt * v.y1.toInt].getD src 0)

/-- The register file after an indirect access has stepped its pointer (R364, R365). -/
def stepped (v r : RegBank) (ptr md : Nat) : RegBank :=
  let by_ : Int := if md = 1 then 1 else if md = 2 then -1 else if md = 3 then (nth v.nV ptr 0#14).toInt else 0
  if md = 0 then r else { r with p := upd r.p ptr fun _ => stepPtr (nth v.pV ptr 0#14) by_ (nth v.mV ptr 0#14) }

/-- The register file after a move has read a register, K set when the value was saturated (R361). -/
def readFrom (v r : RegBank) (code : Nat) : RegBank :=
  if (v.read code).2 then r.putSr (setBits r.sr.toNat flK) else r

/-- The register file after a parallel move (Table 08-10). -/
def parMoved (s : State) (k : Fin 16) (x : Exec) (ym : Bool) (m : Option ParMove) (r : RegBank) : RegBank :=
  match m with
  | none => r
  | some p =>
    let i := if ym then 4 + p.ptr else p.ptr
    let a := (nth x.regs.pV i 0#14).toNat
    let r1 := stepped x.regs r i p.md
    if p.store then readFrom x.regs r1 (parReg ym p.reg) else r1.write (parReg ym p.reg) (memWord s k x ym a)

/-- Every ALU instruction leaves its saturated result and its flags; MULR, MADR, RND round ties away from zero; AND, OR, XOR act on the high part (R357, R358, R359, R363, R367, R379, R817, R824, R825, 08 Loop engine, R360).
Rests on choices of the model: assumption logs 57, 59. -/
def Obligations.AluRoundingAndLogic : Prop :=
  (
    ∀ (s : State) (k : Fin 16) (x : Exec) (d : Bool) (src : Nat) (px py : Option ParMove),
      let D := x.regs.acc d
      let S := srcValue x.regs d src
      let P := product x.regs src
      let r0 := parMoved s k x true py (parMoved s k x false px x.regs)
      (∀ (c : Instr) (o src' : Nat) (r : Int) (cy : Bool),
        (c, o, src', r, cy) ∈ [(.clr k d px py, 0x01, 0, 0, false), (.cpy k d src px py, 0x02, src, S, false),
          (.add k d src px py, 0x03, src, D + S, carry56 D S), (.sub k d src px py, 0x04, src, D - S, borrow56 D S),
          (.neg k d px py, 0x06, 0, -D, decide (D ≠ 0)), (.abs k d px py, 0x07, 0, (D.natAbs : Int), decide (D < 0)),
          (.mul k d src px py, 0x08, src, P, false), (.muln k d src px py, 0x09, src, -P, false),
          (.mac k d src px py, 0x0A, src, D + P, carry56 D P), (.msu k d src px py, 0x0B, src, D - P, borrow56 D P),
          (.asl k d px py, 0x10, 0, 2 * D, decide (D < 0)), (.asr k d px py, 0x11, 0, D / 2, decide (D % 2 ≠ 0)),
          (.max k d src px py, 0x12, src, max D S, false), (.min k d src px py, 0x13, src, min D S, false),
          (.sat k d px py, 0x17, 0, satQ23 D, false)] →
        Issues s k x (.alu o d src' px py) → Runs c s fun t => ∃ y, Went s k x (.alu o d src' px py) t y ∧
          y.regs.acc d = satSigned 56 r ∧ flagsOf y.regs r cy ∧ y.regs.acc (!d) = r0.acc (!d) ∧
          y.regs.file.2.1 = r0.file.2.1 ∧ y.regs.file.2.2.1 = r0.file.2.2.1 ∧ Follows x (.alu o d src' px py) y ∧
          (o = 0x17 → D ≠ r → bitAt y.regs.sr.toNat 7 = true) ∧ (px = none → py = none → Kept s k x t y)) ∧
      (∀ (c : Instr) (o src' : Nat) (r : Int) (cy : Bool),
        (c, o, src', r, cy) ∈ [(.cmp k d src px py, 0x05, src, D - S, borrow56 D S), (.tst k d px py, 0x0F, 0, D, false)] →
        Issues s k x (.alu o d src' px py) → Runs c s fun t => ∃ y, Went s k x (.alu o d src' px py) t y ∧
          flagsOf y.regs r cy ∧ y.regs.file.1 = r0.file.1 ∧ y.regs.file.2.1 = r0.file.2.1 ∧
          y.regs.file.2.2.1 = r0.file.2.2.1 ∧ Follows x (.alu o d src' px py) y) ∧
      (∀ (right : Bool) (n : Nat), Issues s k x (.shift right d n) →
        let r := if right then D / 2 ^ n else D * 2 ^ n
        let cy := if right then bitAt (ofSigned 56 D) (n - 1) else bitAt (ofSigned 56 D) (56 - n)
        Runs (if right then .shrn k d n else .shln k d n) s fun t => ∃ y, Went s k x (.shift right d n) t y ∧
          y.regs.acc d = satSigned 56 r ∧ flagsOf y.regs r cy ∧ y.regs.acc (!d) = x.regs.acc (!d) ∧
          y.regs.file.2.1 = x.regs.file.2.1 ∧ y.regs.file.2.2.1 = x.regs.file.2.2.1 ∧ Kept s k x t y ∧
          Follows x (.shift right d n) y) ∧
      (∀ (neg : Bool) (i j : Nat), Issues s k x (.ftap d neg i j) →
        let pi := nth x.regs.pV i 0#14
        let pj := nth x.regs.pV j 0#14
        let X := memWord s k x false pi.toNat
        let p := 2 * (toSigned 24 X * toSigned 24 (memWord s k x true pj.toNat))
        let to_ := (stepPtr pi 1 (nth x.regs.mV i 0#14)).toNat
        Runs (.ftap k d neg i j) s fun t => ∃ y, Went s k x (.ftap d neg i j) t y ∧
          y.regs.acc d = satSigned 56 (if neg then D - p else D + p) ∧
          flagsOf y.regs (if neg then D - p else D + p) (if neg then borrow56 D p else carry56 D p) ∧
          y.regs.acc (!d) = x.regs.acc (!d) ∧ y.regs.file.2.1 = x.regs.file.2.1 ∧
          y.regs.p = upd (upd x.regs.p i fun _ => stepPtr pi (-1) (nth x.regs.mV i 0#14)) j
            (fun _ => stepPtr pj 1 (nth x.regs.mV j 0#14)) ∧
          (0x3000 ≤ to_ → to_ < 0x3C00 → X < 2 ^ 24 → wordAt (t.engine k).scrX to_ = X) ∧ Follows x (.ftap d neg i j) y)
  ) ∧ (
    ∀ (s : State) (k : Fin 16) (x : Exec) (d : Bool) (src : Nat) (px py : Option ParMove),
      let D := x.regs.acc d
      let P := product x.regs src
      let r0 := parMoved s k x true py (parMoved s k x false px x.regs)
      (∀ (c : Instr) (o src' : Nat) (e : Int) (cy : Bool),
        (c, o, src', e, cy) ∈ [(.mulr k d src px py, 0x0C, src, P, false), (.madr k d src px py, 0x0D, src, D + P, carry56 D P),
          (.rnd k d px py, 0x0E, 0, D, carry56 D (if D < 0 then 2 ^ 23 - 1 else 2 ^ 23))] →
        Issues s k x (.alu o d src' px py) → Runs c s fun t => ∃ (y : Exec) (r : Int), Went s k x (.alu o d src' px py) t y ∧
          r % 2 ^ 24 = 0 ∧ 2 * (r - e).natAbs ≤ 2 ^ 24 ∧ (2 * (r - e).natAbs = 2 ^ 24 → e.natAbs ≤ r.natAbs) ∧
          y.regs.acc d = satSigned 56 r ∧ flagsOf y.regs r cy ∧ y.regs.acc (!d) = r0.acc (!d) ∧
          y.regs.file.2.1 = r0.file.2.1 ∧ y.regs.file.2.2.1 = r0.file.2.2.1 ∧ Follows x (.alu o d src' px py) y) ∧
      (∀ (c : Instr) (o : Nat) (f : Nat → Nat → Nat),
        (c, o, f) ∈ [(.and k d src px py, 0x14, (· &&& ·)), (.or k d src px py, 0x15, (· ||| ·)),
          (.xor k d src px py, 0x16, (· ^^^ ·))] →
        Issues s k x (.alu o d src px py) → Runs c s fun t => ∃ y, Went s k x (.alu o d src px py) t y ∧
          let old := if d then x.regs.b else x.regs.a
          let other := if d then x.regs.a else x.regs.b
          let new := if d then y.regs.b else y.regs.a
          let w := if src = 4 then accHigh other else ([x.regs.x0, x.regs.x1, x.regs.y0, x.regs.y1].getD src 0#24).toNat
          accHigh new = f (accHigh old) w ∧ accGuard new = accGuard old ∧ accLow new = accLow old ∧
          bitAt y.regs.sr.toNat 4 = bitAt (accHigh new) 23 ∧ bitAt y.regs.sr.toNat 3 = decide (accHigh new = 0) ∧
          bitAt y.regs.sr.toNat 2 = false ∧ bitAt y.regs.sr.toNat 1 = false ∧
          bitAt y.regs.sr.toNat 6 = !fitsQ23 (new.toInt) ∧ y.regs.acc (!d) = r0.acc (!d) ∧
          y.regs.file.2.1 = r0.file.2.1 ∧ y.regs.file.2.2.1 = r0.file.2.2.1 ∧ Follows x (.alu o d src px py) y)
  )

/-- Moves load registers and store them; whole accumulators saturate on the way out and sign-extend on the way in; image stores raise EV96 (R341, R342, R354, R355, R361, R362, R364, R365, 08 Loop engine).
Rests on choices of the model: assumption logs 57, 58, 59. -/
def Obligations.MovesLoadAndStore : Prop :=
  ∀ (s : State) (k : Fin 16) (x : Exec), let v := x.regs
    (∀ (dst value : Nat) (long : Bool), Issues s k x (.imm dst value long) → Runs (.moveImmediate k dst value long) s fun t =>
      ∃ y, Went s k x (.imm dst value long) t y ∧ y.regs.file = (v.write dst value).file ∧ Kept s k x t y ∧
        Follows x (.imm dst value long) y) ∧
    (∀ (ym : Bool) (reg a : Nat), Issues s k x (.abs ym false reg a) → Runs (.moveAbsolute k ym false reg a) s fun t =>
      ∃ y, Went s k x (.abs ym false reg a) t y ∧ y.regs.file = (v.write reg (memWord s k x ym a)).file ∧ Kept s k x t y ∧
        Follows x (.abs ym false reg a) y) ∧
    (∀ (ym : Bool) (reg a : Nat), Issues s k x (.abs ym true reg a) → Runs (.moveAbsolute k ym true reg a) s fun t =>
      ∃ y, Went s k x (.abs ym true reg a) t y ∧ y.regs.file = (readFrom v v reg).file ∧ Follows x (.abs ym true reg a) y ∧
        (ym = false → 0x3000 ≤ a → a < 0x3C00 → wordAt (t.engine k).scrX a = (v.read reg).1 ∧
          (∀ b, b ≠ a → wordAt (t.engine k).scrX b = wordAt (s.engine k).scrX b) ∧
          (t.engine k).scrY = (s.engine k).scrY ∧ y.ctx = x.ctx ∧ y.out = x.out) ∧
        (ym = false → 0x3C90 ≤ a → a < 0x3D10 → y.outWord (a - 0x3C90) = (v.read reg).1 ∧
          ∀ b, b ≠ a - 0x3C90 → y.outWord b = x.outWord b) ∧
        (ym = true → 0x3C00 ≤ a → a < 0x3FC0 → wordAt (t.engine k).scrY a = (v.read reg).1 ∧
          ∀ b, b ≠ a → wordAt (t.engine k).scrY b = wordAt (s.engine k).scrY b) ∧
        (ym = true → 0x3FC0 ≤ a → a < 0x4000 → y.ctx = upd x.ctx (a - 0x3FC0) fun _ => (v.read reg).1) ∧
        ((ym = true ∧ a < 0x3C00 ∨ ym = false ∧ (a < 0x3000 ∨ 0x3C00 ≤ a ∧ a < 0x3C90 ∨ 0x3D10 ≤ a ∧ a < 0x4000)) →
          Kept s k x t y ∧ t.raised 96)) ∧
    (∀ (ym : Bool) (reg ptr md : Nat), Issues s k x (.ind ym false reg ptr md) →
      Runs (.moveIndirect k ym false reg ptr md) s fun t => ∃ y, Went s k x (.ind ym false reg ptr md) t y ∧
        y.regs.file = ((stepped v v ptr md).write reg (memWord s k x ym (nth v.pV ptr 0#14).toNat)).file ∧ Kept s k x t y ∧
        Follows x (.ind ym false reg ptr md) y) ∧
    (∀ (ym : Bool) (reg ptr md : Nat), Issues s k x (.ind ym true reg ptr md) →
      Runs (.moveIndirect k ym true reg ptr md) s fun t => ∃ y, Went s k x (.ind ym true reg ptr md) t y ∧
        y.regs.file = (readFrom v (stepped v v ptr md) reg).file ∧ Follows x (.ind ym true reg ptr md) y ∧
        let a := (nth v.pV ptr 0#14).toNat
        (ym = false → 0x3000 ≤ a → a < 0x3C00 → wordAt (t.engine k).scrX a = (v.read reg).1) ∧
        (ym = true → 0x3C00 ≤ a → a < 0x3FC0 → wordAt (t.engine k).scrY a = (v.read reg).1) ∧
        (ym = true → a < 0x3C00 → Kept s k x t y ∧ t.raised 96)) ∧
    (∀ (dst src : Nat), Issues s k x (.mov dst src) → Runs (.move k dst src) s fun t => ∃ y, Went s k x (.mov dst src) t y ∧
      y.regs.file = ((readFrom v v src).write dst (v.read src).1).file ∧ Kept s k x t y ∧ Follows x (.mov dst src) y) ∧
    (∀ px py : Option ParMove, Issues s k x (.alu 0 false 0 px py) → Runs (.pmov k px py) s fun t =>
      ∃ y, Went s k x (.alu 0 false 0 px py) t y ∧ Follows x (.alu 0 false 0 px py) y ∧
        y.regs.file = (parMoved s k x true py (parMoved s k x false px v)).file) ∧
    (∀ (ptr off : Nat), Issues s k x (.addp ptr off) → Runs (.addp k ptr off) s fun t => ∃ y, Went s k x (.addp ptr off) t y ∧
      y.regs.file = (let r := v; { r with p := upd r.p ptr fun p => p + BitVec.ofNat 14 off }).file ∧ Kept s k x t y ∧
      Follows x (.addp ptr off) y) ∧
    (∀ (dst : Nat) (ind : Bool) (ptr md a : Nat), Issues s k x (.get dst ind ptr md a) →
      Runs (.get k dst ind ptr md a) s fun t => ∃ y, Went s k x (.get dst ind ptr md a) t y ∧
        let b := if ind then (nth v.pV ptr 0#14).toNat % 4096 else a
        y.regs.file = ((if ind then stepped v v ptr md else v).write dst (s.boardGet x.item.cyc b)).file ∧
        Kept s k x t y ∧ Follows x (.get dst ind ptr md a) y) ∧
    (∀ (r : RegBank) (w : Nat), w < 2 ^ 24 → (r.write 4 w).a.toInt = toSigned 24 w * 2 ^ 24 ∧
      (r.write 5 w).b.toInt = toSigned 24 w * 2 ^ 24) ∧
    (∀ r : RegBank, (fitsQ23 r.aMv.toInt = true → r.read 4 = (accHigh r.aMv, false)) ∧
      (fitsQ23 r.aMv.toInt = false → r.read 4 = (if r.aMv.toInt < 0 then 0x800000 else 0x7FFFFF, true)))

/-- Branches have two delay slots, REP repeats, LOOP and LEXIT keep the loop stack; stack errors and reserved encodings abort the item (R369, R370, R371, R376, R377, 08 Loop engine).
Rests on choices of the model: assumption logs 57, 59. -/
def Obligations.ControlFlowOfTheEngines : Prop :=
  ∀ (s : State) (k : Fin 16) (x : Exec), let v := x.regs
    let aborts := fun (c : Instr) (ev : Nat) => Runs c s fun t => t.raised ev ∧ (t.engine k).wbs = (s.engine k).wbs ∧
      (t.engine k).inUrgent = (if (s.engine k).inUrgent then false
        else (s.engine k).slot.isNone && (s.engine k).urgent.isSome) ∧
      ((s.engine k).inUrgent = true → (t.engine k).urgent = none) ∧
      ((s.engine k).inUrgent = false → (s.engine k).slot = none → (t.engine k).normal = none) ∧
      ((s.engine k).inUrgent = false → ∀ z, (s.engine k).slot = some z →
        (t.engine k).slot = none ∧ ∃ y, (t.engine k).normal = some y ∧ y.item = z.item) ∧
      (nth s.way.positions (3 * k.val + if (s.engine k).inUrgent then 2 else 1) none = some x.item →
        (3 * k.val + (if (s.engine k).inUrgent then 2 else 1), x.item, true) ∈ t.way.finished)
    (Issues s k x .nop → Runs (.nop k) s fun t => ∃ y, Went s k x .nop t y ∧ y.regs.file = v.file ∧ Kept s k x t y ∧
      Follows x .nop y ∧ (v.rep ≤ 1 → v.loops = [] → v.slots = 1 → ∀ a, v.target = some a → y.regs.pc = a ∧
        y.regs.slots = 0) ∧ (v.rep ≤ 1 → v.slots = 2 → y.regs.slots = 1 ∧ y.regs.target = v.target)) ∧
    (∀ (sub : Bool) (cond a : Nat), Issues s k x (.branch sub cond a) → v.rep ≤ 1 →
      let taken := condHolds cond v.srV.toNat
      (¬ (taken = true ∧ sub = true ∧ 8 ≤ v.rets.length) →
        Runs (if sub then .bsr k cond a else .bra k cond a) s fun t => ∃ y, Went s k x (.branch sub cond a) t y ∧
          y.regs.file = v.file ∧ Kept s k x t y ∧ y.regs.pc = (v.pc + 1) % 8192 ∧ y.regs.slots = 2 ∧
          y.regs.target = (if taken then some a else none) ∧ y.regs.loops = v.loops ∧
          y.regs.rets = (if taken && sub then (v.pc + 3) % 8192 :: v.rets else v.rets)) ∧
      (taken = true → sub = true → 8 ≤ v.rets.length → aborts (.bsr k cond a) 98)) ∧
    (Issues s k x .rts → v.rep ≤ 1 → (∀ (a : Nat) (r : List Nat), v.rets = a :: r → Runs (.rts k) s fun t =>
        ∃ y, Went s k x .rts t y ∧ y.regs.file = v.file ∧ Kept s k x t y ∧ y.regs.slots = 2 ∧ y.regs.target = some a ∧
          y.regs.rets = r ∧ y.regs.pc = (v.pc + 1) % 8192) ∧ (v.rets = [] → aborts (.rts k) 98)) ∧
    (∀ n : Nat, Issues s k x (.rep n) → v.rep ≤ 1 → Runs (.rep k n) s fun t => ∃ y, Went s k x (.rep n) t y ∧
      y.regs.file = v.file ∧ Kept s k x t y ∧ y.regs.rep = n ∧ (n ≠ 0 → y.regs.pc = (v.pc + 1) % 8192) ∧
      (n = 0 → v.loops = [] → v.slots = 0 →
        y.regs.pc = ((v.pc + 1) % 8192 + sizeAt s.le.prog ((v.pc + 1) % 8192)) % 8192)) ∧
    (∀ len n : Nat, Issues s k x (.loop len n) → v.rep ≤ 1 → v.slots = 0 →
      lastOf s.le.prog len ((v.pc + 1) % 8192) ≠ v.pc → (v.loops.length < 4 →
        Runs (.loop k len n) s fun t => ∃ y, Went s k x (.loop len n) t y ∧ y.regs.file = v.file ∧ Kept s k x t y ∧
          ∃ e, y.regs.loops = e :: v.loops ∧ e.passes = n ∧ e.start = (v.pc + 1) % 8192 ∧ y.regs.pc = (v.pc + 1) % 8192 ∧
          e.last = lastOf s.le.prog len ((v.pc + 1) % 8192)) ∧ (4 ≤ v.loops.length → aborts (.loop k len n) 98)) ∧
    (Issues s k x .lexit → v.rep ≤ 1 → v.slots = 0 → (∀ e r, v.loops = e :: r → e.last ≠ v.pc → Runs (.lexit k) s fun t =>
        ∃ y, Went s k x .lexit t y ∧ y.regs.file = v.file ∧ Kept s k x t y ∧ y.regs.passes = 1 ∧
          y.regs.loops.length = v.loops.length ∧ y.regs.pc = (v.pc + 1) % 8192) ∧ (v.loops = [] → aborts (.lexit k) 98)) ∧
    (s.Shaped → (s.engine k).cur = some x → s.leActive = true → (s.engine k).halted = false →
      (x.filled = true → x.regs.cycles < s.le.limit → vendorLaw x.law = false → fetchLe s.le.prog v.pc = none →
        aborts (.nop k) 99) ∧
      (s.overLimit x = true ∨ s.le.limit ≤ x.regs.cycles → aborts (.executionLimit k) 97)) ∧
    ((∀ z, (s.engine k).cur = some z → s.overLimit z = false ∧ z.regs.cycles < s.le.limit) →
      exec (.executionLimit k) s = .next s) ∧
    (∀ (ym : Bool) (reg a : Nat), Issuing s k x (.abs ym false reg a) → x.unwritten (ym, a) →
      Runs (.moveAbsolute k ym false reg a) s fun t => ∃ y, (t.engine k).cur = some y ∧ y.item = x.item ∧ Kept s k x t y ∧
        y.regs.cycles = x.regs.cycles + 1 ∧ t.rest = (s.onEngine k fun _ => t.engine k).rest)

/-- PUB, POST, EVR and BKPT act on board, flows, events and debug; memory errors raise EV102 or FAULT 0x0101; debug enable 0 resumes halted engines (R310, R311, R354, R355, R375, R378, 08 Loop engine, R385, R815).
Rests on choices of the model: assumption log 57. -/
def Obligations.BoardPostBreakpointAndDebug : Prop :=
  (
    ∀ (s : State) (k : Fin 16) (x : Exec), let v := x.regs
      (∀ (src ptr md a : Nat) (ind : Bool), Issues s k x (.pub src ind ptr md a) → s.le.pubs.length = 4 →
        let b := if ind then (nth v.pV ptr 0#14).toNat % 4096 else a
        (b < 0x800 → Runs (.pub k src ind ptr md a) s fun t =>
          ((∀ p ∈ s.le.writers, p.1 = x.item.cyc → p.2.1 = b → p.2.2 = x.item.flow) →
            t.boardGet (x.item.cyc + 1) b = (v.read src).1) ∧
          (∀ c, c < 0x800 → c ≠ b → t.boardGet (x.item.cyc + 1) c = s.boardGet (x.item.cyc + 1) c) ∧
          ∃ y, (t.engine k).cur = some y ∧ Kept s k x t y ∧ Follows x (.pub src ind ptr md a) y ∧
            y.regs.file = (readFrom v (if ind then stepped v v ptr md else v) src).file) ∧
        (0x800 ≤ b → Runs (.pub k src ind ptr md a) s fun t => t.raised 96 ∧ t.le.pubs = s.le.pubs)) ∧
      (∀ n : Nat, n < 32 → Issues s k x (.evr n) → Runs (.evr k n) s fun t => t.raised (480 + n) ∧
        ∃ y, Went s k x (.evr n) t y ∧ y.regs.file = v.file ∧ Kept s k x t y ∧ Follows x (.evr n) y) ∧
      (∀ flow list ptr : Nat, Issues s k x (.post flow list ptr) →
        let a := (nth v.pV ptr 0#14).toNat
        let w := fun i => memWord s k x false (a + i)
        let origin := 0x200 + 3 * k.val + (if (s.engine k).inUrgent then 2 else 1)
        let ok := decide (w 1 ≤ 65535) && decide (w 3 ≤ 65535) && decide (128 ≤ flow) && (flowInfo s.way.table flow).isSome
        let outcome := if !ok then 2 else if s.way.hasRoom flow then 0 else 1
        Runs (.post k flow list ptr) s fun t => ∃ y, Went s k x (.post flow list ptr) t y ∧ Kept s k x t y ∧
          Follows x (.post flow list ptr) y ∧ field y.regs.sr.toNat 11 10 = outcome ∧
          y.regs.file.1 = v.file.1 ∧ y.regs.file.2.1 = v.file.2.1 ∧ y.regs.file.2.2.1 = v.file.2.2.1 ∧
          (outcome ≠ 0 → t.way = s.way) ∧
          (outcome = 0 → w 3 = 0 → ∃ i : Item, Joins s t i ∧ i.flow = flow ∧
            i.origin = origin ∧ i.len = w 1 ∧ i.tag = w 2 ∧ i.flags = 0 ∧ i.cyc = s.boardCycle ∧
            i.buffer = (if w 0 = 0xFFFFFF then 0xFFFFFFFF else 8 * w 0) ∧ t.way.delayed = s.way.delayed) ∧
          (outcome = 0 → w 3 ≠ 0 → t.way.queue = s.way.queue ∧ ∃ i : Item, i.flow = flow ∧ i.origin = origin ∧ i.tag = w 2 ∧
            t.way.delayed = s.way.delayed ++ [⟨list, w 3, i⟩])) ∧
      (Issues s k x .bkpt → (s.cfg 0x2407 0 ≠ 1 → Runs (.bkpt k) s fun t => ∃ y, Went s k x .bkpt t y ∧ y.regs.file = v.file ∧
          Kept s k x t y ∧ Follows x .bkpt y) ∧
        (s.cfg 0x2407 0 = 1 → v.slots ≠ 2 → v.rep ≤ 1 → Runs (.bkpt k) s fun t => (t.engine k).halted = true ∧ t.raised 101 ∧
          (∀ g, g < 8 → t.fnSt (.pwm g) = .fault) ∧ ∃ y, (t.engine k).cur = some y ∧ y.regs.file = v.file ∧
            y.item = x.item ∧ Follows x .bkpt y) ∧
        (s.cfg 0x2407 0 = 1 → v.slots = 2 → Runs (.bkpt k) s fun t => (t.engine k).haltDue = true ∧
          (t.engine k).halted = false ∧ t.fns = s.fns ∧ ∃ y, (t.engine k).cur = some y ∧ y.regs.file = v.file)) ∧
      (Issues s k x .nop → v.slots = 1 → v.rep ≤ 1 → Runs (.nop k) (s.onEngine k fun e => { e with haltDue := true }) fun t =>
        (t.engine k).halted = true ∧ (t.engine k).haltDue = false ∧ t.raised 101)
  ) ∧ (
    (∀ (s : State) (k : Fin 16), Runs (.leMemoryError k true) s fun t => t.raised 102 ∧ t.core = s.core) ∧
    (∀ (s : State) (k : Fin 16), s.Shaped → s.fnSt .loopEngines ≠ .fault → Runs (.leMemoryError k false) s fun t =>
      t.fn .loopEngines = ⟨.fault, 0x0101⟩ ∧ t.raised 103 ∧ (t.engine k).memFault = true ∧
      (∀ e ∈ t.le.engines, e.normal = none ∧ e.slot = none ∧ e.urgent = none ∧ e.halted = false ∧ e.haltDue = false) ∧
      ∀ (p : Nat) (it : Item), p < 48 → nth s.way.positions p none = some it → (p, it, true) ∈ t.way.finished) ∧
    (∀ (s : State) (h : Hdr) (v : Nat) (x : Session), v < 256 → Granted s h 0x2407 0 (toLE 1 v) x →
      Runs (.debugEnableWrite v h) s fun t => Answered (writeReq h 0x2407 0 (toLE 1 v)) x 0xA1 [] t ∧ t.cfg 0x2407 0 = v ∧
        t.fns = s.fns ∧ t.le = { s.le with engines := if v = 0 then s.le.engines.map fun e => { e with halted := false, haltDue := false }
          else s.le.engines })
  )

/-- DONE ends the item, reports its status and queues the write-back; the write-back's end fills the context block and the ready setpoint (R27, R307, R337, R339, R348, R349, R350, R351, R352, R353, R406, R409).
Rests on choices of the model: assumption logs 20, 56, 57. -/
def Obligations.ItemsEndAndAreWrittenBack : Prop :=
  (∀ (s : State) (k : Fin 16) (x : Exec) (g : Nat) (err : Bool), Issues s k x (.done g err) →
    (x.law = 0xFF → x.item.flow < 96) → g ≤ 64 →
    nth s.way.positions (3 * k.val + if (s.engine k).inUrgent then 2 else 1) none = some x.item →
    Runs (.done k g err) s fun t =>
      (3 * k.val + (if (s.engine k).inUrgent then 2 else 1), x.item, err) ∈ t.way.finished ∧
      (∃ w, (t.engine k).wbs = (s.engine k).wbs ++ [w] ∧ w.flow = x.item.flow ∧ w.ctx = x.ctx ∧ w.ctxLen = x.ctxLen ∧
        w.origin = x.item.origin ∧ w.groups = x.groups g) ∧
      ((s.engine k).inUrgent = true → (t.engine k).urgent = none ∧ (t.engine k).normal = (s.engine k).normal) ∧
      ((s.engine k).inUrgent = false → (s.engine k).slot = none → (t.engine k).normal = none ∧
        (t.engine k).inUrgent = (s.engine k).urgent.isSome) ∧
      ((s.engine k).inUrgent = false → ∀ z, (s.engine k).slot = some z → (t.engine k).slot = none ∧
        ∃ y, (t.engine k).normal = some y ∧ y.item = z.item ∧ y.regs.cycles = 0 ∧ y.regs.a = 0#56 ∧ y.regs.sr = 0#24) ∧
      (x.law = 0xFF → (s.joint x.item.flow).law = 0xFF → s.fnSt (.joint x.item.flow) = .stopping →
        t.fnSt (.joint x.item.flow) = .stopped)) ∧
  (∀ (s : State) (k : Fin 16) (x : Exec) (g : Nat) (err : Bool), s.Shaped → (s.engine k).cur = some x → s.leActive = true →
    (s.engine k).halted = false → x.filled = true → x.regs.cycles < s.le.limit → vendorLaw x.law = true →
    s.overLimit x = false → x.item.flow < 96 →
    nth s.way.positions (3 * k.val + if (s.engine k).inUrgent then 2 else 1) none = some x.item →
    let j := x.item.flow
    Runs (.done k g err) s fun t =>
      (3 * k.val + (if (s.engine k).inUrgent then 2 else 1), x.item, false) ∈ t.way.finished ∧
      ∃ w, (t.engine k).wbs = (s.engine k).wbs ++ [w] ∧ w.flow = j ∧ w.origin = x.item.origin ∧
        (x.item.usable = false → (s.joint j).phase = .run → s.isRunning (.joint j) = true → w.groups = [] ∧
          bitAt (t.joint j).flags 3 = true ∧ (t.joint j).vals = (s.joint j).vals) ∧
        (x.item.usable = true → s.fnSt (.joint j) = .stopped → (s.joint j).phase = .off → u32At w.groups 0 = 0 ∧
          u32At w.groups 4 = (if bitAt (fbStatus x.item.payload) 3 then 4 else 0)) ∧
        (x.item.usable = true → s.isRunning (.joint j) = true → (s.joint j).phase = .run →
          bitAt (fbStatus x.item.payload) 3 = true → t.fnSt (.joint j) = .fault ∧
          nth (t.joint j).vals 5 0 = (fbError x.item.payload : Int))) ∧
  (∀ (s : State) (k : Fin 16) (w : WriteBack) (r : List WriteBack), s.Shaped → (s.engine k).wbs = w :: r → w.flow < 1024 →
    w.ctxLen ≤ 64 → w.ctx.length = 64 → (∀ v ∈ w.ctx, v < 2 ^ 24) → Runs (.writeBackEnd k) s fun t =>
      (t.engine k).wbs = r ∧ t.fns = s.fns ∧ t.way = s.way ∧
      (∀ i, i < w.ctxLen → t.ctxWord w.flow i = nth w.ctx i 0) ∧
      (∀ f i, f < 1024 → f ≠ w.flow → i < 64 → t.ctxWord f i = s.ctxWord f i) ∧
      (∀ (n e : Nat) (y : RingEntry), w.origin = 0x800 + 0x80 * n + e → n < 4 → e < 128 → (s.ring n).entries[e]? = some y →
        ∃ z, (t.ring n).entries[e]? = some z ∧ z.fresh = true ∧
          z.setpoint = splice (padTo (s.panEntry n e).split y.setpoint) 0
            (w.groups.take ((s.panEntry n e).split / 4 * 4)))) ∧
  (∀ (s : State) (k : Fin 16), (s.engine k).wbs = [] → exec (.writeBackEnd k) s = .next s) ∧
  (∀ (s : State) (p : Fin 48) (x : Exec), s.Shaped →
    (let e := s.engine (p.val / 3)
     [e.slot, e.normal, e.urgent].getD (p.val % 3) none) = some x → Runs (.contextFill p) s fun t =>
      ∃ y, (let e := t.engine (p.val / 3)
            [e.slot, e.normal, e.urgent].getD (p.val % 3) none) = some y ∧ y.item = x.item ∧ y.regs = x.regs ∧
        (x.filled = true ∨ s.writingBack x.item.flow = true → y = x) ∧
        (x.filled = false → s.writingBack x.item.flow = false → y.filled = true ∧
          ∀ i, i < 64 → nth y.ctx i 0 = if i < x.ctxLen then s.ctxWord x.item.flow i else 0)) ∧
  (∀ (s : State) (k : Fin 16), s.Shaped → (s.engine k).urgent.isSome = true → (s.engine k).inUrgent = false →
    (s.engine k).halted = false → (∀ x, (s.engine k).normal = some x → x.regs.boundary = true) →
    Runs (.preemptSwitch k) s fun t => t.engine k = { s.engine k with inUrgent := true } ∧
      t = s.onEngine k fun _ => t.engine k) ∧
  (∀ (s : State) (k : Fin 16) (x : Exec), (s.engine k).normal = some x → x.regs.boundary = false →
    exec (.preemptSwitch k) s = .next s)

/-! ### Joints, the trace unit, the board cycle -/

/-- Law select and tune requests act by cycle, only a sound fit writes a set; a board cycle starts once: EV100, the trace record, PWM groups armed (R398, R400, R411, R412, R413, R414, R418, R356, R383, R415, R417, R613).
Rests on choices of the model: assumption logs 55, 56. -/
def Obligations.JointsAndBoardCycles : Prop :=
  (
    (∀ (s : State) (j entry : Nat) (h : Hdr) (x : Session), j < 96 → entry < 2 ^ 16 →
      Granted s h (jointIdx j 2) 0 (toLE 2 entry) x → Runs (.lawSelectRequest j entry h) s fun t =>
        Answered (writeReq h (jointIdx j 2) 0 (toLE 2 entry)) x 0xA1 [] t ∧ t.plant = (s.onJoint j fun y =>
          let c := (s.arrived h).nextCycleOf j
          { y with changes := (y.changes.filter fun g => g.cycle != c) ++ [⟨entry, c, false⟩] }).plant) ∧
    (∀ (s : State) (j v : Nat) (h : Hdr) (x : Session), j < 96 → v < 2 ^ 64 → Granted s h (jointIdx j 0xB) 0 (toLE 8 v) x →
      Runs (.tuneRequest j v h) s fun t => Answered (writeReq h (jointIdx j 0xB) 0 (toLE 8 v)) x 0xA1 [] t ∧
        t.plant = (s.onJoint j fun y => { y with
          tuneStatus := 1
          tune := some ⟨field v 63 40, field v 39 32, field v 31 16, (s.arrived h).nextCycleOf j, 0, 0x7FF, 0,
            List.replicate 9 0, false⟩ }).plant) ∧
    (∀ (s : State) (j entry : Nat) (h : Hdr) (x : Session), j < 96 → 1 ≤ x.role →
      Admitted s (writeReq h (jointIdx j 2) 0 (toLE 2 entry)) x → s.available (jointIdx j 2) true = true →
      (s.fnSt (.joint j) ≠ .running ∨ (s.joint j).tune.isSome = true) → Runs (.lawSelectRequest j entry h) s fun t =>
        t.plant = s.plant ∧ Answered (writeReq h (jointIdx j 2) 0 (toLE 2 entry)) x 0xFF (toLE 4 0x03000008) t) ∧
    (∀ (s : State) (j : Nat) (r : TuneRun), s.Shaped → j < 96 → (s.joint j).tune = some r →
      (r.length ≤ r.count → r.fitting = false → Runs (.identRunEnd j) s fun t => t = s.onJoint j fun y => { y with
        law := if y.law = 5 then 1 else y.law, tune := some { r with fitting := true } }) ∧
      ((r.count < r.length ∨ r.fitting = true) → exec (.identRunEnd j) s = .next s) ∧
      (r.fitting = false → exec (.tuneFitDone j) s = .next s) ∧
      (r.fitting = true →
        let d := fitDets r.sums
        let set := (s.joint j).set
        let old := s.obj (jointIdx j 3) (set + 1)
        let g := fitGains d.1 d.2.1 r.fv (s.period (((s.jointEntry j).map (·.1)).getD 0)) (u24At old 30) (u24At old 33)
        let status := if d.1 = 0 then 3 else if 100 * r.sat > r.length then 4 else if d.2.1 = 0 then 6
          else if (gainOk g.1 && gainOk g.2.1 && gainOk g.2.2) = true then 2 else 6
        Runs (.tuneFitDone j) s fun t => (t.joint j).tune = none ∧ (t.joint j).tuneStatus = status ∧ t.raised (128 + j) ∧
          (t.joint j).law = (if (s.joint j).law = 5 then 1 else (s.joint j).law) ∧ t.fns = s.fns ∧
          (status ≠ 2 → t.dict = s.dict ∧ t.le = s.le) ∧
          (status = 2 → ∀ i sub : Nat, t.obj i sub = if (i, sub) = (jointIdx j 3, 1 - set + 1) then
            splice old 0 (toLE 3 (img24 g.1) ++ toLE 3 (img24 g.2.2) ++ toLE 3 (img24 g.2.1)) else s.obj i sub))) ∧
    (∀ (s : State) (h : Hdr) (x : Session), Granted s h 0x2F05 0 (toLE 1 1) x → Runs (.traceTriggerNow h) s fun t =>
      Answered (writeReq h 0x2F05 0 (toLE 1 1)) x 0xA1 [] t ∧ t.plant = s.plant ∧
      t.trace = (if s.trace.state = 2 then { s.trace with now := true } else s.trace))
  ) ∧ (
    (∀ s : State, s.Shaped → s.time.ticking = true →
      let c := if s.plan.boardDone = some s.boardCycle then s.boardCycle + 1 else s.boardCycle
      Runs .boardCycleStart s fun t => t.plan.boardDone = some c ∧
        (∀ g, g < 8 → s.fnSt (.pwm g) = .starting → (t.group g).armed = true ∧ ((s.group g).armed = false →
          (t.group g).next = (2 * ((cycleStart (s.period s.boardRing) c : Int) - t.thetaNs).toNat + 4) / 5 +
            field (s.groupCfg g) 47 32)) ∧
        (∀ (k : Nat) (x : Exec), k < 16 → (s.engine k).normal = some x → x.item.cyc + 2 = c →
          (x.lagged = false → t.raised 100) ∧ ∃ y, (t.engine k).normal = some y ∧ y.lagged = true ∧ y.item = x.item ∧
            y.regs = x.regs) ∧
        (s.isRunning .trace = true → 2 ≤ c → (c - 2) % s.traceDecim = 0 → s.trace.state ∈ [1, 2, 3] →
          t.trace.written = s.trace.written + (8 + 4 * s.traceChannels.length)) ∧
        (s.isRunning .trace = false → t.trace.written = s.trace.written)) ∧
    (∀ s : State, s.time.ticking = false → exec .boardCycleStart s = .next s)
  )

/-! ### Planning -/

/-- An accepted motion command takes a free mailbox slot and is answered with its slot and the planning cycle at which it takes effect (R146, R147, R148, R149, R150, R151, R152, R430, R431).
Rests on choices of the model: assumption logs 28, 68. -/
def Obligations.MotionCommandsEnterTheMailbox : Prop :=
  (∀ (s : State) (h : Hdr) (m : Motion) (x : Session) (c : Instr) (kind : Nat), Admitted s (postReq h kind m) x →
    (c, kind) ∈ [(.moveJoint m h, 1), (.moveLinear m h, 2), (.coopMove m h, 3), (.hold m h, 4), (.resume m h, 5),
      (.cancel m h, 6)] → s.available 0x2881 true = true → 1 ≤ x.role →
    (s.isRunning .planner = true → (∀ a ∈ bitsOf 12 m.mask, s.isRunning (.arm a) = true) → s.commandOk kind m = true →
      (∀ i, namedIdentity kind m = some i → s.slotOf i ≠ none) →
      ((∃ y ∈ s.dict.mbox, y.open = false) → Runs c s fun t =>
        let k := max ((s.arrived h).boardCycle / s.planRatio + 1) m.start
        Answered (postReq h kind m) x 0xC0 (toLE 8 k ++ toLE 1 s.postSlot) t ∧
        t.plant = (s.onDict fun d => { d with
          mbox := upd d.mbox s.postSlot fun _ => ⟨1, commandRecord kind m, s.dict.mboxOrder, 0, k, s.afterEnded m.after, false⟩
          mboxOrder := d.mboxOrder + 1 }).plant) ∧
      ((∀ y ∈ s.dict.mbox, y.open = true) → Runs c s fun t => t.plant = s.plant ∧
        Answered (postReq h kind m) x 0xFF (toLE 4 abMailboxFull) t)) ∧
    ((s.isRunning .planner = false ∨ ∃ a ∈ bitsOf 12 m.mask, s.isRunning (.arm a) = false) → Runs c s fun t =>
      t.plant = s.plant ∧ Answered (postReq h kind m) x 0xFF (toLE 4 0x03000008) t)) ∧
  (∀ (s : State) (g : Fin 6) (v : Nat) (h : Hdr) (x : Session), v ≤ 1 → Granted s h 0x2841 (g + 1) (toLE 1 v) x →
    Runs (.groupEngage g v h) s fun t => Answered (writeReq h 0x2841 (g + 1) (toLE 1 v)) x 0xA1 [] t ∧
      t.plant = (s.putObj 0x2841 (g + 1) (toLE 1 v)).plant)

/-- At every Nth board cycle a boundary counts the planning cycle, latches the inputs and lets arms run, groups engage and mailbox commands act (R423, R424, R425, R430, R433, R434, R465).
Rests on choices of the model: assumption logs 53, 72. -/
def Obligations.PlanningBoundariesTakeEffect : Prop :=
  (∀ s : State, s.Shaped → s.time.ticking = true → s.boardCycle % s.planRatio = 0 →
    let k := s.boardCycle / s.planRatio
    s.plan.boundary ≠ some k → Runs .planningBoundary s fun t =>
      t.plan.cycle = k ∧ t.plan.boundary = some k ∧
      (∀ g, g < 6 → bitAt t.plan.engaged g = (s.cfg 0x2841 (g + 1) == 1)) ∧
      t.sensors = { s.sensors with derateInForce := s.sensors.derate } ∧
      t.fn .interp = (if s.fnSt .interp = .starting then ⟨.running, (s.fn .interp).code⟩ else s.fn .interp) ∧
      (∀ a, a < 12 → t.fn (.arm a) = if s.fnSt (.arm a) = .starting ∧
          (s.problem (s.problemOf a)).segs.any (fun g => g.cycle == k) = true then ⟨.running, (s.fn (.arm a)).code⟩
        else s.fn (.arm a)) ∧
      (∀ f : Fn, f.exists = true → f ≠ .interp → (∀ a, f ≠ .arm a) → t.fn f = s.fn f) ∧
      (s.isRunning .front = true → ∃ tag, t.plan.latched = some ⟨k, s.boundaryAt (k + 1) - s.boundaryAt k, tag⟩ ∧
        (∀ a, a < 12 → t.problem a = (s.problem a).atBoundary (s.isRunning .solver && s.solvable a)) ∧
        (s.isRunning .waystation = true → ∃ it, Handed s t it ∧ it.flow = 112 ∧ it.origin = 0x10010 ∧ it.tag = tag ∧
          it.payload = positionOctets (s.boundaryPositions (s.boundaryAt k)))) ∧
      (s.isRunning .front = false → t.plan.latched = s.plan.latched ∧ t.plan.problems = s.plan.problems) ∧
      (s.isRunning .planner = false → t.dict = s.dict ∧ t.plan.arms = s.plan.arms ∧ t.plan.guides = s.plan.guides) ∧
      (s.isRunning .planner = true → ∀ a, a < 12 → (t.armPlan a).safeStop = s.stopRequested a) ∧
      (s.isRunning .planner = true → ∀ i, i < 64 → (s.mslot i).st = 1 → (s.mslot i).effect ≤ k →
        ((s.mslot i).kind = 4 → (∀ j, j < 64 → j ≠ i → (s.mslot j).open = false) →
          ∀ a, a < 12 → bitAt (s.mslot i).mask a = true → (t.armPlan a).held = true) ∧
        ((s.mslot i).kind = 5 → (∀ j, j < 64 → j ≠ i → (s.mslot j).open = false) → (t.mslot i).st = 3 ∧
          ∀ a, a < 12 → bitAt (s.mslot i).mask a = true → (t.armPlan a).held = false) ∧
        (∀ j, (s.mslot i).kind = 6 → (s.mslot i).afterEnd = 0 → s.slotOf (s.mslot i).after = some j →
          (s.mslot j).motion = true → (∀ l, l < 64 → l ≠ i → l ≠ j → (s.mslot l).open = false) →
          ((s.mslot j).st = 1 → k < (s.mslot j).effect → (t.mslot i).st = 3 ∧ (t.mslot j).st = 4) ∧
          ((s.mslot j).st = 2 → s.allStill (s.mslot j).mask = false → (t.mslot i).st = 2 ∧ (t.mslot j).st = 2 ∧
            (t.mslot j).cancelled = true))) ∧
      { t.calm with sensors := s.sensors, fns := s.fns, plan := s.plan, dict := s.dict } = s.calm ∧
      (s.isRunning .front = false ∨ s.isRunning .waystation = false → t.fab = s.fab) ∧
      { t.dict with mbox := s.dict.mbox, mboxOrder := s.dict.mboxOrder } = s.dict) ∧
  (∀ s : State, (s.time.ticking = false ∨ s.boardCycle % s.planRatio ≠ 0 ∨
    s.plan.boundary = some (s.boardCycle / s.planRatio)) → exec .planningBoundary s = .next s)

/-- A problem is solved within its cap or falls back to the shifted plan; one segment per solved problem goes on from the end of the one before (R424, R444, R448, R449, R453, R454, R455, R456, R457, R458, R459).
Rests on choices of the model: assumption logs 52, 53, 54, 72. -/
def Obligations.SolvesAndSegments : Prop :=
  (
    (∀ (s : State) (a : Fin 12) (l : Latched) (it : Item), s.Shaped → s.plan.latched = some l → (s.problem a).due = true →
      (s.problem a).asm = none → s.isRunning .front = true →
      s.serving .front (fun i => i.flow == 112 && i.tag == l.tag) = some it →
      Runs (.assemblyDone a) s fun t => ∃ y, y = s.assembleProblem a l (octetPositions it.payload) ∧
        t.problem a = { s.problem a with asm := some y, closed := y.closed } ∧ y.warm = s.warmKnots a s.horizon l.interval ∧
        (∀ m ∈ y.slack, (s.range a).t 7 ≤ m) ∧ (y.saturated = true → t.raised 291) ∧ (∀ b, b ≠ a.val → t.problem b = s.problem b) ∧
        (s.isRunning .waystation = true → Posted s t 113 0x10011 (toLE 2 a)) ∧
        (s.isRunning .waystation = false → t.fab = s.fab) ∧
        t.calm = ({ s with plan := { s.plan with problems := t.plan.problems } }).calm) ∧
    (∀ (s : State) (a : Fin 12), ((s.problem a).due = false ∨ (s.problem a).asm ≠ none ∨ s.isRunning .front = false ∨
        ∀ l, s.plan.latched = some l → s.serving .front (fun i => i.flow == 112 && i.tag == l.tag) = none) →
      exec (.assemblyDone a) s = .next s) ∧
    (∀ (s : State) (a : Fin 12) (y : Assembled) (c : Instr) (late : Option Nat), s.Shaped → (s.problem a).asm = some y →
      (s.problem a).due = true → s.isRunning .solver = true →
      ((c = .solveEnd a ∧ late = none ∧ (s.serving .solver fun i => i.flow == 113 && u16At i.payload 0 == a.val).isSome = true) ∨
        ∃ n, c = .solverDeadline a n ∧ late = some n) → Runs c s fun t =>
        let p := t.problem a
        p.due = false ∧ p.valid = true ∧ p.solved = true ∧ p.v0 = s.startSpeed a s.plan.cycle ∧ p.iter ≤ s.cfg 0x2811 2 ∧ (∀ n, late = some n → p.iter ≤ n) ∧
        p.ending ∈ [0, 1, 2, 3, 4] ∧ (late = none → p.ending ∈ [0, 1, 3]) ∧ p.fallback = decide (p.ending ∈ [3, 4]) ∧
        (p.ending ∈ [2, 4] → t.raised 288) ∧
        (p.fallback = false → p.knots.length = y.warm.length ∧ p.falls = 0 ∧ t.fns = s.fns ∧
          t.plan.fallbacks = s.plan.fallbacks) ∧
        (p.fallback = true → p.knots = y.warm ∧ p.falls = (s.problem a).falls + 1 ∧ t.raised 289 ∧
          t.plan.fallbacks = stick 32 (s.plan.fallbacks + 1) ∧
          (if (s.problem a).falls + 1 = s.cfg 0x2811 3 then t.raised 297 ∧
              (s.isActive .planner = true → t.fn .planner = ⟨.fault, 0x0102⟩)
            else t.fns = s.fns)) ∧
        (∀ b, b ≠ a.val → t.problem b = s.problem b) ∧
        (s.plan.solving = true → (∀ b, b < 12 → b ≠ a.val → (s.problem b).due = false) → t.plan.solving = false ∧
          (s.isRunning .waystation = true → Posted s t 114 0x10012 []))) ∧
    (∀ (s : State) (a : Fin 12) (n : Nat) (l : Latched), s.Shaped → (s.problem a).asm = none → (s.problem a).due = true →
      s.isRunning .solver = true → s.plan.latched = some l → Runs (.solverDeadline a n) s fun t =>
        let p := t.problem a
        p.due = false ∧ p.valid = true ∧ p.iter = 0 ∧ p.ending = 4 ∧ p.fallback = true ∧ t.raised 288 ∧ t.raised 289 ∧
        (s.warmKnots a s.horizon l.interval ≠ [] → p.knots = s.warmKnots a s.horizon l.interval) ∧
        (∀ b, b ≠ a.val → t.problem b = s.problem b)) ∧
    (∀ (s : State) (a : Fin 12) (n : Nat), (s.problem a).due = false →
      exec (.solveEnd a) s = .next s ∧ exec (.solverDeadline a n) s = .next s)
  ) ∧ (
    (∀ (s : State) (l : Latched), s.Shaped → s.plan.latched = some l → s.isRunning .interp = true → s.plan.solving = false →
      (s.serving .interp fun i => i.flow == 114).isSome = true → Runs .interpolatorSegmentsWritten s fun t =>
        t = { s with plan := { s.plan with problems := t.plan.problems } } ∧
        ∀ a, a < 12 →
          let p := s.problem a
          let z := List.replicate (s.problemJoints a).length (0 : Int)
          if p.valid = true ∧ p.solved = true ∧ p.segs.any (fun g => g.cycle == l.cycle + 1) = false then
            ∃ g : Segment, t.problem a = { p with segs := g :: p.segs.take 3 } ∧ g.cycle = l.cycle + 1 ∧
              g.q1 = nth p.knots 1 z ∧ g.v1 = ((nth p.knots 2 z).zip (nth p.knots 0 z)).map (fun x => x.1 - x.2) ∧
              g.fallback = p.fallback ∧
              (∀ b, p.segs.find? (fun g => g.cycle == l.cycle) = some b → g.q0 = b.q1 ∧ g.v0 = b.v1 ∧ g.i0 = b.i1) ∧
              (p.segs.find? (fun g => g.cycle == l.cycle) = none → g.v0 = z ∧ g.i0 = z ∧
                g.q0 = (s.problemArms a).flatMap fun b => (s.members b).map fun j => (s.joint j).holdPos * 65536)
          else t.problem a = p) ∧
    (∀ s : State, (s.isRunning .interp = false ∨ s.plan.solving = true ∨ s.plan.latched = none ∨
      (s.serving .interp fun i => i.flow == 114) = none) →
      exec .interpolatorSegmentsWritten s = .next s)
  )

/-! ### Perception -/

/-- A point packet is discarded by the port or the builder under its count, or its points are staged as hits of its window (R473, R474, R475, R477, R478, R496, R499, R688).
Rests on choices of the model: assumption logs 51, 72. -/
def Obligations.PointPacketsAreStagedOrCounted : Prop :=
  ∀ (s : State) (n : Fin 2) (v6 : Bool) (addr : Octets) (udp : Nat) (o : Octets) (at_ : Nat), s.Shaped →
    let a := s.advanceTo at_
    let c := Instr.pointPacket n v6 addr udp o at_
    let ok := s.pointPacketOk n v6 addr udp o
    let n' := u8At o 2
    let r := s.sensorRec n'
    let t₁ := a.toRing (u64At o 8 * 1000000000 + u32At o 16)
    let t₂ := a.toRing (a.stamp n false / 65536).toNat
    let w := (t₁ / 1000000).toNat
    let w₂ := t₂.toNat / 1000000
    let used := match s.per.windows.find? (·.m == w) with | some y => wordAt y.points n' | none => 0
    let hits := fun (p : State) => match p.per.windows.find? (·.m == w) with | some y => y.hits | none => []
    let room := (s.port n).ms ≠ a.msNow ∨ wordAt (s.port n).ingress (3 + n') < 2048
    let pts := (List.range (u16At o 4)).map fun i => (List.range 3).map fun j => i32At o (32 + 12 * i + 4 * j)
    ((s.isRunning (.hostPort n) = false ∨ (s.port n).link = false) → exec c s = .next a) ∧
    (s.isRunning (.hostPort n) = true → (s.port n).link = true → Runs c s fun t =>
      { t.core with ports := s.ports, per := s.per } = s.core ∧ t.port (1 - n) = s.port (1 - n) ∧
      (ok = false → t.per = s.per ∧ nth (t.port n).counts 3 0 = stick 32 (nth (s.port n).counts 3 0 + 1)) ∧
      (s.isRunning .voxel = false → t.per = s.per) ∧
      (ok = true → ¬ room → t.per = s.per ∧ nth (t.port n).counts 2 0 = stick 32 (nth (s.port n).counts 2 0 + 1)) ∧
      (ok = true → s.isRunning .voxel = true → room →
        nth (t.port n).counts 0 0 = stick 32 (nth (s.port n).counts 0 0 + 1) ∧
        (if sensorOn r = false ∨ t₂ < t₁ then t.windowCount w₂ 4 = s.windowCount w₂ 4 + 1 ∧ hits t = hits s
         else if (t₁ / 1000000 + 1) * 1000000 + 250000 < t₂ then t.windowCount w₂ 2 = s.windowCount w₂ 2 + 1 ∧ hits t = hits s ∧
           (s.windowCount w₂ 2 = 0 → t.raised 323)
         else if t₁ / 1000000 < s.per.first then t.per = s.per
         else if u32At r 4 < used + u16At o 4 then t.windowCount w₂ 3 = s.windowCount w₂ 3 + 1 ∧ hits t = hits s ∧
           (s.windowCount w₂ 3 = 0 → t.raised 324)
         else ∃ y, t.per.windows.find? (·.m == w) = some y ∧ wordAt y.points n' = used + u16At o 4 ∧
           y.hits = hits s ++ pts.filterMap (fun p => match s.pointVoxel n' p with | .inr i => some i | .inl _ => none) ∧
           t.windowCount w 1 = s.windowCount w 1 + 1 ∧
           ∀ i, 5 ≤ i → i ≤ 7 → t.windowCount w i = s.windowCount w i + (pts.filter fun p => s.pointVoxel n' p == .inl i).length)))

/-- The voxel builder starts at a whole millisecond; a window's acceptance closes once; its update sets every voxel by hits, decay and self-filter (R481, R482, R484, R485, R486, R487, R496).
Rests on choices of the model: assumption logs 3, 51, 72. -/
def Obligations.MapWindowsAreUpdated : Prop :=
  (∀ s : State, s.Shaped → (s.fnSt .voxel = .starting → s.time.ticking = true → Runs .voxelBuilderRun s fun t =>
      t.fn .voxel = ⟨.running, (s.fn .voxel).code⟩ ∧ (∀ f : Fn, f.exists = true → f ≠ .voxel → t.fn f = s.fn f) ∧
      t.per = { s.per with first := s.time.ringNs / 1000000 + 1 } ∧ t.time.ringNs = (s.time.ringNs / 1000000 + 1) * 1000000) ∧
    (s.fnSt .voxel ≠ .starting → exec .voxelBuilderRun s = .next s)) ∧
  (∀ s : State, (s.isRunning .voxel = true → s.updateBusy = false → Runs .windowAcceptanceClose s fun t =>
      let x := s.poseSet s.per.first
      ∃ tag, t.per = { s.per with
        updating := some ⟨s.per.first, tag, x.1, false⟩, first := s.per.first + 1, sepFresh := s.isActive .separation } ∧
      (s.time.ticking = true → (s.per.first + 1) * 1000000 + 250000 ≤ t.time.ringNs) ∧
      t.calm = ({ s with per := t.per }).calm ∧ (s.isRunning .waystation = false → t.fab = s.fab) ∧
      (s.isRunning .waystation = true → ∃ it, Handed s t it ∧ it.flow = 115 ∧ it.origin = 0x10013 ∧ it.tag = tag ∧
        it.payload = positionOctets x.2)) ∧
    ((s.isRunning .voxel = false ∨ s.updateBusy = true) → exec .windowAcceptanceClose s = .next s)) ∧
  (∀ (s : State) (u : StageWindow) (it : Item), s.per.updating = some u → Memory.wordsWf s.per.map = true →
    s.serving .voxel (fun i => i.flow == 115 && i.tag == u.tag) = some it → it.payload.length = 768 →
    Runs .mapUpdateEnd s fun t =>
      let m := u.m
      let caps := s.usedCapsules u.arms (octetPositions it.payload)
      let w := (s.per.windows.find? (·.m == m)).getD ⟨m, [], [], List.replicate 8 0⟩
      (∀ v, wordAt t.per.map v = if s.selfFiltered caps v = true then 0 else if v ∈ w.hits then 3
        else if m % s.cfg 0x2C02 1 = 0 then wordAt s.per.map v - 1 else wordAt s.per.map v) ∧
      t.per.occ = t.per.map.length ∧ t.per.window = m ∧ t.per.updating = none ∧ t.per.sensorPoints = w.points ∧
      t.per.windows = s.per.windows.filter (fun x => decide (m < x.m)) ∧
      t.per.silent = s.silentSensors m (w.points.foldl (fun l x => wordPut l x.1 (m + 1)) s.per.lastAccepted) ∧
      (∀ i ∈ t.per.silent, i ∉ s.per.silent → t.raised 325) ∧
      (∃ tag, t.per.sep = (if s.isActive .separation = true then some ⟨m, tag, u.arms, !t.per.silent.isEmpty⟩ else none) ∧
        (s.isRunning .waystation = true → ∃ i, Handed s t i ∧ i.flow = 116 ∧ i.origin = 0x10014 ∧ i.tag = tag ∧
          i.payload = it.payload)) ∧
      t.per.results = s.per.results ∧ t.per.first = s.per.first ∧ t.calm = ({ s with per := t.per }).calm ∧
      (s.isRunning .waystation = false → t.fab = s.fab)) ∧
  (∀ s : State, (∀ u, s.per.updating = some u → s.serving .voxel (fun i => i.flow == 115 && i.tag == u.tag) = none) →
    exec .mapUpdateEnd s = .next s)

/-- A completed window gives one result per arm with VALID, NONE, OVER, SILENT and SAT as its inputs say; a late one repeats the last with LATE (R489, R491, R492, R493, R494, R497, R499).
Rests on choices of the model: assumption log 51. -/
def Obligations.SeparationResultsCarryTheirFlags : Prop :=
  (∀ (s : State) (w : StageWindow) (it : Item), s.Shaped → s.per.sep = some w →
    s.serving .separation (fun i => i.flow == 116 && i.tag == w.tag) = some it →
    let m := w.m
    let silent := w.silent
    let caps := s.usedCapsules w.arms (octetPositions it.payload)
    let full := decide (524288 < s.per.occ)
    let had := fun b => s.per.latest.2.any fun y => bitAt y.flags b
    Runs .separationComplete s fun t => ∃ l, t.per.results = (m, l) :: s.per.results.take 3 ∧ t.per.sep = none ∧ l.length = 12 ∧
      (∀ (a : Nat) (x : ArmSep), l[a]? = some x → bitAt x.flags 1 = full ∧ bitAt x.flags 4 = silent ∧ bitAt x.flags 3 = false ∧
        bitAt x.flags 7 = caps.any (fun c => u8At (s.capsule c.1) 0 == a) ∧
        (bitAt x.flags 6 = true → x.dist = 0xFFFFFFFF ∧ x.capsule = 0xFF ∧ x.witness = 0xFFFFFFFF) ∧
        bitAt x.flags 0 = (full || silent || l.any fun y => bitAt y.flags 2)) ∧
      t.per.saturations = (if full then stick 32 (s.per.saturations + 1) else s.per.saturations) ∧
      (full = true → had 1 = false → t.raised 320) ∧
      ((∃ x ∈ l, bitAt x.flags 2 = true) → had 2 = false → t.raised 321) ∧
      t.fn .separation = (if s.fnSt .separation = .starting ∧ s.per.sepFresh = true then
        ⟨.running, (s.fn .separation).code⟩ else s.fn .separation) ∧
      (∀ f : Fn, f.exists = true → f ≠ .separation → t.fn f = s.fn f) ∧ t.per.map = s.per.map ∧
      t.rest = ({ s with per := t.per, fns := t.fns }).rest ∧
      (s.isRunning .waystation = true → Posted s t 117 0x10015 [])) ∧
  (∀ (s : State) (w : StageWindow), s.per.sep = some w → let m := w.m
    Runs .separationLate s fun t => t.per = { s.per with
        results := (m, s.per.latest.2.map fun y => { y with flags := y.flags ||| 9 }) :: s.per.results.take 3, sep := none } ∧
      t.raised 322 ∧ (s.time.ticking = true → (m + 2) * 1000000 ≤ t.time.ringNs) ∧ t.core = ({ s with per := t.per }).core) ∧
  (∀ s : State, (∀ w, s.per.sep = some w → s.serving .separation (fun i => i.flow == 116 && i.tag == w.tag) = none) →
    exec .separationComplete s = .next s) ∧
  (∀ s : State, s.per.sep = none → exec .separationLate s = .next s)

/-! ### Safety -/

/-- A safety cycle boundary freezes input levels and requests and judges the inputs; 100 µs later the cycle's telegrams give the positions (R33, R507, R512, R524, R546, R552, R553, R554, R556, R557, R574, R575).
Rests on choices of the model: assumption log 39. -/
def Obligations.SafetyCyclesFreezeTheirInputs : Prop :=
  (∀ s : State, s.Shaped → s.time.ticking = true → Runs .safetyCycleBoundary s fun t =>
    t.core = ({ s with saf := t.saf }).core ∧ t.saf.soA = s.saf.soA ∧ t.saf.soB = s.saf.soB ∧
    (∃ n, t.saf.cycle = some n ∧ ∀ sc, s.saf.cycle = some sc → sc < n) ∧ t.saf.closed = false ∧
    t.saf.io.frozen = s.saf.io.filt ∧ t.saf.io.filt = s.saf.io.filt ∧ t.saf.io.pulseFail = 0 ∧
    t.saf.acksNow = s.saf.acks ∧ t.saf.acks = 0 ∧
    (∀ a, a < 12 → nth t.saf.hostStop a 0 = s.objOctet 0xA150 (a + 1) 0) ∧
    (s.isRunning .safety = false → s.fnSt .safety ≠ .fault → t.saf.io.logical = s.saf.io.logical ∧
      t.saf.io.fault = s.saf.io.fault) ∧
    (s.isRunning .safety = true ∨ s.fnSt .safety = .fault → ∀ n, n < 16 →
      let r := s.safInput n
      let v := s.normalised s.saf.io.filt n
      let pulse := bitAt s.saf.io.pulseFail n || bitAt s.saf.io.pulseFail (16 + n)
      let k := if (v.1 != v.2 || pulse) = true then nth s.saf.io.disc n 0 + 1 else 0
      let fault := (bitAt s.saf.io.fault n && (v.1 || v.2 || pulse)) || decide (u8At r 1 ≤ k)
      (u8At r 0 = 0 → bitAt t.saf.io.logical n = false) ∧
      (u8At r 0 ≠ 0 → bitAt t.saf.io.fault n = fault ∧ bitAt t.saf.io.logical n = (v.1 && v.2 && !fault) ∧
        nth t.saf.io.disc n 0 = min k 65535 ∧
        (fault = true → bitAt s.saf.io.fault n = false → t.raised 456 ∧
          (s.isRunning .safety = true → t.saf.degraded.isSome = true))))) ∧
  (∀ (s : State) (sc : Nat), s.Shaped → s.saf.cycle = some sc → s.saf.closed = false → Runs .telegramCollectionClose s fun t =>
    t.core = ({ s with saf := t.saf }).core ∧ t.saf.closed = true ∧ t.saf.cycle = some sc ∧
    (∀ j, j < 96 → (nth t.saf.joints j SafPos.initial).pos = s.safePosition sc j ∧
      (nth t.saf.joints j SafPos.initial).prev = (nth s.saf.joints j SafPos.initial).pos) ∧
    (∀ e r, (e, r) ∈ s.safBindings →
      (nth t.saf.bindings e SafBinding.initial).missing = ((nth s.saf.bindings e SafBinding.initial).inCycle sc).isEmpty) ∧
    t.saf.occCount = ((List.range 81920).filter (s.occupied (s.reports sc))).length ∧
    (t.saf.occCount ≤ 2048 → ∀ b, b < 81920 → (b ∈ t.saf.occ ↔ s.occupied (s.reports sc) b = true))) ∧
  (∀ s : State, s.time.ticking = false → exec .safetyCycleBoundary s = .next s) ∧
  (∀ s : State, (s.saf.cycle = none ∨ s.saf.closed = true) → exec .telegramCollectionClose s = .next s)

/-- Each channel decides once a cycle: arms change state only as Table 12-5 states, a pair is on only for an arm out of STO, and differences fault (R502, R508, R509, R510, R514, R515, R521, R523, R536).
Rests on choices of the model: assumption logs 3, 40, 41. -/
def Obligations.ChannelDecisionsFollowTheTable : Prop :=
  (∀ (s : State) (b : Bool) (sc : Nat), s.Shaped → s.saf.cycle = some sc → s.saf.closed = true → s.isRunning .safety = true →
    (s.saf.channel b).decided ≠ some sc → (if b then s.saf.faultB else s.saf.faultA) = false →
    Runs (if b then .channelBDecision else .channelADecision) s fun t =>
      (t.saf.channel b).decided = some sc ∧ t.saf.channel (!b) = s.saf.channel (!b) ∧
      (∀ a, a < 12 →
        let old := (s.saf.arm b a).st
        let new := (t.saf.arm b a).st
        (s.safEnabled a = false → new = 0) ∧
        (s.safEnabled a = true → new = (s.findArm b a sc).next ∧
          (new = old ∨ new = 0 ∨ (new = 1 ∧ old ∈ [2, 3, 4]) ∨ (old, new) ∈ [(4, 2), (2, 3), (3, 4), (0, 4)]) ∧
          (new ≠ old → (t.saf.arm b a).entry = sc ∧ (new ∈ [1, 2] → (t.saf.arm b a).stopReq = true) ∧
            (new = 4 → (t.saf.arm b a).stopReq = false)) ∧
          ((∃ j ∈ s.safMembers a, (nth s.saf.joints j SafPos.initial).pos = none) → new = 0 ∧
            ((445, a) ∉ s.saf.raised → t.raised 445)) ∧
          (s.saf.degExpired = true → old ∈ [2, 3, 4] → new ∈ [0, 1]))) ∧
      (∀ n, n < 8 → (if b then t.saf.soB else t.saf.soA).getLsbD n = true → s.pair.acting = true ∧ t.pairWanted b n = true) ∧
      (t.isRunning .safety = true → (if b then t.saf.soA = s.saf.soA else t.saf.soB = s.saf.soB)) ∧
      ((∀ n, n < 8 → s.edmOf n = none) → t.core = ({ s with saf := t.saf }).core ∧
        (s.pair.acting = true → s.power.testMode = false → ∀ n, n < 8 → (if b then t.saf.soB else t.saf.soA).getLsbD n = t.pairWanted b n))) ∧
  (∀ s : State, s.saf.faultA = true → exec .channelADecision s = .next s) ∧
  (∀ s : State, s.saf.faultB = true → exec .channelBDecision s = .next s) ∧
  (∀ (s : State) (sc : Nat), s.Shaped → s.saf.cycle = some sc → s.isRunning .safety = true → s.saf.chA.decided = some sc →
    s.saf.chB.decided = some sc →
    let k := u16At (s.obj 0xA100 0) 4
    let same := ∀ a, a < 12 → (s.saf.arm false a).st = (s.saf.arm true a).st
    Runs (.decisionCompare true) s (fun t => t.fn .safety = ⟨.fault, 0x0103⟩ ∧ t.allOff) ∧
    ((∃ a, a < 12 ∧ nth s.saf.tolerated a false = false ∧ let x := s.saf.arm false a; let y := s.saf.arm true a
        x.st ≠ y.st ∧ x.cart = y.cart ∧ x.zone = y.zone ∧ x.ssm = y.ssm) → Runs (.decisionCompare false) s fun t =>
      t.fn .safety = ⟨.fault, 0x0103⟩ ∧ t.allOff) ∧
    (same → (∃ i, i < 36 ∧ s.tolerantDiff i = true ∧ k ≤ nth s.saf.disagree i 0 + 1) → Runs (.decisionCompare false) s fun t =>
      t.fn .safety = ⟨.fault, 0x0104⟩ ∧ t.allOff) ∧
    (same → 1 ≤ k → (∀ i, i < 36 → s.tolerantDiff i = true → nth s.saf.disagree i 0 + 1 < k) →
      (s.saf.degraded.isSome = true → (∀ a, a < 12 → (s.saf.arm false a).st = 0) → Runs (.decisionCompare false) s fun t =>
        t.fn .safety = ⟨.fault, 0x0107⟩ ∧ t.raised 442 ∧ t.allOff) ∧
      ((s.saf.degraded = none ∨ ∃ a, a < 12 ∧ (s.saf.arm false a).st ≠ 0) → Runs (.decisionCompare false) s fun t =>
        t.core = ({ s with saf := { s.saf with tolerated := t.saf.tolerated, disagree := t.saf.disagree } }).core ∧
        ∀ i, i < 36 → nth t.saf.disagree i 0 = (if s.tolerantDiff i then nth s.saf.disagree i 0 + 1 else 0) ∧
          (s.tolerantDiff i = true → nth s.saf.disagree i 0 = 0 → t.raised 444)))) ∧
  (∀ (s : State) (m : Bool), s.isRunning .safety = false → exec (.decisionCompare m) s = .next s) ∧
  (∀ (s : State) (a : Fin 12), s.Shaped → s.isRunning .safety = true → Runs (.tstopElapsed a) s fun t => ∀ (b : Bool) (c : Nat),
    (t.saf.arm b c).st = if c = a.val ∧ (s.saf.arm b c).st = 1 then 0 else if c = a.val ∧ (s.saf.arm b c).st = 2 then 3
      else (s.saf.arm b c).st) ∧
  (∀ (s : State) (a : Fin 12), s.isRunning .safety = false → exec (.tstopElapsed a) s = .next s) ∧
  (∀ (s : State) (d : Nat × Nat), s.saf.degraded = some d → Runs .degradedTimerExpiry s fun t =>
    t.core = ({ s with saf := { s.saf with degExpired := true } }).core) ∧
  (∀ s : State, s.saf.degraded = none → exec .degradedTimerExpiry s = .next s)

/-- A filtered level changes after F equal samples; read-backs, test pulses, EDM, discrepancies and lost bindings are faults or degraded mode (R534, R550, R551, R554, R555, R558, R560, R561, R566, R573, R578).
Rests on choices of the model: assumption logs 43, 70. -/
def Obligations.SafetyInputsAndOutputsAreMonitored : Prop :=
  (∀ (s : State) (si ed rba rbb : Nat), s.Shaped → s.power.compReset = false →
    let raw := si % 2 ^ 32 + 2 ^ 32 * (ed % 256)
    let high := fun (k : Nat) => bitAt (if k % 2 = 1 then rbb else rba) (k / 2)
    let role := fun (k : Nat) => u8At (s.safPair (k / 2)) 0
    Runs (.safetyIoSample si ed rba rbb) s fun t =>
      (∀ i, i < 40 →
        let run := if bitAt s.saf.io.raw i == bitAt raw i then nth s.saf.io.runs i 0 + 1 else 1
        nth t.saf.io.runs i 0 = min run 1000 ∧
        bitAt t.saf.io.filt i = (match s.filterLen i with
          | some f => if f ≤ run then bitAt raw i else bitAt s.saf.io.filt i
          | none => bitAt s.saf.io.filt i)) ∧
      t.saf.io.raw = raw ∧ t.saf.io.rba = rba % 256 ∧ t.saf.io.rbb = rbb % 256 ∧
      ((∃ k, k < 16 ∧ ((role k = 0 ∧ high k = true) ∨
        (role k ≠ 0 ∧ nth s.saf.io.since k 0 + 1000000 < s.time.ringNs ∧
          ((s.outOn k = false ∧ high k = true) ∨
           (s.outOn k = true ∧ bitAt s.saf.io.pulse k = false ∧ high k = false ∧ 2 ≤ nth s.saf.io.lows k 0))))) →
        s.fnSt .safety ≠ .fault → t.fnSt .safety = .fault ∧ t.allOff) ∧
      ((∀ k, k < 16 → high k = s.outOn k ∧ (role k = 0 → high k = false)) → (∀ i, 32 ≤ i → i < 40 → bitAt raw i = bitAt s.saf.io.filt i) →
        t.core = ({ s with saf := { s.saf with io := t.saf.io } }).core)) ∧
  (∀ (s : State) (i : Fin 40) (level : Bool), s.power.compReset = false → s.filterLen i ≠ none →
    Runs (.inputFilterChange i level) s fun t =>
      (∀ k, bitAt t.saf.io.filt k = if k = i.val then level else bitAt s.saf.io.filt k) ∧ bitAt t.saf.io.raw i = level ∧
      (i.val < 32 → t.core = ({ s with saf := { s.saf with io := t.saf.io } }).core) ∧
      (∀ n, 32 ≤ i.val → level = true → bitAt s.saf.io.filt i = false →
        (List.range 8).find? (fun n => s.edmOf n == some (i.val - 32)) = some n → s.pairOn n = true →
        bitAt s.saf.io.edmLow n = true → s.fnSt .safety ≠ .fault → s.Shaped →
        t.fn .safety = ⟨.fault, 0x0183⟩ ∧ t.raised 458 ∧ t.allOff)) ∧
  (∀ (s : State) (i : Fin 40) (level : Bool), (s.power.compReset = true ∨ s.filterLen i = none) →
    exec (.inputFilterChange i level) s = .next s) ∧
  (∀ (s : State) (n : Fin 16),
    let v := s.normalised s.saf.io.filt n
    let bad := u8At (s.safInput n) 0 != 0 && (v.1 != v.2 || bitAt s.saf.io.pulseLast n || bitAt s.saf.io.pulseLast (16 + n)) &&
      !bitAt s.saf.io.fault n && decide (u8At (s.safInput n) 1 ≤ nth s.saf.io.disc n 0 + 1)
    (bad = true → Runs (.discrepancyFault n) s fun t => bitAt t.saf.io.fault n = true ∧ bitAt t.saf.io.logical n = false ∧
      t.raised 456 ∧ (s.isRunning .safety = true → t.saf.degraded = s.saf.degraded.or (some (2, s.time.ringNs))) ∧
      t.core = ({ s with saf := t.saf }).core) ∧
    (bad = false → exec (.discrepancyFault n) s = .next s)) ∧
  (∀ (s : State) (k : Fin 16),
    (s.outOn k = true → u8At (s.safPair (k.val / 2)) 0 ≠ 0 → Runs (.testPulseStart k) s fun t => ∃ w,
      t.core = (s.onIo fun x => { x with pulse := setBits x.pulse (1 <<< k.val), since := upd x.since k fun _ => w }).core ∧
      (s.time.ticking = true → w ≤ t.time.ringNs) ∧ (1 ≤ u16At (s.safPair (k.val / 2)) 6 → s.time.ringNs ≤ w ∧
        ∃ m, w = 50000 + 400000 * k.val + 10000000 * u16At (s.safPair (k.val / 2)) 6 * m)) ∧
    ((s.outOn k = false ∨ u8At (s.safPair (k.val / 2)) 0 = 0) → exec (.testPulseStart k) s = .next s)) ∧
  (∀ (s : State) (k : Fin 16) (high : Bool) (si : Nat), s.Shaped →
    (bitAt s.saf.io.pulse k = true → Runs (.testPulseEnd k high si) s fun t =>
      bitAt t.saf.io.pulse k = false ∧ nth t.saf.io.since k 0 = t.time.ringNs ∧
      (s.time.ticking = true → nth s.saf.io.since k 0 + 1000 * u16At (s.safPair (k.val / 2)) 4 ≤ t.time.ringNs) ∧
      (∀ i, bitAt t.saf.io.pulseFail i = (bitAt s.saf.io.pulseFail i || ((s.pulsedBy k).contains i && bitAt si i))) ∧
      (if high = true ∧ s.fnSt .safety ≠ .fault then t.fn .safety = ⟨.fault, 0x0181⟩ ∧ t.allOff ∧ t.raised 457
       else t.core = ({ s with saf := { s.saf with io := t.saf.io } }).core)) ∧
    (bitAt s.saf.io.pulse k = false → exec (.testPulseEnd k high si) s = .next s)) ∧
  (∀ (s : State) (n : Fin 8) (m : Nat), s.Shaped → s.edmOf n = some m → u8At (s.safPair n) 0 = 1 → s.fnSt .safety ≠ .fault →
    (s.pairOn n = s.edmHigh m → Runs (.edmTimeout n) s fun t => t.fn .safety = ⟨.fault, 0x0183⟩ ∧ t.allOff ∧ t.raised 458 ∧
      (s.time.ticking = true → nth s.saf.io.pairSince n 0 + 1000000 * u16At (s.safPair n) 2 ≤ t.time.ringNs)) ∧
    (s.pairOn n ≠ s.edmHigh m → exec (.edmTimeout n) s = .next s)) ∧
  (∀ (s : State) (b : Fin 104), s.Shaped →
    let r := bindRec (s.obj 0xA160 0) b
    ((nth s.saf.bindings b SafBinding.initial).st = 3 → u8At r 0 ≠ 0 → Runs (.bindingWatchdogExpiry b) s fun t =>
      (nth t.saf.bindings b SafBinding.initial).st = 1 ∧ (nth t.saf.bindings b SafBinding.initial).lost = true ∧ t.raised 459 ∧
      t.core = ({ s with saf := t.saf }).core ∧
      (∀ c, c ≠ b.val → nth t.saf.bindings c SafBinding.initial = nth s.saf.bindings c SafBinding.initial) ∧
      t.saf.degraded = if u8At r 0 = 2 ∧ s.isRunning .safety = true then s.saf.degraded.or (some (1, t.time.ringNs))
        else s.saf.degraded) ∧
    (((nth s.saf.bindings b SafBinding.initial).st ≠ 3 ∨ u8At r 0 = 0) → exec (.bindingWatchdogExpiry b) s = .next s))

/-- A lost cross line, a marker out of its interval, a channel's own fault and a missing output frame switch outputs off with their code (R34, R502, R503, R504, R505, R506, R533, R782, R812).
Rests on choices of the model: assumption log 42. -/
def Obligations.ChannelFaultsSwitchEveryOutputOff : Prop :=
  ∀ s : State, s.Shaped →
    let faulted := fun (code : Nat) (t : State) =>
      t.fn .safety = ⟨.fault, code⟩ ∧ t.allOff ∧ t.raised 443 ∧ (∀ f : Fn, f.exists = true → f ≠ .safety → t.fn f = s.fn f) ∧
      t.saf.brake = none ∧ (code ∈ [0x0101, 0x0102, 0x0105] → t.pair.acting = false ∧ (s.pair.acting = true → t.pair.actvO = false)) ∧
      (code ∉ [0x0101, 0x0102, 0x0105] → t.core = ({ s with saf := t.saf, fns := t.fns, pair := { s.pair with armed := t.pair.armed } }).core)
    (s.fnSt .safety ≠ .fault → s.power.compReset = false →
      (∀ d : Nat, (d < 495000 ∨ 505000 < d) → Runs (.safetyMarker d) s (faulted 0x0106)) ∧
      Runs .xaEdgeTimeout s (fun t => faulted 0x0105 t ∧ t.saf.lostXA = true)) ∧
    (s.fnSt .safety ≠ .fault → s.power.pllLocked = true →
      Runs .xbEdgeTimeout s (fun t => faulted 0x0105 t ∧ t.saf.lostXB = true)) ∧
    (s.fnSt .safety ≠ .fault → Runs (.channelInternalFault false) s (fun t => faulted 0x0101 t ∧ t.saf.faultA = true) ∧
      Runs (.channelInternalFault true) s (fun t => faulted 0x0102 t ∧ t.saf.faultB = true)) ∧
    (s.fnSt .safety = .fault → s.power.compReset = false → Runs .xaEdgeTimeout s fun t => t.saf.soA = 0#8 ∧ t.fns = s.fns) ∧
    (s.fnSt .safety = .fault → s.power.pllLocked = true → Runs .xbEdgeTimeout s fun t => t.saf.soA = 0#8 ∧ t.fns = s.fns) ∧
    Runs .outputFrameTimeout s (fun t => t.saf.soA = 0#8 ∧ t.saf.soB = s.saf.soB ∧
      t = { s with saf := { s.saf with soA := 0#8, io := t.saf.io } }) ∧
    (∀ d : Nat, 495000 ≤ d → d ≤ 505000 → exec (.safetyMarker d) s = .next s)

/-- Host stop, acknowledge and brake test requests, brake ages, and the confirm, discard and commit of a safety configuration (R518, R529, R530, R531, R532, R533, R546, R584, R587, R588).
Rests on choices of the model: assumption logs 39, 43. -/
def Obligations.StopRequestsBrakeTestsAndCommissioning : Prop :=
  (∀ (s : State) (a : Fin 12) (v : Nat) (h : Hdr) (x : Session), v < 256 → Granted s h 0xA150 (a + 1) (toLE 1 v) x →
    Runs (.hostStopRequest a v h) s fun t => Answered (writeReq h 0xA150 (a + 1) (toLE 1 v)) x 0xA1 [] t ∧
      t.plant = (s.putObj 0xA150 (a + 1) (toLE 1 v)).plant) ∧
  (∀ (s : State) (mask : Nat) (h : Hdr) (x : Session), mask < 2 ^ 16 →
    (Granted s h 0xA151 0 (toLE 2 mask) x → Runs (.armAcknowledge mask h) s fun t =>
      Answered (writeReq h 0xA151 0 (toLE 2 mask)) x 0xA1 [] t ∧
      t.plant = (s.onSaf fun f => { f with acks := setBits f.acks mask }).plant) ∧
    (Admitted s (writeReq h 0xA151 0 (toLE 2 mask)) x → 1 ≤ x.role → s.available 0xA151 true = true →
      (∃ a, a < 12 ∧ bitAt mask a = true ∧ armFlag (s.safArm a) 6 = true) → Runs (.armAcknowledge mask h) s fun t =>
        t.plant = s.plant ∧ Answered (writeReq h 0xA151 0 (toLE 2 mask)) x 0xFF (toLE 4 0x03000008) t)) ∧
  (∀ (s : State) (v : Nat) (h : Hdr) (x : Session), v < 2 ^ 32 → Granted s h 0xA152 0 (toLE 4 v) x →
    let a := field v 27 24
    let js := (bitsOf 16 v).map fun i => u8At (s.safArm a) (32 + i)
    Runs (.brakeTestRequest v h) s fun t => Answered (writeReq h 0xA152 0 (toLE 4 v)) x 0xA1 [] t ∧
      t.plant = (s.onSaf fun f => { f with
        brake := some ⟨a, js, 0, field v 23 16, none, (s.arrived h).time.ringNs⟩
        ages := match js with | j :: _ => upd f.ages j (fun y => { y with result := 3 }) | [] => f.ages }).plant) ∧
  (∀ (s : State) (b : BrakeTest) (j : Nat) (rest : List Nat), s.Shaped → s.saf.brake = some b → b.joints = j :: rest → j < 96 →
    b.arm < 12 →
    let pos := (nth s.saf.joints j SafPos.initial).pos
    let age := fun (t : State) => nth t.saf.ages j ⟨0, neverPassed, 0, false⟩
    let over_ := fun (t : State) (d : Nat) => s.time.ticking = true → b.at_ + d ≤ t.time.ringNs
    ((s.saf.faultA = false ∨ s.saf.faultB = false) → b.phase ≠ 0 → (∀ n, n < 8 → s.edmOf n = none) →
      (∃ q0 q, b.start = some q0 ∧ pos = some q ∧ u32At (s.safLimit j) 32 < (q - q0).natAbs) →
      Runs (if s.saf.faultA then .channelBDecision else .channelADecision) s fun t => t.saf.brake = none ∧
        nth t.saf.brakeFail b.arm false = true ∧ (age t).result = 2 ∧ t.raised 447 ∧
        (s.isRunning .safety = true → t.saf.degraded = s.saf.degraded.or (some (3, s.time.ringNs)))) ∧
    (b.phase = 0 → Runs .brakeTestPhaseEnd s fun t => over_ t 200000000 ∧ t.core = (s.onSaf fun f =>
      { f with brake := some { b with phase := 1, start := pos, at_ := t.time.ringNs } }).core) ∧
    (b.phase = 1 → Runs .brakeTestPhaseEnd s fun t => over_ t 500000000 ∧ t.core = (s.onSaf fun f =>
      { f with brake := some { b with phase := 2, at_ := t.time.ringNs } }).core) ∧
    (b.phase = 2 → rest.head? ≠ some j → Runs .brakeTestPhaseEnd s fun t => over_ t 500000000 ∧
      (age t).result = 1 ∧ (age t).age = 0 ∧ (age t).at_ = t.time.ringNs ∧ t.raised 446 ∧
      t.saf.brake = (if rest = [] then none else some { b with joints := rest, phase := 0, start := none, at_ := t.time.ringNs }) ∧
      ((∀ k ∈ s.safMembers b.arm, k = j ∨ k ∈ nth s.saf.brakePassed b.arm []) → nth t.saf.brakeFail b.arm false = false))) ∧
  (∀ s : State, s.saf.brake = none → exec .brakeTestPhaseEnd s = .next s) ∧
  (∀ (s : State) (j : Fin 96), s.Shaped → s.time.ticking = true →
    let y := nth s.saf.ages j ⟨0, neverPassed, 0, false⟩
    y.due = false → u32At (s.obj 0xA100 0) 8 ≤ neverPassed → y.age ≤ u32At (s.obj 0xA100 0) 8 → Runs (.brakeTestDue j) s fun t =>
      nth t.saf.ages j ⟨0, neverPassed, 0, false⟩ = { y with due := true } ∧ t.raised 448 ∧
      u32At (s.obj 0xA100 0) 8 ≤ t.brakeAge j ∧ t.core = ({ s with saf := { s.saf with ages := t.saf.ages } }).core) ∧
  (∀ (s : State) (j : Fin 96), (nth s.saf.ages j ⟨0, neverPassed, 0, false⟩).due = true → Runs (.brakeTestDue j) s fun t =>
    t.core = s.core) ∧
  (∀ s : State,
    (s.power.mramOk = true → Runs .brakeAgeStore s fun t =>
      t = s.onSaf fun f => { f with agesStored := (List.range 96).map s.brakeAge }) ∧
    (s.power.mramOk = false → exec .brakeAgeStore s = .next s)) ∧
  (∀ (s : State) (v : Nat) (h : Hdr) (x : Session), v < 2 ^ 32 → Granted s h 0xA003 0 (toLE 4 v) x →
    Runs (.safetyConfirm v h) s fun t => Answered (writeReq h 0xA003 0 (toLE 4 v)) x 0xA1 [] t ∧
      ∃ p, s.saf.set.pending = some (x.id, p) ∧ checkValue p = v ∧ t.plant = (s.onSaf fun f => { f with
        set := { f.set with pending := none, commit := some ⟨p, v⟩, state := 2 } }).plant) ∧
  (∀ (s : State) (h : Hdr) (x : Session), Granted s h 0xA004 0 (toLE 1 1) x → Runs (.discardPending h) s fun t =>
    Answered (writeReq h 0xA004 0 (toLE 1 1)) x 0xA1 [] t ∧ t.saf.set.pending = none ∧ t.saf.set.force = s.saf.set.force ∧
      t.dict.store = s.dict.store) ∧
  (∀ (s : State) (c : SafCopy) (ok : Bool), s.saf.set.commit = some c →
    let good := ok = true ∧ s.power.mramOk = true ∧ checkValue c.store = c.check
    (good → Runs (.commitComplete ok) s fun t => t.saf.set.commit = none ∧ t.saf.set.state = 3 ∧ t.saf.set.force = some c.check ∧
      t.saf.set.markerA = !s.saf.set.markerA ∧ (if t.saf.set.markerA then t.saf.set.copyA else t.saf.set.copyB) = some c ∧
      t.raised 462 ∧ t.fns = s.fns) ∧
    (¬ good → Runs (.commitComplete ok) s fun t => t.saf.set.commit = none ∧ t.saf.set.state = 4 ∧
      t.saf.set.force = s.saf.set.force ∧ t.saf.set.markerA = s.saf.set.markerA ∧ t.dict.store = s.dict.store ∧
      (if s.saf.set.markerA then t.saf.set.copyA = s.saf.set.copyA else t.saf.set.copyB = s.saf.set.copyB) ∧ t.raised 463)) ∧
  (∀ (s : State) (ok : Bool), s.saf.set.commit = none → exec (.commitComplete ok) s = .next s)

/-! ### Auxiliary axes, PWM groups, feedback inputs -/

/-- Move, jog, home, stop and halt commands start or end moves; a tick emits at most two steps within the distance; limits end moves (R594, R596, R597, R598, R599, R602, R603, R605, R606, R608, R609, R610).
Rests on choices of the model: assumption logs 47, 73. -/
def Obligations.AxesFollowTheirCommands : Prop :=
  (∀ (s : State) (k : Fin 16) (v kind : Nat) (h : Hdr) (x : Session) (c : Instr), v < 2 ^ 32 →
    (c, kind) ∈ [(.moveAbs k v h, 1), (.moveRel k v h, 2)] → Granted s h (0x7005 + 0x40 * k.val) 0 (moveCommand kind v) x →
    s.Shaped → Runs c s fun t => Answered (writeReq h (0x7005 + 0x40 * k.val) 0 (moveCommand kind v)) x 0xA1 [] t ∧
      (s.moveDistance k kind v = 0 → t.raised (224 + k.val) ∧
        t.plant = (s.onAxis k fun a => { a with move := none, status := 2, waking := a.waking || a.standstill }).plant) ∧
      (s.moveDistance k kind v ≠ 0 → t.plant = (s.onAxis k fun a =>
        let up := decide (0 < s.moveDistance k kind v)
        { a with status := 1, waking := a.waking || a.standstill, dir := up == bitAt (s.axisCfg k) 3, move := some { s.newMove k up (some (s.moveDistance k kind v).natAbs) with
          readyAt := (s.arrived h).time.ringNs + 1000 * s.cfg (0x7003 + 0x40 * k.val) 2 } }).plant)) ∧
  (∀ (s : State) (k : Fin 16) (kind : Nat) (h : Hdr) (x : Session) (c : Instr), s.Shaped →
    (c, kind) ∈ [(.jogPos k h, 3), (.jogNeg k h, 4), (.axisStop k h, 5), (.home k h, 6), (.halt k h, 7)] →
    Granted s h (0x7005 + 0x40 * k.val) 0 (moveCommand kind 0) x → Runs c s fun t =>
      Answered (writeReq h (0x7005 + 0x40 * k.val) 0 (moveCommand kind 0)) x 0xA1 [] t ∧
      (kind = 3 ∨ kind = 4 → t.plant = (s.onAxis k fun a => { a with
        status := 1, waking := a.waking || a.standstill, dir := (kind == 3) == bitAt (s.axisCfg k) 3, move := some { s.newMove k (kind == 3) none with
          readyAt := (s.arrived h).time.ringNs + 1000 * s.cfg (0x7003 + 0x40 * k.val) 2 } }).plant) ∧
      (kind = 5 ∨ kind = 7 → (s.axis k).move = none → t.plant = s.plant) ∧
      (∀ m, (s.axis k).move = some m →
        (kind = 5 → m.begun = true → t.plant = (s.onAxis k fun a => { a with move := some { m with
          stopping := true, stopStatus := 4, homing := m.homing.map fun y => { y with failed := true } } }).plant) ∧
        (kind = 7 ∨ (kind = 5 ∧ m.begun = false) → t.raised (224 + k.val) ∧ t.plant = (s.onAxis k fun a => { a with
          move := none, status := if m.homing.isSome then 7 else 4 }).plant)) ∧
      (kind = 6 → s.cfg (0x7004 + 0x40 * k.val) 1 = 0 → t.raised (224 + k.val) ∧ t.plant = (s.onAxis k fun a => { a with
        homed := true, move := none, status := 6, waking := a.waking || a.standstill
        position := (a.position + 2 ^ 32 - a.position % 2 ^ 32 + s.cfg (0x7004 + 0x40 * k.val) 4) % 2 ^ 32 }).plant) ∧
      (kind = 6 → s.cfg (0x7004 + 0x40 * k.val) 1 ≠ 0 → (t.axis k).homed = false ∧ (t.axis k).status = 5 ∧
        (t.axis k).position = (s.axis k).position ∧ ∃ m y, (t.axis k).move = some m ∧ m.homing = some y ∧ m.rem = none ∧
          m.ramp = s.rampOf k ∧ y = ⟨s.cfg (0x7004 + 0x40 * k.val) 1, s.homeFirst k (s.cfg (0x7004 + 0x40 * k.val) 1), none, false⟩ ∧
          m.pos = homeDir y.method y.phase)) ∧
  (∀ (s : State) (k : Fin 16) (us : Nat) (m : AxisMove), s.Shaped → (s.axis k).move = some m → m.homing = none →
    m.readyAt ≤ 1000 * us → (s.axis k).waking = false → s.feedbackOf k = none → Runs (.profileTick k us) s fun t => ∃ new : List Nat,
      (t.axis k).steps = stepRises (s.axis k).steps us new ∧
      let n := new.length
      n ≤ 2 ∧ (∀ c ∈ new, c < 400) ∧ (∀ r, m.rem = some r → n ≤ r) ∧
      (t.axis k).position = stepPos (s.axis k).position m.pos n ∧ (∀ i, i ≠ k.val → t.axis i = s.axis i) ∧ t.fns = s.fns ∧
      (m.stopping = false → ∀ r, m.rem = some r → n = r → (t.axis k).move = none ∧ (t.axis k).status = 2 ∧ t.raised (224 + k.val)) ∧
      (m.stopping = true → m.begun = true → m.v ≤ min m.ramp.vStop m.top →
        n = 0 ∧ (t.axis k).move = none ∧ (t.axis k).status = m.stopStatus ∧ t.raised (224 + k.val)) ∧
      (m.stopping = false → m.rem ≠ some n → ∃ y, (t.axis k).move = some y ∧ y.rem = m.rem.map (· - n) ∧ y.ramp = m.ramp ∧
        y.begun = true ∧ y.phase < 2 ^ 48 ∧ (m.v ≤ m.top → y.v ≤ m.top) ∧ (t.axis k).status = (s.axis k).status)) ∧
  (∀ (s : State) (k : Fin 16) (us : Nat) (m : AxisMove), (s.axis k).move = some m → (1000 * us < m.readyAt ∨ (s.axis k).waking = true) →
    Runs (.profileTick k us) s fun t =>
      t.core = (s.onAxis k fun a => { a with steps := stepRises a.steps us [] }).core) ∧
  (∀ (s : State) (k : Fin 16) (w : Fin 3) (on : Bool) (edge : Nat), s.Shaped → Runs (.switchFilterChange k w on edge) s fun t =>
    let a := s.axis k
    let limp := if w = 0 then on else a.limp
    let limn := if w = 1 then on else a.limn
    (t.axis k).limp = limp ∧ (t.axis k).limn = limn ∧ (t.axis k).home = (if w = 2 then on else a.home) ∧
    (t.axis k).edge = edge % 2 ^ 32 ∧ (∀ i, i ≠ k.val → t.axis i = s.axis i) ∧
    (s.isRunning (.axis k) = true → limp = true → limn = true → t.fn (.axis k) = ⟨.fault, 0x0101⟩ ∧ (t.axis k).move = none) ∧
    ((limp = false ∨ limn = false) → t.fns = s.fns ∧
      (∀ m, a.move = some m → m.homing = none →
        (on = true → m.pos = (w == 0) → w ≠ 2 → (bitAt (s.axisCfg k) 7 = false ∨ m.begun = false) →
          (t.axis k).move = none ∧ (t.axis k).status = 3 ∧ t.raised (224 + k.val)) ∧
        (on = true → m.pos = (w == 0) → w ≠ 2 → bitAt (s.axisCfg k) 7 = true → m.begun = true →
          (t.axis k).move = some { m with stopping := true, stopStatus := 3 }) ∧
        ((on = false ∨ w = 2 ∨ m.pos ≠ (w == 0)) → (t.axis k).move = some m)))) ∧
  (∀ (s : State) (k : Fin 16) (g : Nat), s.stageOf k = some g →
    let act := field (s.axisCfg k) 23 22
    (s.isRunning (.axis k) = true → field (s.axisCfg k) 31 24 ≠ 0 → (act = 1 ∨ act = 2) → Runs (.standstillDelayExpiry k) s fun t =>
      t = (s.onAxis k fun a => { a with standstill := true }).onGroup g fun y => { y with standstill := act }) ∧
    ((s.isRunning (.axis k) = false ∨ field (s.axisCfg k) 31 24 = 0) → exec (.standstillDelayExpiry k) s = .next s))

/-- A PWM period reloads the shadow values and posts its item; a trip input puts the groups that name it into their safe state (R609, R613, R617, R618, R619, R620, R621, R622, R623, R624, R627, R629).
Rests on choices of the model: assumption logs 42, 45, 48. -/
def Obligations.PwmGroupsReloadAndTrip : Prop :=
  (∀ (s : State) (g : Fin 8), s.Shaped →
    let runs := s.fnSt (.pwm g) = .running
    let first := s.fnSt (.pwm g) = .starting ∧ (s.group g).armed = true ∧ s.aux.calibrated = true
    let settled := ∀ b, b < 8 → bitAt s.aux.tripPol b = bitAt (s.cfg (0x7880 + b) 0) 16
    (first → Runs (.pwmPeriodStart g) s fun t => (t.group g).period = some 0 ∧ ∀ b, b < 8 →
      let pol := bitAt (s.cfg (0x7880 + b) 0) 16
      bitAt t.aux.tripPol b = pol ∧ bitAt t.aux.trips b = (bitAt s.aux.trips b == (bitAt s.aux.tripPol b == pol))) ∧
    (runs ∨ (first ∧ settled) → Runs (.pwmPeriodStart g) s fun t =>
      let n := if first then 0 else (match (s.group g).period with | some n => n + 1 | none => 0)
      let item := bitAt (s.groupCfg g) 7 && n % field (s.groupCfg g) 23 16 == 0
      t.fn (.pwm g) = ⟨.running, (s.fn (.pwm g)).code⟩ ∧ (∀ f : Fn, f.exists = true → f ≠ .pwm g → t.fn f = s.fn f) ∧
      (t.group g).period = some n ∧ (t.group g).next = (s.group g).next + s.periodCycles g ∧
      ((s.group g).armed = true → s.time.ticking = true → ((s.group g).next * 5 + 1) / 2 ≤ t.time.ringNs) ∧ (t.group g).active = (s.group g).shadow ∧ (t.group g).shadow = (s.group g).shadow ∧
      (t.group g).coarse = !s.aux.calibrated ∧ (s.aux.calibrated = true → (t.group g).dead = s.cfg (0x7802 + 0x10 * g.val) 0) ∧
      (∀ k, k < 16 → s.stageOf k = some g.val → (s.axis k).waking = true →
        t.axis k = { s.axis k with standstill := false, waking := false } ∧ (t.group g).standstill = 0) ∧
      (item = true → (t.group g).itemOpen = true ∧ ((s.group g).itemOpen = true → (t.group g).late = true ∧
          ((s.group g).late = false → t.raised (240 + g.val))) ∧
        (s.isRunning .waystation = true → ∃ p : Octets, p.length = 32 ∧ Posted s t (96 + g.val) (0x10000 + g.val) p)) ∧
      (item = false → (t.group g).itemOpen = (s.group g).itemOpen ∧ (t.group g).late = (s.group g).late) ∧
      (∀ i, i ≠ g.val → t.group i = s.group i)) ∧
    (¬ runs → ¬ first → Runs (.pwmPeriodStart g) s fun t => t.core = s.core ∧ ((s.group g).armed = false → t = s))) ∧
  (∀ (s : State) (g : Fin 8) (p : Fin 3) (v : Nat) (h : Hdr) (x : Session), v < 2 ^ 32 →
    let i := 0x7803 + 0x10 * g.val
    (Granted s h i (p.val + 1) (toLE 4 v) x → Runs (.dutyWrite g p v h) s fun t =>
      Answered (writeReq h i (p.val + 1) (toLE 4 v)) x 0xA1 [] t ∧
      t.plant = ((s.onGroup g fun y => { y with shadow := upd y.shadow p.val fun _ => v }).putObj i (p.val + 1) (toLE 4 v)).plant) ∧
    (Admitted s (writeReq h i (p.val + 1) (toLE 4 v)) x → 1 ≤ x.role → s.available i true = true → bitAt (s.groupCfg g) 7 = true →
      Runs (.dutyWrite g p v h) s fun t => t.plant = s.plant ∧
        Answered (writeReq h i (p.val + 1) (toLE 4 v)) x 0xFF (toLE 4 0x03000008) t)) ∧
  (∀ (s : State) (i : Fin 8), s.Shaped →
    (bitAt s.aux.trips i = false → Runs (.tripInputActive i) s fun t =>
      (∀ b, bitAt t.aux.trips b = (bitAt s.aux.trips b || b == i.val)) ∧ t.raised (248 + i.val) ∧
      (∀ g, g < 8 →
        let named := bitAt (field (s.groupCfg g) 31 24) i
        (named = true → t.fnSt (.pwm g) = .fault ∧ (s.fnSt (.pwm g) ≠ .fault → t.fn (.pwm g) = ⟨.fault, 0x0101⟩ ∧ t.raised (240 + g)) ∧
          (s.power.cm2Short = [] → s.power.mainReset = false →
            t.pwmDrive g = if bitAt (s.groupCfg g) 6 then .short else .low)) ∧
        (named = false → t.fn (.pwm g) = s.fn (.pwm g))) ∧
      t.core = ({ s with fns := t.fns, aux := { s.aux with trips := t.aux.trips } }).core ∧
      (∀ f : Fn, f.exists = true → (∀ g, f ≠ .pwm g) → t.fn f = s.fn f)) ∧
    (bitAt s.aux.trips i = true → exec (.tripInputActive i) s = .next s) ∧
    Runs (.tripInputInactive i) s (fun t => (∀ b, bitAt t.aux.trips b = (bitAt s.aux.trips b && b != i.val)) ∧
      t = { s with aux := { s.aux with trips := t.aux.trips } })) ∧
  (∀ (s : State) (ok : Bool),
    (s.power.pllLocked = true → Runs (.calibrationMeasure ok) s fun t => t = { s with aux := { s.aux with calibrated := ok } }) ∧
    (s.power.pllLocked = false → exec (.calibrationMeasure ok) s = .next s))

/-- A feedback edge counts by its mode, two changes at once and too high a rate are faults, an index edge latches, a window gives the speed (R104, R630, R631, R632, R633, R634, R635).
Rests on choices of the model: assumption logs 3, 47. -/
def Obligations.FeedbackInputsCountAndLatch : Prop :=
  (∀ (s : State) (n : Fin 16) (a b : Bool) (at_ : Nat), s.Shaped →
    let x := s.feedback n
    let c := s.cfg (0x7C01 + 0x10 * n.val) 0
    let pos := fun (t : State) => (t.feedback n).position
    let one : Int := if bitAt c 7 then -1 else 1
    let full := field c 23 16 < (if x.tick = at_ / 1000 then x.tickCounts else 0) + 1
    Runs (.feedbackEdge n a b at_) s fun t =>
      (t.feedback n).a = a ∧ (t.feedback n).b = b ∧ (∀ i, i ≠ n.val → t.feedback i = s.feedback i) ∧
      (s.isRunning (.feedback n) = false → t.core = (s.onFeedback n fun y => { y with a := a, b := b }).core) ∧
      (s.isRunning (.feedback n) = true →
        (field c 1 0 = 1 → a ≠ x.a → b ≠ x.b → t.fn (.feedback n) = ⟨.fault, 0x0101⟩ ∧ pos t = pos s ∧
          (∀ k, k < 16 → s.feedbackOf k = some n.val → s.isActive (.axis k) = true → t.fn (.axis k) = ⟨.fault, 0x0001⟩ ∧
            t.raised (224 + k) ∧ (t.axis k).move = none)) ∧
        (field c 1 0 = 1 → ((a ≠ x.a ∧ b = x.b) ∨ (a = x.a ∧ b ≠ x.b)) → pos t = addPos (pos s) 1 ∨ pos t = addPos (pos s) (-1)) ∧
        (field c 1 0 ≠ 1 → a = true → x.a = false → pos t = addPos (pos s) (if b then one else -one)) ∧
        ((field c 1 0 ≠ 1 ∧ (a = false ∨ x.a = true)) ∨ (a = x.a ∧ b = x.b) →
          t.core = (s.onFeedback n fun y => { y with a := a, b := b }).core) ∧
        (((field c 1 0 = 1 ∧ ((a ≠ x.a ∧ b = x.b) ∨ (a = x.a ∧ b ≠ x.b))) ∨ (field c 1 0 ≠ 1 ∧ a = true ∧ x.a = false)) →
          (∀ k, k < 16 → s.feedbackOf k = some n.val → (t.axis k).unseen = 0) ∧
          (full → t.fn (.feedback n) = ⟨.fault, 0x0102⟩) ∧ (¬ full → t.fns = s.fns)))) ∧
  (∀ (s : State) (n : Fin 16), s.Shaped →
    (s.isRunning (.feedback n) = true → Runs (.indexEdge n) s fun t =>
      t.feedback n = { s.feedback n with indexLatch := (s.feedback n).position, latched := true } ∧
      (∀ k, k < 16 → (t.axis k).indexPos = if s.feedbackOf k = some n.val then (s.axis k).position else (s.axis k).indexPos) ∧
      t.fns = s.fns) ∧
    (s.isRunning (.feedback n) = false → exec (.indexEdge n) s = .next s)) ∧
  (∀ (s : State) (n : Fin 16), s.Shaped →
    let x := s.feedback n
    let w := s.cfg (0x7C02 + 0x10 * n.val) 1
    let co := s.cfg (0x7C02 + 0x10 * n.val) 2
    (s.isRunning (.feedback n) = true → Runs (.speedWindowEnd n) s fun t =>
      (t.feedback n).window = 0 ∧ (t.feedback n).position = x.position ∧
      (t.feedback n).counting = (if x.window.natAbs < co then false else if 2 * co < x.window.natAbs then true else x.counting) ∧
      ((t.feedback n).counting = true → (t.feedback n).speed = roundEven (x.window * 256000) w) ∧
      ((t.feedback n).counting = false → x.last = none → (t.feedback n).speed = 0) ∧
      (∀ l, (t.feedback n).counting = false → x.last = some l →
        let d := max (x.interval.getD 0) (s.controlCycle - l)
        d ≠ 0 → (t.feedback n).speed = (if x.up then 1 else -1) * roundEven 102400000 d) ∧
      t = s.onFeedback n fun _ => t.feedback n) ∧
    (s.isRunning (.feedback n) = false → exec (.speedWindowEnd n) s = .next s))

/-! ### CAN FD controllers -/

/-- A CAN frame goes to the endpoint, a mailbox or nowhere; the pending frame of highest priority is sent; errors count up to bus-off and recovery (R136, R647, R648, R651, R652, R653, R654, R658, R661, R662, R663, R665).
Rests on choices of the model: assumption logs 1, 30, 61, 73. -/
def Obligations.CanControllersReceiveAndSend : Prop :=
  (∀ (s : State) (n : Fin 4) (f : CanFrame) (at_ : Nat), s.Shaped →
    let e : Endpoint := ⟨2 + n.val, 0, 0⟩
    let a := s.advanceTo at_
    let mine := s.cfg (canIdx n 0x10) 1 = 1 ∧ f.ident % 2 ^ 32 = s.cfg (canIdx n 0x10) 2
    let asks := mine ∧ s.canMode n = 0 ∧ s.serves = true
    let taken := asks ∧ ((a.canFrame n f).carry e (canOctets f) at_).2 = true
    let held := ∃ i ∈ s.way.held, i.origin = requestOrigin (2 + n.val)
    let box := fun (t : State) (b : Nat) => (t.can n).boxes.find? (·.1 == b)
    let stored := fun (t : State) (b e : Nat) =>
      if bitAt (s.can n).locked b then bitAt (t.can n).lost b = true ∧ t.raised (canEvent n 3) ∧ (t.can n).boxes = (s.can n).boxes
      else bitAt (t.can n).locked b = true ∧ box t b = some (b, receiveRecord f e a.canStamp)
    (s.canHears n = false → exec (.canFrameReceived n f at_) s = .next a) ∧
    (s.canHears n = true → s.canCarries n f = false → Runs (.canFrameReceived n f at_) s fun t => t.fns = s.fns ∧
      (∀ i, i ≠ n.val → t.can i = s.can i) ∧ (t.can n).lec = 2 ∧ (t.can n).boxes = (s.can n).boxes ∧
      (s.canCounts n = true → (t.can n).rec_ = min ((s.can n).rec_ + 1) 255)) ∧
    (s.canTakes n f = true → taken → messageFits e (canOctets f) = true → u8At (canOctets f) 0 ≠ 1 →
      Runs (.canFrameReceived n f at_) s fun t =>
        t.dict.lastReply = some ⟨e, bareAnswer (Req.ofMessage e (canOctets f)) abVersion⟩ ∧
        t.dict.sessions = s.dict.sessions ∧ t.plant = s.plant) ∧
    (s.canTakes n f = true → ¬ taken → Runs (.canFrameReceived n f at_) s fun t => t.fns = s.fns ∧
      (∀ i, i ≠ n.val → t.can i = s.can i) ∧ { t.calm with cans := s.cans } = s.calm ∧
      (s.canCounts n = true → (s.can n).rec_ ≤ 127 → (t.can n).rec_ = (s.can n).rec_ - 1) ∧
      (mine → (t.can n).boxes = (s.can n).boxes ∧ (t.can n).locked = (s.can n).locked) ∧
      (asks → s.isRunning .waystation = true → ¬ held →
        Posted s t 118 (requestOrigin (2 + n.val)) ((toLE 1 e.port ++ toLE 16 0 ++ toLE 2 0 ++ canOctets f).take 2048)) ∧
      (asks → s.isRunning .waystation = true → held → t.raised (canEvent n 3)) ∧
      (¬ mine → f.rtr = true → bitAt (s.canCfg n) 1 = true → (t.can n).boxes = (s.can n).boxes) ∧
      (¬ mine → (f.rtr = false ∨ bitAt (s.canCfg n) 1 = false) →
        (∀ e o, s.filterFor n f = some (e, o) → if bitAt (u8At o 0) 1 then stored t (u8At o 1) e
          else (t.can n).boxes = (s.can n).boxes ∧ (t.can n).locked = (s.can n).locked) ∧
        (s.filterFor n f = none → if bitAt (s.canCfg n) 0 then stored t 31 0xFF
          else (t.can n).boxes = (s.can n).boxes ∧ (t.can n).locked = (s.can n).locked)))) ∧
  (∀ (s : State) (n : Fin 4) (mask : Nat) (h : Hdr) (x : Session), mask < 2 ^ 16 →
    (Granted s h (canIdx n 0x31) 0 (toLE 2 mask) x → Runs (.transmitRequest n mask h) s fun t =>
      Answered (writeReq h (canIdx n 0x31) 0 (toLE 2 mask)) x 0xA1 [] t ∧
      (s.Shaped → h.src.port < 2 → (∀ b, bitAt (t.can n).pending b = (bitAt (s.can n).pending b || bitAt mask b)) ∧
        (∀ b, bitAt mask b = true → bitAt (s.can n).pending b = false → bitAt (t.can n).failed b = false)) ∧ t.plant = s.plant) ∧
    (Admitted s (writeReq h (canIdx n 0x31) 0 (toLE 2 mask)) x → 1 ≤ x.role → s.available (canIdx n 0x31) true = true →
      (s.pair.acting = false ∨ s.isRunning (.can n) = false ∨ s.canMode n = 1 ∨ s.canMode n = 2) → Runs (.transmitRequest n mask h) s fun t =>
        t.plant = s.plant ∧ Answered (writeReq h (canIdx n 0x31) 0 (toLE 2 mask)) x 0xFF (toLE 4 0x03000008) t)) ∧
  (∀ (s : State) (n : Fin 4), s.Shaped →
    let free := s.canOn n = true ∧ s.canCounts n = true ∧ (s.can n).sending = none
    (free → s.txWaiting n ≠ [] → Runs (.busFreeArbitration n) s fun t => ∃ y ∈ s.txWaiting n,
      (∀ z ∈ s.txWaiting n, canKey y.2 ≤ canKey z.2) ∧ t = s.onCan n fun c => { c with sending := some y, sof := s.canStamp }) ∧
    (¬ free ∨ s.txWaiting n = [] → exec (.busFreeArbitration n) s = .next s)) ∧
  (∀ (s : State) (n : Fin 4) (y : Nat × CanFrame) (out lec : Nat) (exempt : Bool) (d : Nat), s.Shaped →
    (s.can n).sending = some y → y.1 < 16 → s.canMode n < 3 → s.power.resetAsked = none → Runs (.canTransmissionEnd n out lec exempt d) s fun t =>
      (t.can n).sending = none ∧ t.fns = s.fns ∧ (∀ i, i ≠ n.val → t.can i = s.can i) ∧
      (out = 0 → (t.can n).tec = min ((s.can n).tec - 1) 511 ∧ ((s.can n).conf ≠ 2 → (s.can n).tec ≤ 256 →
        ∀ b, bitAt (t.can n).pending b = (bitAt (s.can n).pending b && b != y.1))) ∧
      (out = 1 → (t.can n).tec = (s.can n).tec ∧ (t.can n).pending = (s.can n).pending ∧ (t.can n).failed = (s.can n).failed) ∧
      (2 ≤ out → (t.can n).lec = lec ∧
        (exempt = true → (t.can n).tec = (s.can n).tec) ∧
        (exempt = false → (t.can n).tec = min ((s.can n).tec + 8) 511) ∧
        (bitAt (s.canCfg n) 3 = true → bitAt (t.can n).pending y.1 = false ∧ bitAt (t.can n).failed y.1 = true) ∧
        (bitAt (s.canCfg n) 3 = false → (s.can n).tec < 248 → (t.can n).pending = (s.can n).pending) ∧
        (exempt = false → 248 ≤ (s.can n).tec → (s.can n).conf ≠ 2 → (t.can n).conf = 2 ∧ (t.can n).pending = 0 ∧
          (t.can n).awaitSw = decide ((s.can n).service ≠ 1) ∧ t.raised (canEvent n 2) ∧
          ∀ b, bitAt (s.can n).pending b = true → bitAt (t.can n).failed b = true))) ∧
  (∀ (s : State) (n : Fin 4) (y : Nat × CanFrame) (lec : Nat) (exempt : Bool) (d : Nat), s.Shaped →
    (s.can n).sending = some y → y.1 = 16 → s.canMode n < 3 → s.power.resetAsked = some (0x1021, 1, n.val, 1) →
    Runs (.canTransmissionEnd n 0 lec exempt d) s fun t => t.power.mainReset = true ∧ t.power.resetAsked = none) ∧
  (∀ (s : State) (n : Fin 4) (out lec : Nat) (exempt : Bool) (d : Nat), (s.can n).sending = none → s.power.resetAsked = none →
    exec (.canTransmissionEnd n out lec exempt d) s = .next s) ∧
  (∀ (s : State) (n : Fin 4) (lec : Nat) (heavy : Bool), s.Shaped → s.power.resetAsked = none →
    (s.canHears n = true → Runs (.canReceiveError n lec heavy) s fun t => t.fns = s.fns ∧
      (∀ i, i ≠ n.val → t.can i = s.can i) ∧
      (lec = 7 → bitAt (s.canCfg n) 2 = true → t = s.onCan n fun c => { c with pex := true, integrating := true }) ∧
      (lec ≠ 7 ∨ bitAt (s.canCfg n) 2 = false → (t.can n).lec = (if lec = 7 then 2 else lec) ∧
        (s.canCounts n = true → (t.can n).rec_ = min ((s.can n).rec_ + if heavy then 8 else 1) 255) ∧
        (s.canCounts n = false → (t.can n).rec_ = (s.can n).rec_))) ∧
    (s.canHears n = false → exec (.canReceiveError n lec heavy) s = .next s)) ∧
  (∀ (s : State) (n : Fin 4), s.Shaped →
    let c := s.can n
    (c.conf = 2 → c.awaitSw = false → s.isRunning (.can n) = true → Runs (.busOffRecoveryComplete n) s fun t =>
      t = s.onCan n fun c => { c with tec := 0, rec_ := 0, conf := 0, service := if 3 ≤ s.canMode n then 3 else 2 }) ∧
    ((c.conf ≠ 2 ∨ c.awaitSw = true ∨ s.isRunning (.can n) = false) → exec (.busOffRecoveryComplete n) s = .next s) ∧
    (s.fnSt (.can n) = .starting → Runs (.busIntegrationDone n) s fun t => t.fn (.can n) = ⟨.running, (s.fn (.can n)).code⟩ ∧
      t.can n = { c with integrating := false } ∧ (∀ f : Fn, f.exists = true → f ≠ .can n → t.fn f = s.fn f)) ∧
    (s.isRunning (.can n) = true → Runs (.busIntegrationDone n) s fun t => t = s.onCan n fun c => { c with integrating := false }) ∧
    (s.isActive (.can n) = false → exec (.busIntegrationDone n) s = .next s)) ∧
  (∀ (s : State) (n : Fin 4) (h : Hdr) (x : Session), s.Shaped → h.src.port < 2 →
    (Granted s h (canIdx n 6) 0 (toLE 1 1) x → (s.can n).awaitSw = true ∧ Runs (.recoveryRequest n h) s fun t =>
      Answered (writeReq h (canIdx n 6) 0 (toLE 1 1)) x 0xA1 [] t ∧ t.can n = { s.can n with awaitSw := false } ∧
      (∀ i, i ≠ n.val → t.can i = s.can i) ∧ t.plant = s.plant) ∧
    (Admitted s (writeReq h (canIdx n 6) 0 (toLE 1 1)) x → 1 ≤ x.role → s.available (canIdx n 6) true = true →
      (s.can n).awaitSw = false → Runs (.recoveryRequest n h) s fun t => t.plant = s.plant ∧
        Answered (writeReq h (canIdx n 6) 0 (toLE 1 1)) x 0xFF (toLE 4 0x03000008) t))

/-! ### Host ports and the fabric -/

/-- A host link follows its pins and PCS and announces itself once; ARP, ND and echo are answered for own addresses within four frames in a millisecond (R675, R676, R677, R678, R680, R692, R693, R694, R681, R684).
Rests on choices of the model: assumption log 38. -/
def Obligations.HostLinksAndAnswers : Prop :=
  (
    ∀ (s : State) (n : Fin 2), s.Shaped →
      let p := s.port n
      let a4 := ip4 (s.ipCfg n)
      let same := fun t : State => { t.core with ports := s.ports } = s.core ∧ t.port (1 - n) = s.port (1 - n)
      let count := fun (t : State) (i : Nat) => t.port n = { p with counts := (t.port n).counts } ∧
        (∀ j, nth (t.port n).counts j 0 = if j = i then stick 32 (nth p.counts i 0 + 1) else nth p.counts j 0)
      let garp : HostTx := ⟨.gratuitousArp, 0xFFFFFFFF, 0, arpBody 1 (macOctets n) (toBE 4 a4) (zeros 6) (toBE 4 a4), s.vlanTag n⟩
      let una : HostTx := ⟨.unsolicitedAdvertisement, 0xFF02 * 2 ^ 112 + 1, 0, advertisement n 0x20000000 (linkLocal n), s.vlanTag n⟩
      (p.link = false → p.absent = false → p.los = false → Runs (.linkUp n) s fun t => same t ∧ t.raised (portEvent n 0) ∧
        (t.port n).link = true ∧ t.port n = { p with pcs := true, sent := if s.isRunning (.hostPort n) then (if a4 = 0 then [] else [garp]) ++ [una] else [] }) ∧
      (p.link = true ∨ p.absent = true ∨ p.los = true → exec (.linkUp n) s = .next s) ∧
      Runs (.linkDown n) s (fun t => same t ∧ t.port n = { p with pcs := false } ∧ (t.port n).link = false ∧
        (p.link = true → t.raised (portEvent n 1)) ∧ (p.link = false → t = s.onPort n fun p => { p with pcs := false })) ∧
      (∀ absent los : Bool, Runs (.modulePresenceChange n absent los) s fun t => same t ∧
        t.port n = { p with absent := absent, los := los, pcs := p.pcs && !absent && !los } ∧
        (p.link = true → (absent = true ∨ los = true) → (t.port n).link = false ∧ t.raised (portEvent n 1)) ∧
        (p.link = false ∨ (absent = false ∧ los = false) → t.way = s.way ∧ t.ledger = s.ledger)) ∧
      (s.isRunning (.hostPort n) = true → p.link = true → Runs (.hostFrameDiscarded n) s fun t => same t ∧ count t 1) ∧
      (s.isRunning (.hostPort n) = false ∨ p.link = false → exec (.hostFrameDiscarded n) s = .next s) ∧
      (∀ intact : Bool,
        (s.fnSt (.hostPort n) = .starting → s.cfg (portIdx n 7) 0 ≠ 0 → Runs (.loopbackTestFrame n intact) s fun t => same t ∧
          (t.port n).loopSent = p.loopSent + 1 ∧
          (t.port n).sent = [⟨.loopTest, 0, 0, (List.range 1518).map fun i => BitVec.ofNat 8 i, s.vlanTag n⟩] ∧
          nth (t.port n).counts 7 0 = if 0 < p.loopSent ∧ intact = false then stick 32 (nth p.counts 7 0 + 1) else nth p.counts 7 0) ∧
        (s.fnSt (.hostPort n) ≠ .starting ∨ s.cfg (portIdx n 7) 0 = 0 → exec (.loopbackTestFrame n intact) s = .next s))
  ) ∧ (
    ∀ (s : State) (n : Fin 2) (at_ : Nat), s.Shaped →
      let a := s.advanceTo at_
      let serves := s.isRunning (.hostPort n) = true ∧ (s.port n).link = true
      let room := (s.port n).ms ≠ a.msNow ∨ wordAt (s.port n).ingress 2 < 4
      let up := fun (t : State) (i : Nat) => nth (t.port n).counts i 0 = stick 32 (nth (s.port n).counts i 0 + 1)
      let taken := fun (t : State) (sent : List HostTx) => { t.core with ports := s.ports } = s.core ∧
        t.port (1 - n) = s.port (1 - n) ∧
        (room → up t 0 ∧ (t.port n).sent = sent ∧ wordAt (t.port n).ingress 2 = (if (s.port n).ms = a.msNow then wordAt (s.port n).ingress 2 else 0) + 1) ∧
        (¬ room → up t 2 ∧ (t.port n).sent = [])
      (∀ mac ip target : Octets, let c := Instr.arpRequest n mac ip target at_
        (serves → Runs c s fun t => taken t (if s.ownsAddr n false (beNat target) then
          [⟨.arpReply, beNat ip, 0, arpBody 2 (macOctets n) target mac ip, s.vlanTag n⟩] else [])) ∧
        (¬ serves → exec c s = .next (a.clearSent n))) ∧
      (∀ source target : Octets, let c := Instr.neighbourSolicitation n source target at_
        (serves → s.reaches n (beNat source) = true → Runs c s fun t => taken t (if s.ownsAddr n true (beNat target) then
          [⟨.advertisement, beNat source, 0, advertisement n 0x60000000 (beNat target), s.vlanTag n⟩] else [])) ∧
        (serves → room → s.ownsAddr n true (beNat target) = true → s.reaches n (beNat source) = false →
          Runs c s fun t => up t 0 ∧ up t 5 ∧ (t.port n).sent = []) ∧
        (¬ serves → exec c s = .next (a.clearSent n))) ∧
      (∀ (v6 : Bool) (source target body : Octets), let c := Instr.echoRequest n v6 source target body at_
        (serves → s.ownsAddr n v6 (beNat target) = true → s.reaches n (beNat source) = true → Runs c s fun t =>
          taken t [⟨.echoReply, beNat source, 0, body, s.vlanTag n⟩]) ∧
        (serves → room → s.ownsAddr n v6 (beNat target) = true → s.reaches n (beNat source) = false →
          Runs c s fun t => up t 0 ∧ up t 5 ∧ (t.port n).sent = []) ∧
        (serves → s.ownsAddr n v6 (beNat target) = false → Runs c s fun t => { t.core with ports := s.ports } = s.core ∧
          t.port (1 - n) = s.port (1 - n) ∧ up t 1 ∧ (t.port n).sent = [] ∧ (t.port n).ingress = (s.port n).ingress) ∧
        (¬ serves → exec c s = .next (a.clearSent n)))
  )

/-- A port runs a slave PTP instance only when the discipline mode names it: it selects a master, times Sync and delay exchanges and counts the rest (R279, R288, R677, R684, R686, R687).
Rests on choices of the model: assumption logs 37, 61. -/
def Obligations.PtpInstancesFollowTheirMaster : Prop :=
  ∀ (s : State) (n : Fin 2) (at_ : Nat), s.Shaped → s.isRunning (.hostPort n) = true → (s.port n).link = true →
    let a := s.advanceTo at_
    let p := (s.port n).ptp
    let mech := s.cfg (portIdx n 6) 2
    let same := fun t : State => { t.rest with ports := s.ports } = s.rest ∧ t.port (1 - n) = s.port (1 - n)
    let up := fun (t : State) (i : Nat) => nth (t.port n).counts i 0 = stick 32 (nth (s.port n).counts i 0 + 1)
    let room := (s.port n).ms ≠ a.msNow ∨ wordAt (s.port n).ingress 1 < 8
    (∀ m : PtpMsg, let c := Instr.ptpMessage n m at_
      let mine := s.ptpRuns n = true ∧ m.domain = s.cfg (portIdx n 6) 1 ∧ m.transport = s.cfg (portIdx n 6) 3
      let fromMaster := p.master = some m.src
      (¬ room → Runs c s fun t => same t ∧ up t 2 ∧ (t.port n).ptp = p ∧ t.time = a.time) ∧
      (room → ¬ mine → Runs c s fun t => same t ∧ up t 4 ∧ (t.port n).ptp = p ∧ t.time = a.time) ∧
      (room → mine → Runs c s fun t => same t ∧ up t 0 ∧
        (m.kind = 0x0B → t.time = { a.time with announced := true } ∧
          (t.port n).ptp.clocks.find? (·.ident == m.src) = some { ident := m.src, rank := m.rank, interval := logNs m.logInterval, prev := (p.clocks.find? (·.ident == m.src)).map (·.last), last := a.time.ringNs } ∧
          (t.port n).ptp.master = bestClock (t.port n).ptp.clocks a.time.ringNs ∧
          ((t.port n).ptp.master ≠ p.master → t.raised (portEvent n 4))) ∧
        (m.kind ≠ 0x0B → (t.port n).ptp.master = p.master ∧ (t.port n).ptp.clocks = p.clocks) ∧
        (m.kind = 0 → fromMaster → m.twoStep = true → t.time = a.time ∧
          (t.port n).ptp.sync = some (m.seq, a.stamp n false, m.corr, logNs m.logInterval)) ∧
        (m.kind = 0 → fromMaster → m.twoStep = false → let down := a.stamp n false - ptpTime m - m.corr
          (t.port n).ptp.down = some down ∧ (∀ d, p.delay = some d →
            t.time = (a.offsetSample (down - d) (logNs m.logInterval)).time) ∧ (p.delay = none → t.time = a.time)) ∧
        (m.kind = 8 → ∀ x, p.sync = some x → fromMaster → x.1 = m.seq → let down := x.2.1 - ptpTime m - x.2.2.1 - m.corr
          (t.port n).ptp.down = some down ∧ (t.port n).ptp.sync = none ∧ (∀ d, p.delay = some d →
            t.time = (a.offsetSample (down - d) x.2.2.2).time)) ∧
        (m.kind = 9 → mech = 1 → fromMaster → m.req = Config.portIdentity n → ∀ x d, p.request = some x → p.down = some d → x.1 = m.seq →
          (t.port n).ptp.delay = some (roundEven (d + (ptpTime m - x.2 - m.corr)) 2) ∧
          (t.port n).ptp.interval = logNs m.logInterval ∧ t.time = a.time) ∧
        (m.kind = 2 → (if mech = 2 then ∃ later : Nat, (t.port n).sent =
            [⟨.pdelayResp, m.src, 0, ptpBody 3 m.domain m.seq (a.stamp n false) m.src, s.vlanTag n⟩,
             ⟨.pdelayRespFollowUp, m.src, 0, ptpBody 0x0A m.domain m.seq (a.stamp n false + 65536 * (later : Int)) m.src, s.vlanTag n⟩]
          else (t.port n).sent = [])) ∧
        (m.kind = 3 → mech = 2 → m.twoStep = false → m.req = Config.portIdentity n → ∀ x, p.request = some x → x.1 = m.seq →
          (t.port n).ptp.delay = some (roundEven (a.stamp n false - x.2 - m.corr) 2) ∧ t.time = a.time) ∧
        (m.kind = 3 → mech = 2 → m.twoStep = true → m.req = Config.portIdentity n → ∀ x, p.request = some x → x.1 = m.seq →
          (t.port n).ptp = { p with response := some (ptpTime m, a.stamp n false, m.corr) } ∧ t.time = a.time) ∧
        (m.kind = 10 → mech = 2 → m.req = Config.portIdentity n → ∀ x r, p.request = some x → p.response = some r → x.1 = m.seq →
          (t.port n).ptp.delay = some (roundEven ((r.2.1 - x.2) - (ptpTime m - r.1) - r.2.2 - m.corr) 2) ∧ t.time = a.time))) ∧
    (
      let asks := fun (t : State) (kind : TxKind) (k : Nat) => { t.core with ports := s.ports } = s.core ∧ t.port (1 - n) = s.port (1 - n) ∧
        (t.port n).sent = [⟨kind, p.master.getD 0, 0, ptpBody k (s.cfg (portIdx n 6) 1) p.nextSeq 0 0, s.vlanTag n⟩] ∧
        (t.port n).ptp.request = some (p.nextSeq, a.stamp n true) ∧ (t.port n).ptp.nextSeq = (p.nextSeq + 1) % 65536
      (s.ptpRuns n = true → mech = 1 → p.master ≠ none → Runs (.delayReqTimer n at_) s fun t => asks t .delayReq 1) ∧
      (s.ptpRuns n = true → mech = 2 → Runs (.pdelayReqTimer n at_) s fun t => asks t .pdelayReq 2) ∧
      (s.ptpRuns n = false ∨ mech ≠ 1 ∨ p.master = none → exec (.delayReqTimer n at_) s = .next a) ∧
      (s.ptpRuns n = false ∨ mech ≠ 2 → exec (.pdelayReqTimer n at_) s = .next a))

/-- A bank phase serves one requester with its access; locks are granted, waited for, held back and given up; the longest hold is cut off (R698, R699, R704, R705, R706, R707, R716, R717, R718, R719, R720, R726).
Rests on choices of the model: assumption logs 44, 46. -/
def Obligations.FabricAccessesAndLocksAreArbitrated : Prop :=
  (∀ (s : State) (bank : Fin 48) (portB : Bool) (c moved : Nat) (x : FabricReq), x.req ≤ 4 → s.fab.seqs = [] → s.fab.waits = [] →
    s.contends bank portB x = true → 0 < s.tickets x.req → (∀ m ∈ s.fab.moves, m.cycle ≤ c) → Memory.wordsWf s.fab.mem = true → (∀ b ∈ s.fab.banks, b.lfsr < 2 ^ 32) →
    let base := x.offset / 8 * 8
    let only := fun t : State => { t.core with fab := s.fab } = s.core ∧ t.fab.seqs = [] ∧ t.fab.cycle = max c s.fab.cycle
    Runs (.bazaarAccess bank portB c moved [x]) s fun t =>
      (x.write = false → t.fab.lastRead = (List.range x.words.length).map (fun i => if x.op = 3 then 0 else s.bazRead (base / 8 + i)) ∧
        (x.ecc ≠ 2 ∨ x.req < 4 → only t ∧ t.fab.mem = s.fab.mem ∧ (x.ecc = 1 → t.raised 354) ∧ (x.ecc = 2 → t.raised 355)) ∧
        (x.ecc = 2 → x.req = 4 → s.isActive .waystation = true → t.fn .waystation = ⟨.fault, 0x0101⟩)) ∧
      (x.write = true → only t ∧
        (base + 64 ≤ 0xC00000 → x.op ≤ 2 → (∀ i, i < x.words.length → regionWriter (base + 8 * i) x.req = true) →
          (∀ i w, x.words[i]? = some w → wordAt t.fab.mem (base / 8 + i) = wordAfter x.op (wordAt s.fab.mem (base / 8 + i)) w.1 w.2) ∧
          ∀ a, (a < base / 8 ∨ base / 8 + x.words.length ≤ a) → wordAt t.fab.mem a = wordAt s.fab.mem a) ∧
        ((∀ i, i < x.words.length → regionWriter (base + 8 * i) x.req = false) → t.fab.mem = s.fab.mem ∧ t.raised 352 ∧ bitAt t.fab.sticky 1 = true))) ∧
  (∀ (s : State) (bank : Fin 48) (c off : Nat) (r r' ma da mb db : Nat), r ≤ 4 → 8 ≤ r' → r' ≤ 16 → s.fab.seqs = [] → s.fab.waits = [] →
    0 < s.tickets r → 0 < s.tickets r' → (∀ m ∈ s.fab.moves, m.cycle ≤ c) → off % 8 = 0 → off / 0x40000 = bank →
    let w := off / 8
    let a := Instr.bazaarAccess bank false c 1 [⟨r, true, 0, off, [(ma, da)], 0⟩]
    let b := Instr.bazaarAccess bank true c 1 [⟨r', true, 0, off, [(mb, db)], 0⟩]
    let ra := Instr.bazaarAccess bank false c 1 [⟨r, false, 0, off, [(0, 0)], 0⟩]
    let rb := Instr.bazaarAccess bank true c 1 [⟨r', false, 0, off, [(0, 0)], 0⟩]
    let both := wordAfter 0 (wordAfter 0 (wordAt s.fab.mem w) ma da) mb db
    let reads := fun (x y : Instr) (v : Nat) => Runs x s (fun t => Runs y t fun u => u.fab.lastRead = [v]) ∧
      Runs y s (fun t => Runs x t fun u => u.fab.lastRead = [v])
    (regionWriter off r = true → regionWriter off r' = true →
      Runs a s (fun t => Runs b t fun u => wordAt u.fab.mem w = both) ∧ Runs b s (fun t => Runs a t fun u => wordAt u.fab.mem w = both)) ∧
    (regionWriter off r = true → reads a rb (wordAfter 0 (wordAt s.fab.mem w) ma da)) ∧
    (regionWriter off r' = true → reads b ra (wordAfter 0 (wordAt s.fab.mem w) mb db))) ∧
  (∀ (s : State) (bank : Fin 48) (portB : Bool) (c moved : Nat) (l : List FabricReq), (∀ x ∈ l, s.contends bank portB x = false) →
    Runs (.bazaarAccess bank portB c moved l) s fun t => { t with fab := s.fab } = s ∧ t.fab.mem = s.fab.mem) ∧
  (∀ (s : State) (r : Fin 17) (line c : Nat), 10 ≤ r.val → line < 0x30000 →
    let mine := match s.fab.seqOf r with | some q => q.lines | none => []
    mine.contains line = false → Runs (.lockRequest r line c) s fun t => { t.core with fab := s.fab } = s.core ∧ t.fab.mem = s.fab.mem ∧
      (4 ≤ mine.length → t.raised 357 ∧ ∀ q ∈ t.fab.seqs, ∃ q' ∈ s.fab.seqs, q.holder = q'.holder ∧ q.lines = q'.lines) ∧
      (mine.length < 4 → s.fab.lockedBy line r = true → t.fab.waits = s.fab.waits ++ [⟨r, line, true⟩]) ∧
      (mine.length < 4 → s.fab.lockedBy line r = false →
        (∃ q, t.fab.seqOf r = some q ∧ q.lines = mine ++ [line]) ∧ t.fab.waits = s.fab.waits)) ∧
  (∀ (s : State) (r : Fin 17) (q : LockSeq) (bank : Fin 48) (c moved off mask data : Nat), 10 ≤ r.val → s.fab.seqs = [q] → q.holder = r.val →
    s.fab.waits = [] → q.lines.contains (lineOf off) = true → regionWriter off r = true → off % 8 = 0 → off / 0x40000 = bank →
    0 < s.tickets r → off < 0xC00000 →
    Runs (.bazaarAccess bank true c moved [⟨r, true, 0, off, [(mask, data)], 0⟩]) s fun t => { t with fab := s.fab } = s ∧
      t.fab.mem = s.fab.mem ∧ (1 ≤ moved → t.fab.heldWord r (off / 8) =
        some (wordAfter 0 ((s.fab.heldWord r (off / 8)).getD (wordAt s.fab.mem (off / 8))) mask data))) ∧
  (∀ (s : State) (r : Fin 17) (q : LockSeq) (c : Nat), 10 ≤ r.val → s.fab.seqOf r = some q →
    (∀ e ∈ q.held ++ s.fab.mem, e.2 < 2 ^ 64) → Runs (.unlock r c) s fun t => { t with fab := s.fab } = s ∧
    t.fab.seqOf r = none ∧ t.fab.mem = q.held.foldl (fun m x => wordPut m x.1 x.2) s.fab.mem) ∧
  (∀ (s : State) (r : Fin 17) (c : Nat), s.fab.seqOf r = none → Runs (.unlock r c) s fun t => t = s.fabTo c) ∧
  (∀ (s : State) (r : Fin 17) (line c : Nat), s.fab.waits = [⟨r, line, true⟩] → s.fab.seqs = [] → 10 ≤ r.val → 0 < s.tickets r →
    line < 0x30000 →
    Runs (.lockGrant line c) s fun t => { t with fab := s.fab } = s ∧ t.fab.waits = [] ∧ t.fab.seqs = [⟨r, [line], [], 0⟩] ∧
      t.fab.mem = s.fab.mem) ∧
  (∀ (s : State) (q : LockSeq) (w : LineWait) (c : Nat), q.holder ≤ 16 → s.fab.seqs = [q] → s.fab.waits = [w] → w.req ≠ q.holder →
    q.lines.contains w.line = true →
    (s.holdLimit ≤ q.timer + (c - s.fab.cycle) → Runs (.holdCutOff c) s fun t => { t.core with fab := s.fab } = s.core ∧
      t.fab.seqs = [] ∧ t.fab.mem = s.fab.mem ∧ t.fab.cuts = stick 16 (s.fab.cuts + 1) ∧ t.fab.lastCut = q.holder ∧
      bitAt t.fab.sticky 0 = true ∧ t.raised 353) ∧
    (q.timer + (c - s.fab.cycle) < s.holdLimit → q.timer ≤ s.holdLimit → exec (.holdCutOff c) s = .next (s.fabTo c))) ∧
  (∀ (s : State) (v : Nat) (h : Hdr) (x : Session), Granted s h 0x2E05 0 (toLE 1 v) x → v < 2 ^ 8 → Runs (.fabricStatusClear v h) s fun t =>
    Answered (writeReq h 0x2E05 0 (toLE 1 v)) x 0xA1 [] t ∧ { t.plant with fab := s.plant.fab } = s.plant ∧
    t.plant.fab.mem = s.plant.fab.mem ∧ t.fab.seqs = s.fab.seqs ∧
    ∀ b, bitAt t.fab.sticky b = (bitAt s.fab.sticky b &&
      (!bitAt v b || (decide (s.fab.recentCycle = (s.arrived h).fabricNow) && bitAt s.fab.recentSticky b))))

/-! ### Management, security, boot, pairing, test access -/

/-- A Ledger record is written at the next number with its chain tag; an image is programmed into the slot not running; the three firmware commands (R736, R738, R740, R741, R742, R745, R746, R747, R748, R752).
Rests on choices of the model: assumption logs 3, 17. -/
def Obligations.LedgerAndFirmwareImages : Prop :=
  (∀ (s : State) (e : LedgerEntry) (r : List LedgerEntry), s.ledger.queue = e :: r → s.power.mgmtUp = true → s.power.mramOk = true →
    Runs .ledgerRecordWrite s fun t =>
      let l := s.ledger
      let o := ledgerOctets l.chain l.next e
      t.core = s.core ∧ t.ledger.next = l.next + 1 ∧ t.ledger.chain = o.drop 56 ∧ t.ledger.cursor = l.cursor ∧ (l.next, o) ∈ t.ledger.records ∧
      (∀ x ∈ l.records, l.next < x.1 + 131072 → x ∈ t.ledger.records) ∧ (∀ x ∈ t.ledger.records, x ∈ l.records ∨ x = (l.next, o)) ∧
      (0 < l.lost → t.raised 388) ∧ (l.next + 1 - l.cursor = 114688 → t.raised 389) ∧
      (l.lost = 0 → l.next + 1 - l.cursor ≠ 114688 → t = { s with ledger := { l with queue := r, next := l.next + 1, chain := o.drop 56, records := t.ledger.records } })) ∧
  (∀ s : State, s.ledger.queue = [] ∨ s.power.mgmtUp = false ∨ s.power.mramOk = false → exec .ledgerRecordWrite s = .next s) ∧
  (∀ (s : State) (id : Nat) (x : Session) (tr : Transfer) (c : Card), s.checkingIn id = some (x, tr, c) → tr.left = false → tr.idx = 0x1040 →
    s.contentRefused x tr.idx tr.sub c tr.content = none → Runs (.domainContentCheckDone id) s fun t => Finished x tr 0xB3 [] t ∧
      t.fns = s.fns ∧ t.fw = { s.fw with update := 2, programming := some tr.content } ∧ t.raised 390) ∧
  (∀ (s : State) (o : Octets) (ok : Bool), s.fw.programming = some o → o.length ≤ 786432 → s.fw.slots.length = 2 →
    Runs (.flashProgrammingDone ok) s fun t =>
      let i := s.fw.other
      { t.core with fw := s.fw } = s.core ∧ t.fw.programming = none ∧ t.fw.running = s.fw.running ∧ t.fw.slot (1 - i) = s.fw.slot (1 - i) ∧
      (∀ a, (a < slotBase i ∨ slotBase i + 786432 ≤ a) → flashOctet t.fw.flash a = flashOctet s.fw.flash a) ∧
      (∀ j, j < 786432 → flashOctet t.fw.flash (slotBase i + j) = if ok then o.getD j 0xFF#8 else 0xFF#8) ∧
      (if ok = true ∧ s.imageVerifies o = true then t.fw.slot i = ⟨1, 0, u32At o 4⟩ ∧ t.fw.update = 3 ∧ t.raised 391
       else t.fw.slots = s.fw.slots ∧ t.fw.update = 4 ∧ t.raised 392)) ∧
  (∀ (s : State) (ok : Bool), s.fw.programming = none → exec (.flashProgrammingDone ok) s = .next s) ∧
  (∀ (s : State) (h : Hdr) (x : Session) (i : Nat), s.fw.running = some i → i < 2 → s.fw.slots.length = 2 →
    let o := 1 - i
    let cmd := fun k => writeReq h 0x1043 0 (toLE 1 k)
    let ok := fun (t : State) (k : Nat) => Answered (cmd k) x 0xA1 [] t ∧ { t.plant with fw := s.fw } = s.plant ∧ t.fw.flash = s.fw.flash ∧ t.fw.running = s.fw.running
    (Granted s h 0x1043 0 (toLE 1 1) x → (s.fw.slot i).st = 3 ∧ Runs (.activate h) s fun t => ok t 1 ∧
      t.fw.slot o = { s.fw.slot o with st := 2, trials := 0 } ∧ t.fw.slot i = s.fw.slot i ∧ t.fw.floor = s.fw.floor) ∧
    (Granted s h 0x1043 0 (toLE 1 2) x → (s.fw.slot i).st = 2 ∧ Runs (.confirm h) s fun t => ok t 2 ∧ t.raised 394 ∧
      t.fw.slot i = { s.fw.slot i with st := 3 } ∧
      t.fw.slot o = (if (s.fw.slot o).st = 3 then { s.fw.slot o with st := 4 } else s.fw.slot o) ∧
      t.fw.floor = (if s.sec.lifeCycle = 2 then max s.fw.floor s.fw.version else s.fw.floor)) ∧
    (Granted s h 0x1043 0 (toLE 1 3) x → (s.fw.slot i).st = 2 ∧ Runs (.reject h) s fun t => ok t 3 ∧
      t.fw.slot i = { s.fw.slot i with st := 5 } ∧ t.fw.slot o = s.fw.slot o ∧ t.fw.floor = s.fw.floor) ∧
    (∀ k c, (k, c) ∈ [(1, Instr.activate h), (2, .confirm h), (3, .reject h)] → Admitted s (cmd k) x →
      s.available 0x1043 true = true →
      (2 ≤ x.role → s.fwCommandAllowed k = false → Runs c s fun t => t.plant = s.plant ∧ Answered (cmd k) x 0xFF (toLE 4 0x03000008) t) ∧
      (x.role < 2 → Runs c s fun t => t.plant = s.plant ∧ Answered (cmd k) x 0xFF (toLE 4 0x02000008) t)))

/-- A tamper sensor wipes the vault and closes every session; a signature completes once; an accepted life-cycle transition wipes, keys, records and resets (R56, R589, R738, R752, R760, R761, R762, R763, R764, R765, R770, R771).
Rests on choices of the model: assumption logs 1, 3, 63. -/
def Obligations.TamperAttestationAndLifeCycle : Prop :=
  (∀ (s : State) (k : Fin 5), s.power.pwrEn = true → s.power.compReset = false → Runs (.tamper k) s fun t =>
    t.sec.keys = List.replicate 8 none ∧ t.dict.sessions = [] ∧
    (s.power.mramOk = true → t.sec.stored = List.replicate 8 none ∧ t.sec.epoch.length = 32 ∧ t.sec.tampered = true) ∧
    (s.power.mramOk = false → t.sec.stored = s.sec.stored ∧ t.sec.epoch = s.sec.epoch ∧ t.sec.tampered = s.sec.tampered) ∧
    t.sec = { s.sec with keys := t.sec.keys, stored := t.sec.stored, epoch := t.sec.epoch, vaultReadable := false, tampered := t.sec.tampered, sensors := setBits s.sec.sensors (1 <<< k.val) } ∧
    t.raised 397 ∧ { t.rest with sec := s.sec, dict := s.dict, saf := s.saf, fw := s.fw } = s.rest ∧
    { t.dict with sessions := s.dict.sessions } = s.dict ∧ { t.saf with set := s.saf.set } = s.saf ∧
    t.saf.set.force = s.saf.set.force ∧ t.saf.set.copyA = s.saf.set.copyA ∧ t.saf.set.copyB = s.saf.set.copyB ∧
    (∀ id st, t.saf.set.pending = some (id, st) → ∀ x ∈ s.dict.sessions, x.id ≠ id) ∧ { t.fw with update := s.fw.update } = s.fw) ∧
  (∀ (s : State) (k : Fin 5), s.power.pwrEn = false ∨ s.power.compReset = true → exec (.tamper k) s = .next s) ∧
  (∀ s : State, s.sec.attStatus = 1 → Runs .signatureComplete s fun t => { t.core with sec := s.sec } = s.core ∧ t.raised 398 ∧
    let h := s.statementHead (s.saf.set.force.getD 0)
    t.sec = { s.sec with attStatus := 2, statement := h ++ padTo 9893 (Config.xmssSign (s.sec.attIndex - 1) h) } ∧
    u8At t.sec.statement 1 = s.sec.lifeCycle % 256 ∧ u64At t.sec.statement 24 = s.ledger.next % 2 ^ 64 ∧
    slice t.sec.statement 52 32 = padTo 32 s.sec.challenge) ∧
  (∀ s : State, s.sec.attStatus ≠ 1 → exec .signatureComplete s = .next s) ∧
  (∀ (s : State) (dst : Nat) (key : Octets), s.sec.transition = some (dst, key) → s.inReset = false → s.power.mramOk = true →
    let pends := if s.power.cm2Short = [] then 0 else 0x020
    Runs .lifeCycleTransition s fun t =>
      let src := s.sec.lifeCycle
      let wipe := dst = 4 ∨ (src = 3 ∧ dst = 1)
      let chain := if dst = 4 then zeros 8 else s.ledger.chain
      let o := ledgerOctets chain s.ledger.next ⟨s.time.sec, s.time.ns, s.plan.cycle, 0x0070, 0, padTo 24 (toLE 1 src ++ toLE 1 dst)⟩
      t.sec.lifeCycle = dst ∧ t.sec.stored = some (entryKey dst key) :: List.replicate 7 none ∧ t.sec.keys = List.replicate 8 none ∧
      t.sec.tampered = false ∧ t.sec.sensors = 0 ∧ t.sec.changed = true ∧ t.sec.transition = none ∧
      t.power.mainReset = true ∧ t.power.cause = setBits 0x080 pends ∧ t.power.mode = 0 ∧ t.dict.sessions = [] ∧ (∀ f : Fn, t.fn f = ⟨.stopped, 0⟩) ∧
      t.allOff ∧ t.fw.floor = (if dst = 2 then max s.fw.floor s.fw.version else s.fw.floor) ∧ t.fw.slots = s.fw.slots ∧ t.fw.flash = s.fw.flash ∧
      (s.ledger.next, o) ∈ t.ledger.records ∧ t.ledger.next = s.ledger.next + 1 ∧
      (dst = 4 → t.ledger.records = [(s.ledger.next, o)] ∧ t.sec.secretDestroyed = true) ∧
      (dst ≠ 4 → (∀ x ∈ s.ledger.records, s.ledger.next < x.1 + 131072 → x ∈ t.ledger.records) ∧
        t.sec.secretDestroyed = s.sec.secretDestroyed) ∧
      (wipe → t.dict.copyA.valid = false ∧ t.dict.copyB.valid = false ∧ t.saf.set.copyA = none ∧ t.saf.set.copyB = none) ∧
      (¬ wipe → t.saf.set.copyA = s.saf.set.copyA ∧ t.saf.set.copyB = s.saf.set.copyB ∧
        (s.dict.storing = none → t.dict.copyA = s.dict.copyA ∧ t.dict.copyB = s.dict.copyB))) ∧
  (∀ (s : State) (dst : Nat) (key : Octets), s.sec.transition = some (dst, key) → s.inReset = false → s.power.mramOk = false →
    Runs .lifeCycleTransition s fun t => MainCleared s t ∧ bitAt t.power.cause 7 = true ∧ t.sec.lifeCycle = s.sec.lifeCycle ∧
      t.sec.tampered = s.sec.tampered ∧ t.sec.secretDestroyed = s.sec.secretDestroyed ∧ t.sec.transition = none) ∧
  (∀ s : State, s.sec.transition = none → exec .lifeCycleTransition s = .next s)

/-- The boot ROM takes a trial, the CONFIRMED or the PREVIOUS slot, or holds; the firmware then starts its functions one by one (R92, R141, R749, R751, R762, R770, R800, R801, R802).
Rests on choices of the model: assumption logs 3, 16, 17. -/
def Obligations.BootTakesASlotAndStartsItsFunctions : Prop :=
  (∀ s : State, s.serves = true → s.fw.running = none → s.fw.hold = false → s.fw.progWritten = [] → s.fw.slots.length = 2 → Memory.wf s = true →
    let st := fun i => (s.fw.slot i).st
    let good := fun i => s.imageVerifies (s.slotImage i) = true
    let trial := fun i => st i = 2 ∧ (s.fw.slot i).trials = 0
    let boots := fun (t : State) (i : Nat) => t.fw.running = some i ∧ t.fw.hold = false ∧ t.fw.version = (s.fw.slot i).version ∧
      t.fns = s.fns ∧ t.fw.flash = s.fw.flash ∧ t.sec = { s.sec with keys := t.sec.keys, changed := false } ∧
      (s.sec.vaultReadable = true → t.sec.keys = s.sec.unwrapped ∧ (s.sec.secretDestroyed = false → t.sec.keys = s.sec.stored)) ∧ t.dict.parametersLoaded = true ∧ t.power = { s.power with thermal := false } ∧
      (s.sec.changed = true → t.raised 396) ∧ (s.power.thermal = true → t.raised 401) ∧
      (∀ idx sub, t.obj idx sub = dfltOctets idx sub ∨ storeGet (s.dict.bootImage.getD []) (idx, sub) = some (t.obj idx sub) ∨
        (0x2E20 ≤ idx ∧ idx ≤ 0x2E2F) ∨ safeObjects.contains idx = true) ∧ t.fw.autoStart = t.autoList
    (∀ i, i < 2 → trial i → good i → (∀ j, j < i → ¬ trial j) → Runs .bootRomVerify s fun t => boots t i ∧
      t.fw.slot i = { s.fw.slot i with trials := 1 } ∧ t.fw.slot (1 - i) = s.fw.slot (1 - i)) ∧
    (∀ i, i < 2 → st i = 3 → good i → (∀ j, j < 2 → st j ≠ 2 ∧ (j < i → st j ≠ 3)) → Runs .bootRomVerify s fun t => boots t i ∧
      t.fw.slots = s.fw.slots) ∧
    (∀ i, i < 2 → st i = 2 → (s.fw.slot i).trials ≠ 0 → st (1 - i) = 3 → good (1 - i) → Runs .bootRomVerify s fun t => boots t (1 - i) ∧
      t.fw.slot i = { s.fw.slot i with st := 5 } ∧ t.fw.slot (1 - i) = s.fw.slot (1 - i) ∧ t.raised 393) ∧
    (∀ i, i < 2 → st i = 4 → good i → (∀ j, j < 2 → st j ≠ 2 ∧ st j ≠ 3 ∧ (j < i → st j ≠ 4)) → Runs .bootRomVerify s fun t => boots t i ∧
      t.fw.slot i = { s.fw.slot i with st := 3 } ∧ t.fw.slot (1 - i) = s.fw.slot (1 - i)) ∧
    (∀ i, i < 2 → st i = 3 → ¬ good i → st (1 - i) = 4 → good (1 - i) → Runs .bootRomVerify s fun t => boots t (1 - i) ∧
      t.fw.slot i = ⟨0, 0, 0⟩ ∧ t.fw.slot (1 - i) = { s.fw.slot (1 - i) with st := 3 }) ∧
    ((∀ i, i < 2 → (st i = 2 ∧ (s.fw.slot i).trials ≠ 0) ∨ st i ∉ [2, 3, 4] ∨ ¬ good i) → Runs .bootRomVerify s fun t => t.fw.hold = true ∧ t.fw.running = none ∧
      t.alertLow = true ∧ { t.core with fw := s.fw } = s.core ∧ t.fw.flash = s.fw.flash ∧
      ∀ i, i < 2 → st i = 2 → (s.fw.slot i).trials = 0 → t.fw.slot i = ⟨0, 0, 0⟩)) ∧
  (∀ s : State, s.power.mgmtUp = false ∨ s.power.testMode = true ∨ s.fw.running ≠ none ∨ s.fw.hold = true → exec .bootRomVerify s = .next s) ∧
  (∀ (s : State) (f : Fn) (r : List Fn), s.fw.autoStart = f :: r → s.Shaped → (f = .timeBase ∨ ∃ n, n < 2 ∧ f = .hostPort n) →
    let went := { s.fw with autoStart := r, autoLast := some f }
    ((∀ g, s.fw.autoLast = some g → s.fnSt g ≠ .starting ∨ s.staysStarting g = true) →
      (s.startRefused f = none → Runs .autoStart s fun t => t.fn f = ⟨.starting, 0⟩ ∧ t.fw = went ∧
        ∀ g, g.exists = true → g ≠ f → t.fn g = s.fn g) ∧
      (s.startRefused f ≠ none → exec .autoStart s = .next { s with fw := went })) ∧
    (∀ g, s.fw.autoLast = some g → s.fnSt g = .starting → s.staysStarting g = false → exec .autoStart s = .next s)) ∧
  (∀ (s : State) (n : Fin 4) (r : List Fn), s.fw.autoStart = .can n :: r → s.Shaped → s.startRefused (.can n) = none →
    (∀ g, s.fw.autoLast = some g → s.fnSt g ≠ .starting ∨ s.staysStarting g = true) → Runs .autoStart s fun t =>
      t.fw = { s.fw with autoStart := r, autoLast := some (.can n) } ∧
      (t.fn (.can n) = ⟨.starting, 0⟩ ∨ (t.fn (.can n) = ⟨.running, 0⟩ ∧ s.canMode n = 3) ∨ (t.fnSt (.can n) = .fault ∧ (t.fn (.can n)).code = 0x0101)) ∧
      ∀ g, g.exists = true → g ≠ .can n → t.fn g = s.fn g) ∧
  (∀ s : State, s.fw.autoStart = [] → exec .autoStart s = .next s)

/-- ACTV_I, the claim delay, acting, release, ARMED, switchover test and interlock fault change the pairing state and the outputs as chapter 19 says (R777, R778, R779, R782, R783, R787, R789, R792, R793, R794, R796, R798).
Rests on choices of the model: assumption logs 6, 73. -/
def Obligations.PairedUnitsHandTheRingsOver : Prop :=
  (∀ (s : State) (level : Bool), Runs (.actvIChange level) s fun t =>
    let p := s.pair
    let fell := p.actvI = true ∧ level = false
    { t.core with pair := s.pair } = s.core ∧ t.pair.actvI = level ∧ t.pair.acting = p.acting ∧ t.pair.testRunning = p.testRunning ∧
    t.pair.releasePending = (p.releasePending || (p.acting && p.pairSel && level && !p.actvI)) ∧
    t.pair.actvO = (p.actvO && (p.acting || !p.pairSel || !level)) ∧
    (fell → s.isRunning .pairing = true → p.acting = false → t.raised 421) ∧
    (let fails := fell ∧ p.testRunning = true ∧ p.acting = false ∧ p.testFailed = false
     t.pair.testResult = (if fails then 3 else p.testResult) ∧ t.pair.testFailed = (if fails then true else p.testFailed) ∧
     (fails → t.raised 423)) ∧
    t.pair.armed = (if p.acting then p.armed else if p.armed then s.armConditions || (!p.pairSel && p.actvO)
      else s.armConditions && level) ∧
    (p.armed = false → t.pair.armed = true → t.raised 418) ∧ (p.armed = true → t.pair.armed = false → t.raised 419)) ∧
  (∀ s : State,
    let p := s.pair
    let claims := p.actvI = false ∧ p.actvO = false ∧ s.power.mainReset = false ∧
      (p.armed = true ∨ p.testRunning = true ∨ (p.pairSel = false ∧ s.isRunning .pairing = false))
    (claims → exec .claimDelayExpiry s = .next { s with pair := { p with actvO := true } }) ∧
    (¬ claims → exec .claimDelayExpiry s = .next s) ∧
    (p.actvO = true ∧ p.actvI = false ∧ p.acting = false → Runs .actingBegin s fun t =>
      t.pair = { p with acting := true, armed := false, takeoverDue := true, testRunning := false, testResult := if p.testRunning = true ∧ p.testFailed = false then 2 else p.testResult } ∧
      { t.core with pair := s.pair, rings := s.rings, saf := s.saf } = s.core ∧ t.raised 416 ∧ (p.testRunning = true → p.testFailed = false → t.raised 423) ∧
      (∀ n, n < s.rings.length → t.ring n = { s.ring n with tracking := { (s.ring n).tracking with on := false }, takeover := (s.ring n).tracking.on && s.isRunning (.ring n), caravan := none }) ∧
      t.saf.soA = BitVec.ofNat 8 (maskOf ((List.range 8).filter fun n => s.pairWanted false n)) ∧
      t.saf.soB = BitVec.ofNat 8 (maskOf ((List.range 8).filter fun n => s.pairWanted true n))) ∧
    (¬ (p.actvO = true ∧ p.actvI = false ∧ p.acting = false) → exec .actingBegin s = .next s) ∧
    (p.acting = true ∧ p.releasePending = true → Runs .actingRelease s fun t => t.allOff ∧ t.raised 417 ∧
      t.pair = { p with acting := false, actvO := false, releasePending := false, takeoverDue := false, takeover := none, testPending := false, testRunning := p.testPending || p.testRunning, testFailed := !p.testPending && p.testFailed } ∧
      { t.core with pair := s.pair, rings := s.rings, saf := s.saf } = s.core ∧
      ∀ n, n < s.rings.length → (t.ring n).tracking = { (s.ring n).tracking with on := true } ∧ (t.ring n).caravan = none ∧ (t.ring n).takeover = false) ∧
    (¬ (p.acting = true ∧ p.releasePending = true) → exec .actingRelease s = .next s) ∧
    (p.armed = true ∧ p.actvI = false ∧ p.acting = false → Runs .armedTimeout s fun t => t.core = ({ s with pair := { p with armed := false } }).core ∧ t.raised 419) ∧
    (¬ (p.armed = true ∧ p.actvI = false ∧ p.acting = false) → exec .armedTimeout s = .next s) ∧
    (p.testRunning = true → p.acting = false →
      let good := p.actvI = true ∧ p.testFailed = false ∧ (∀ n ∈ s.namedRings, s.isRunning (.ring n) = true) ∧ s.fnSt .safety ≠ .fault
      Runs .testWindowEnd s fun t => { t.core with pair := s.pair } = s.core ∧ t.pair = { p with testRunning := false, testResult := t.pair.testResult } ∧
        (good → t.pair.testResult = 1 ∧ t.raised 422) ∧ (¬ good → p.actvI = true → p.testFailed = false → t.pair.testResult = 3 ∧ t.raised 423) ∧
        (p.actvI = false ∨ p.testFailed = true → t.pair.testResult = p.testResult)) ∧
    (p.testRunning = false ∨ p.acting = true → exec .testWindowEnd s = .next s) ∧
    (let due := p.pairSel = false ∧ p.armed = true ∧ bitAt (s.cfg 0x1C01 0) 4 = true ∧ p.actvI = true
     (due → exec .returnHoldExpiry s = .next { s with pair := { p with actvO := true } }) ∧ (¬ due → exec .returnHoldExpiry s = .next s)) ∧
    (s.Shaped → s.isRunning .pairing = true → p.actvO = true → p.actvI = true → Runs .interlockFault s fun t => t.raised 424 ∧
      t.fn .pairing = ⟨.fault, 0x0102⟩ ∧ (∀ g, g.exists = true → g ≠ .pairing → t.fn g = s.fn g) ∧ { t.core with fns := s.fns } = s.core) ∧
    (s.isRunning .pairing = false ∨ p.actvO = false ∨ p.actvI = false → exec .interlockFault s = .next s)) ∧
  (∀ (s : State) (h : Hdr) (x : Session), s.Shaped →
    let req := fun idx => writeReq h idx 0 (toLE 1 1)
    (Granted s h 0x1C03 0 (toLE 1 1) x → s.pair.acting = true ∧ Runs (.measureRequest h) s fun t => Answered (req 0x1C03) x 0xA1 [] t ∧
      { t.plant with rings := s.rings } = s.plant ∧
      ∀ n, n < 4 → let c := (s.ring n).cycle.getD 0
        (t.ring n).measureAt = (s.ring n).measureAt ++ if n ∈ s.namedRings then [c + 2, c + 4] else []) ∧
    (Granted s h 0x1C04 0 (toLE 1 1) x → (s.pair.acting = true ∧ s.isRunning .pairing = true ∧ s.pair.actvI = false) ∧
      Runs (.switchoverTestRequest h) s fun t => Answered (req 0x1C04) x 0xA1 [] t ∧ { t.plant with pair := s.pair } = s.plant ∧
        t.pair = { s.pair with releasePending := true, testPending := true }) ∧
    (Admitted s (req 0x1C03) x → 1 ≤ x.role → s.available 0x1C03 true = true → s.pair.acting = false → Runs (.measureRequest h) s fun t =>
      t.plant = s.plant ∧ Answered (req 0x1C03) x 0xFF (toLE 4 0x03000008) t) ∧
    (Admitted s (req 0x1C04) x → 1 ≤ x.role → s.available 0x1C04 true = true → (s.pair.acting = false ∨ s.isRunning .pairing = false ∨ s.pair.actvI = true) →
      Runs (.switchoverTestRequest h) s fun t => t.plant = s.plant ∧ Answered (req 0x1C04) x 0xFF (toLE 4 0x03000008) t))

/-- Test instructions select their registers or act as BYPASS; FLASH_PROG sets, reads, writes and erases the flash while the boot ROM holds (R804, R805, R806, R807, R808, R809).
Rests on choices of the model: assumption logs 33, 73. -/
def Obligations.TestAccessAndFlashProgramming : Prop :=
  (∀ (s : State) (v : Nat),
    let out := fun (c : Instr) (tap : Tap) => exec c s = .next { s with tap := tap }
    let t := s.tap
    let grants := s.fw.hold = true ∨ ((∀ n, n < 4 → s.isStopped (.ring n) = true ∧ s.isStopped (.can n) = true) ∧
      (∀ n, n < 2 → s.isStopped (.hostPort n) = true) ∧ (∀ g, g < 8 → s.isStopped (.pwm g) = true) ∧
      (∀ k, k < 16 → s.isStopped (.axis k) = true) ∧ s.isStopped .safety = true)
    let asBypass := { t with ir := 0xFF, granted := false, bypass := false }
    out .tapReset { t with ir := 1, granted := true } ∧ out .idcode { t with ir := 1, granted := true } ∧
    out .bypass { t with ir := 0xFF, granted := true, bypass := false } ∧
    out (.samplePreload v) { t with ir := 2, granted := true, boundary := BitVec.ofNat 1048 v } ∧
    (∀ c op, (c, op) ∈ [(Instr.extest v, 0), (.extestPulse v, 6), (.extestTrain v, 7)] →
      (grants → out c { t with ir := op, granted := true, boundary := BitVec.ofNat 1048 v }) ∧ (¬ grants → out c asBypass)) ∧
    (∀ c op, (c, op) ∈ [(Instr.clamp, 4), (.highz, 5)] →
      (grants → out c { t with ir := op, granted := true }) ∧ (¬ grants → out c asBypass)) ∧
    (if s.fw.hold = true ∧ s.sec.lifeCycle ≠ 4 then out .flashProg { t with ir := 0x10, granted := true }
     else out .flashProg { t with ir := 0xFF, granted := true, bypass := false }) ∧
    (Runs .idcode s fun u => u.tapData = (32, 0x1961274B)) ∧ (Runs .bypass s fun u => u.tapData = (1, 0)) ∧
    (Runs (.samplePreload v) s fun u => u.tapData = (1048, v % 2 ^ 1048)) ∧
    (¬ grants → Runs (.extest v) s fun u => u.tapData = (1, 0) ∧ u.tap.irCapture = 5) ∧
    out .flashOperationComplete { t with busy := false, status := if t.status = 1 then 0 else t.status }) ∧
  (∀ (s : State) (off v : Nat), off < 2 ^ 24 → v < 2 ^ 32 →
    let t := s.tap
    let on := t.ir = 0x10 ∧ s.fw.hold = true ∧ s.sec.lifeCycle ≠ 4
    let okOff := fun a : Nat => a % 4 = 0 ∧ a < 0x200000
    let octet := fun (u : State) (a : Nat) => flashOctet u.fw.flash a
    let only := fun u : State => { u with tap := s.tap, fw := s.fw } = s ∧ u.fw = { s.fw with flash := u.fw.flash, erased := u.fw.erased, progWritten := u.fw.progWritten }
    let refused := fun c : Instr => exec c s = .next { s with tap := { t with status := 2, word := 0 } }
    (∀ c ∈ [Instr.flashSetOffset off, .flashWriteWord v, .flashReadWord, .flashEraseSector off, .flashNoOperation],
      ¬ on → exec c s = .next s) ∧
    (on → t.busy = true ∨ ¬ okOff off → refused (.flashSetOffset off) ∧ refused (.flashEraseSector off)) ∧
    (on → t.busy = true ∨ ¬ okOff t.offset → refused .flashReadWord ∧ refused (.flashWriteWord v)) ∧
    (on → s.fw.erased.contains (t.offset / 4096) = false → refused (.flashWriteWord v)) ∧
    (on → t.busy = false → okOff off → exec (.flashSetOffset off) s = .next { s with tap := { t with offset := off, status := 0, word := 0 } }) ∧
    (on → t.busy = false → okOff t.offset → exec .flashReadWord s = .next { s with tap := { t with offset := t.offset + 4, status := 0, word := leNat ((List.range 4).map fun i => octet s (t.offset + i)) } }) ∧
    (on → t.busy = false → okOff t.offset → s.fw.erased.contains (t.offset / 4096) = true → Runs (.flashWriteWord v) s fun u => only u ∧
      u.tap = { t with offset := t.offset + 4, status := 1, busy := true, word := 0 } ∧ u.fw.erased = s.fw.erased ∧
      (∀ i, i < 4 → octet u (t.offset + i) = BitVec.ofNat 8 (v >>> (8 * i))) ∧
      (∀ a, (a < t.offset ∨ t.offset + 4 ≤ a) → octet u a = octet s a) ∧ u.fw.progWritten.contains (t.offset / 0x100000) = true) ∧
    (on → t.busy = false → okOff off → Runs (.flashEraseSector off) s fun u => only u ∧
      u.tap = { t with offset := off, status := 1, busy := true, word := 0 } ∧ u.fw.erased.contains (off / 4096) = true ∧
      (∀ a, octet u a = if a / 4096 = off / 4096 then 0xFF#8 else octet s a) ∧ u.fw.progWritten.contains (off / 0x100000) = true) ∧
    (on → exec .flashNoOperation s = .next { s with tap := { t with status := if t.busy then 1 else 0, word := 0 } }))

end
end

