-- ==== Sys2Proof/Laws/Memory.lean ====
section
/-! SUPPORT. The canonical form of the memories: every operation keeps it, and a read gives what was last written. -/

namespace Sys2Proof.Machine

/-! ### Rising lists -/

theorem risingBy_iff_pairwise {α : Type} {lt : α → α → Bool} (tr : ∀ a b c, lt a b = true → lt b c = true → lt a c = true)
    (l : List α) : risingBy lt l = true ↔ l.Pairwise fun a b => lt a b = true := by
  fun_induction risingBy lt l <;> grind [List.pairwise_cons, List.Pairwise.nil]

/-! ### Memories of words -/

theorem wordsWf_iff (m : Words) :
    Memory.wordsWf m = true ↔ m.Pairwise (fun a b => a.1 < b.1) ∧ ∀ e ∈ m, e.2 ≠ 0 := by
  rw [Memory.wordsWf, Bool.and_eq_true, risingBy_iff_pairwise (by simp only [decide_eq_true_eq]; omega), List.pairwise_map]
  simp

theorem wordPut_mem (m : Words) (a v : Nat) {e : Nat × Nat} (h : e ∈ wordPut m a v) : (e = (a, v) ∧ v ≠ 0) ∨ e ∈ m := by
  fun_induction wordPut m a v <;> grind

theorem wordPut_rises {m : Words} (a v : Nat) (h : m.Pairwise fun x y => x.1 < y.1) :
    (wordPut m a v).Pairwise fun x y => x.1 < y.1 := by
  fun_induction wordPut m a v <;> grind [→ wordPut_mem, List.pairwise_cons, List.Pairwise.nil]

/-- A word put keeps a memory canonical. -/
theorem wordPut_wf {m : Words} (h : Memory.wordsWf m = true) (a v : Nat) : Memory.wordsWf (wordPut m a v) = true := by
  rw [wordsWf_iff] at h ⊢
  exact ⟨wordPut_rises a v h.1, fun e he => (wordPut_mem m a v he).elim (fun k => k.1 ▸ k.2) (h.2 e)⟩

/-- A word below every listed one reads as 0. -/
theorem wordAt_low {r : Words} {a : Nat} (h : ∀ e ∈ r, a < e.1) : wordAt r a = 0 := by
  fun_induction wordAt r a <;> grind

/-- A read of the word just put gives it, and every other word reads as before. -/
theorem wordAt_wordPut {m : Words} (h : Memory.wordsWf m = true) (a v b : Nat) :
    wordAt (wordPut m a v) b = if b = a then v else wordAt m b := by
  replace h := ((wordsWf_iff m).mp h).1
  fun_induction wordPut m a v <;> grind [wordAt, wordAt_low, List.pairwise_cons]

/-- Words put one after another keep a memory canonical. -/
theorem foldl_wordPut_wf {α : Type} (l : List α) (f : Words → α → Nat × Nat) {m : Words} (h : Memory.wordsWf m = true) :
    Memory.wordsWf (l.foldl (fun m x => wordPut m (f m x).1 (f m x).2) m) = true := by
  induction l generalizing m with
  | nil => exact h
  | cons x r ih => exact ih (wordPut_wf h _ _)

/-- Octets written keep a memory canonical. -/
theorem bazWrite_wf {m : Words} (h : Memory.wordsWf m = true) (off : Nat) (o : Octets) :
    Memory.wordsWf (bazWrite m off o) = true :=
  foldl_wordPut_wf o.zipIdx (fun m x =>
    ((off + x.2) / 8,
      wordAt m ((off + x.2) / 8) - field (wordAt m ((off + x.2) / 8)) (8 * ((off + x.2) % 8) + 7) (8 * ((off + x.2) % 8)) *
        2 ^ (8 * ((off + x.2) % 8)) + x.1.toNat * 2 ^ (8 * ((off + x.2) % 8)))) h

/-- Words left out keep a memory canonical. -/
theorem filter_wordsWf {m : Words} (h : Memory.wordsWf m = true) (p : Nat × Nat → Bool) :
    Memory.wordsWf (m.filter p) = true := by
  rw [wordsWf_iff] at h ⊢
  exact ⟨h.1.filter p, fun e he => h.2 e (List.mem_filter.mp he).1⟩

/-! ### The flash -/

theorem flashWf_iff (m : List Host.Cell) :
    Memory.flashWf m = true ↔ m.Pairwise (fun a b => a.1 < b.1) ∧ ∀ e ∈ m, e.2 ≠ 0xFF#8 := by
  rw [Memory.flashWf, Bool.and_eq_true, risingBy_iff_pairwise (by simp only [decide_eq_true_eq]; omega), List.pairwise_map]
  simp

/-- Cells left out keep the flash canonical. -/
theorem filter_flashWf {m : List Host.Cell} (h : Memory.flashWf m = true) (p : Host.Cell → Bool) :
    Memory.flashWf (m.filter p) = true := by
  rw [flashWf_iff] at h ⊢
  exact ⟨h.1.filter p, fun e he => h.2 e (List.mem_filter.mp he).1⟩

theorem flashInsert_mem (m : List Host.Cell) (a : Nat) (v : Byte) {e : Host.Cell} (h : e ∈ flashInsert a v m) :
    e = (a, v) ∨ e ∈ m := by
  fun_induction flashInsert a v m <;> grind

theorem flashInsert_rises {m : List Host.Cell} (a : Nat) (v : Byte) (h : m.Pairwise fun x y => x.1 < y.1) :
    (flashInsert a v m).Pairwise fun x y => x.1 < y.1 := by
  fun_induction flashInsert a v m <;> grind [→ flashInsert_mem, List.pairwise_cons, List.Pairwise.nil]

/-- A cell written keeps the flash canonical. -/
theorem flashPut_wf {m : List Host.Cell} (h : Memory.flashWf m = true) (a : Nat) (v : Byte) :
    Memory.flashWf (flashPut m a v) = true := by
  rw [flashPut]
  split
  · exact filter_flashWf h _
  · next hv =>
    rw [flashWf_iff] at h ⊢
    exact ⟨flashInsert_rises a v h.1, fun e he => (flashInsert_mem m a v he).elim (fun k => k ▸ hv) (h.2 e)⟩

/-- Octets written keep the flash canonical. -/
theorem flashWrite_wf {m : List Host.Cell} (h : Memory.flashWf m = true) (off : Nat) (o : Octets) :
    Memory.flashWf (flashWrite m off o) = true := by
  rw [flashWrite]
  induction o.zipIdx generalizing m with
  | nil => exact h
  | cons x r ih => exact ih (flashPut_wf h _ _)

/-- An erase keeps the flash canonical. -/
theorem flashErase_wf {m : List Host.Cell} (h : Memory.flashWf m = true) (off len : Nat) :
    Memory.flashWf (flashErase m off len) = true := filter_flashWf h _

/-! ### Stores of objects -/

theorem keyLt_trans (a b c : Nat × Nat) (h : keyLt a b = true) (k : keyLt b c = true) : keyLt a c = true := by
  simp only [keyLt, Bool.or_eq_true, Bool.and_eq_true, decide_eq_true_eq, beq_iff_eq] at *
  omega

theorem namesWf_iff (m : List ((Nat × Nat) × Octets)) :
    Memory.namesWf m = true ↔ m.Pairwise fun a b => keyLt a.1 b.1 = true := by
  rw [Memory.namesWf, risingBy_iff_pairwise keyLt_trans, List.pairwise_map]

/-- Objects left out keep a store in order. -/
theorem filter_namesWf {m : List ((Nat × Nat) × Octets)} (h : Memory.namesWf m = true) (p : (Nat × Nat) × Octets → Bool) :
    Memory.namesWf (m.filter p) = true := by
  rw [namesWf_iff] at h ⊢
  exact h.filter p

theorem storeInsert_mem (m : List ((Nat × Nat) × Octets)) (k : Nat × Nat) (v : Octets) {e : (Nat × Nat) × Octets}
    (h : e ∈ storeInsert m k v) : e = (k, v) ∨ e ∈ m := by
  fun_induction storeInsert m k v <;> grind

/-- The names of a dictionary are ordered totally. -/
theorem keyLt_total {a b : Nat × Nat} (h : ¬keyLt a b = true) (n : b ≠ a) : keyLt b a = true := by
  simp only [keyLt, Bool.or_eq_true, Bool.and_eq_true, decide_eq_true_eq, beq_iff_eq, ne_eq, Prod.ext_iff] at *
  omega

theorem storeInsert_rises {m : List ((Nat × Nat) × Octets)} (k : Nat × Nat) (v : Octets)
    (h : m.Pairwise fun x y => keyLt x.1 y.1 = true) : (storeInsert m k v).Pairwise fun x y => keyLt x.1 y.1 = true := by
  fun_induction storeInsert m k v <;>
    grind [→ storeInsert_mem, keyLt_trans, keyLt_total, List.pairwise_cons, List.Pairwise.nil]

/-- An object written keeps a store in order. -/
theorem storePut_wf {m : List ((Nat × Nat) × Octets)} (h : Memory.namesWf m = true) (k : Nat × Nat) (v : Octets) :
    Memory.namesWf (storePut m k v) = true := by
  rw [storePut]
  split
  · exact filter_namesWf h _
  · exact (namesWf_iff _).mpr (storeInsert_rises k v ((namesWf_iff m).mp h))

/-! ### Values of objects -/

theorem storeGet_storeErase (m : List ((Nat × Nat) × Octets)) (k j : Nat × Nat) :
    storeGet (storeErase m k) j = if j = k then none else storeGet m j := by
  rw [storeErase]
  induction m <;> grind [storeGet]

theorem storeGet_storeInsert (m : List ((Nat × Nat) × Octets)) (k j : Nat × Nat) (v : Octets) :
    storeGet (storeInsert m k v) j = if k = j then some v else storeGet m j := by
  fun_induction storeInsert m k v <;> grind [storeGet]

/-- A stored object reads as what was written last, and every other object as before. -/
theorem obj_putObj (s : State) (idx sub : Nat) (v : Octets) (i j : Nat) :
    (s.putObj idx sub v).obj i j = if (i, j) = (idx, sub) then v else s.obj i j := by
  simp only [State.putObj, State.obj, State.onDict, storePut]
  by_cases hv : v = dfltOctets idx sub
  · simp only [hv, if_true, storeGet_storeErase]
    by_cases h : (i, j) = (idx, sub)
    · obtain ⟨rfl, rfl⟩ := Prod.mk.inj h; simp
    · simp [h]
  · simp only [hv, if_false, storeGet_storeInsert]
    by_cases h : (i, j) = (idx, sub)
    · simp [h]
    · simp [h, Ne.symm h]

end Sys2Proof.Machine
end

