-- ==== Sys2Proof/Laws/Ops.lean ====
section
/-! SUPPORT. What the shared operations change: events, records, items, the clocks, ports and responses. -/

namespace Sys2Proof.Machine

/-- `t` is `s` but for the Waystation, the Ledger and the trace unit, the three that an event, a record or an item touches. -/
def Quiet (s t : State) : Prop := t = { s with way := t.way, ledger := t.ledger, trace := t.trace }

/-- `t` is `s` but for the clocks and what `Quiet` leaves open. -/
def Timely (s t : State) : Prop := t = { s with time := t.time, way := t.way, ledger := t.ledger, trace := t.trace }

/-- `t` is `s` but for ports, controllers, the last response, the counter of free values and what `Timely` leaves open. -/
def Spoken (s t : State) : Prop :=
  t = { s with
    time := t.time, way := t.way, ledger := t.ledger, trace := t.trace, ports := t.ports, cans := t.cans, free := t.free
    dict := { s.dict with lastReply := t.dict.lastReply } }

/-! ### The relations -/

theorem Quiet.refl (s : State) : Quiet s s := rfl
theorem Quiet.trans {s t u : State} (h : Quiet s t) (g : Quiet t u) : Quiet s u := by
  unfold Quiet at *
  rw [g, h]
theorem Quiet.timely {s t : State} (h : Quiet s t) : Timely s t := by
  unfold Quiet at h
  unfold Timely
  rw [h]
theorem Timely.trans {s t u : State} (h : Timely s t) (g : Timely t u) : Timely s u := by
  unfold Timely at *
  rw [g, h]
theorem Timely.spoken {s t : State} (h : Timely s t) : Spoken s t := by
  unfold Timely at h
  unfold Spoken
  rw [h]
theorem Spoken.trans {s t u : State} (h : Spoken s t) (g : Spoken t u) : Spoken s u := by
  unfold Spoken at *
  rw [g, h]
theorem Timely.core {s t : State} (h : Timely s t) : t.core = s.core := by
  unfold Timely at h
  rw [h]
  rfl
theorem Quiet.core {s t : State} (h : Quiet s t) : t.core = s.core := h.timely.core
theorem Spoken.plant {s t : State} (h : Spoken s t) : t.plant = s.plant := by
  unfold Spoken at h
  rw [h]
  rfl
theorem Quiet.plant {s t : State} (h : Quiet s t) : t.plant = s.plant := h.timely.spoken.plant
theorem Quiet.time {s t : State} (h : Quiet s t) : t.time = s.time := by
  unfold Quiet at h
  rw [h]
theorem Quiet.fns {s t : State} (h : Quiet s t) : t.fns = s.fns := by
  unfold Quiet at h
  rw [h]
theorem Quiet.fn {s t : State} (h : Quiet s t) (f : Fn) : t.fn f = s.fn f := by simp [State.fn, h.fns]
theorem Quiet.power {s t : State} (h : Quiet s t) : t.power = s.power := by
  unfold Quiet at h
  rw [h]
theorem Quiet.dict {s t : State} (h : Quiet s t) : t.dict = s.dict := by
  unfold Quiet at h
  rw [h]
theorem Quiet.cfg {s t : State} (h : Quiet s t) (i j : Nat) : t.cfg i j = s.cfg i j := by
  simp [State.cfg, State.obj, h.dict]

/-! ### The Ledger, flows and items -/

theorem quiet_onWay (s : State) (f : Waystation → Waystation) : Quiet s (s.onWay f) := rfl
theorem timely_onTime (s : State) (f : TimeBase → TimeBase) : Timely s (s.onTime f) := rfl
theorem spoken_onPort (s : State) (n : Nat) (f : HostPort → HostPort) : Spoken s (s.onPort n f) := rfl
theorem spoken_onCan (s : State) (n : Nat) (f : Can → Can) : Spoken s (s.onCan n f) := rfl
theorem quiet_record (s : State) (k o : Nat) (p : Octets) : Quiet s (s.record k o p) := rfl
theorem quiet_recordEvent (s : State) (ev : Nat) : Quiet s (s.recordEvent ev) := by
  unfold State.recordEvent
  split
  · split <;> rfl
  · rfl
theorem quiet_refreshReady (s : State) : Quiet s s.refreshReady := rfl
theorem quiet_enqueue (s : State) (it : Item) : Quiet s (s.enqueue it) := rfl
theorem quiet_setSticky (s : State) (m : Nat) : Quiet s (s.setSticky m) := rfl
theorem quiet_traceEvent (s : State) (ev : Nat) : Quiet s (s.traceEvent ev) := by
  unfold State.traceEvent
  split <;> rfl

/-! ### Events -/

/-- An event changes the Waystation, the Ledger and the trace unit alone (R322, R324, R325, R739). -/
theorem quiet_raiseOne (s : State) (ev : Nat) : Quiet s (s.raiseOne ev).1 := by
  have h1 : Quiet s ((s.onWay fun w =>
      ({ w with pend := w.pend ||| BitVec.ofNat 512 (1 <<< ev) } : Waystation).note s.controlCycle (BitVec.ofNat 512 (1 <<< ev)) 0).traceEvent ev) :=
    (quiet_onWay s _).trans (quiet_traceEvent _ _)
  unfold State.raiseOne
  dsimp only
  repeat' split
  all_goals
    first
      | exact h1
      | exact h1.trans (quiet_recordEvent _ _)
      | exact h1.trans (quiet_enqueue _ _)
      | exact (h1.trans (quiet_recordEvent _ _)).trans (quiet_enqueue _ _)
theorem quiet_raise (s : State) (ev : Nat) : Quiet s (s.raise ev) := by
  unfold State.raise
  simp only
  split
  · exact ((quiet_raiseOne s ev).trans (quiet_setSticky _ _)).trans (quiet_raiseOne _ _)
  · exact quiet_raiseOne s ev
theorem quiet_raiseAll (l : List Nat) (s : State) : Quiet s (s.raiseAll l) := by
  induction l generalizing s with
  | nil => rfl
  | cons e r ih => exact (quiet_raise s e).trans (ih _)

@[simp] theorem State.core_raise (s : State) (ev : Nat) : (s.raise ev).core = s.core := (quiet_raise s ev).core
@[simp] theorem State.core_raiseAll (s : State) (l : List Nat) : (s.raiseAll l).core = s.core := (quiet_raiseAll l s).core
@[simp] theorem State.core_record (s : State) (k o : Nat) (p : Octets) : (s.record k o p).core = s.core := rfl
@[simp] theorem State.time_raise (s : State) (ev : Nat) : (s.raise ev).time = s.time := (quiet_raise s ev).time
@[simp] theorem State.fns_raise (s : State) (ev : Nat) : (s.raise ev).fns = s.fns := (quiet_raise s ev).fns
@[simp] theorem State.fn_raise (s : State) (ev : Nat) (f : Fn) : (s.raise ev).fn f = s.fn f := (quiet_raise s ev).fn f
@[simp] theorem State.power_raise (s : State) (ev : Nat) : (s.raise ev).power = s.power := (quiet_raise s ev).power
@[simp] theorem State.dict_raise (s : State) (ev : Nat) : (s.raise ev).dict = s.dict := (quiet_raise s ev).dict

theorem pend_recordEvent (s : State) (ev : Nat) : (s.recordEvent ev).way.pend = s.way.pend := by
  unfold State.recordEvent
  split
  · split <;> rfl
  · rfl
theorem pend_traceEvent (s : State) (ev : Nat) : (s.traceEvent ev).way.pend = s.way.pend := by
  unfold State.traceEvent
  split <;> rfl
theorem pend_note (w : Waystation) (c : Nat) (e : BitVec 512) (m : Nat) : (w.note c e m).pend = w.pend := by
  unfold Waystation.note
  split <;> rfl
theorem pend_raiseOne (s : State) (ev : Nat) :
    (s.raiseOne ev).1.way.pend = s.way.pend ||| BitVec.ofNat 512 (1 <<< ev) := by
  have e : ∀ (u : State) (it : Item), (u.enqueue it).way.pend = u.way.pend := fun _ _ => rfl
  have w : ∀ (u : State) (f : Waystation → Waystation), (u.onWay f).way = f u.way := fun _ _ => rfl
  unfold State.raiseOne
  dsimp only
  repeat' split
  all_goals simp only [e, pend_recordEvent, pend_traceEvent, pend_note, w]

theorem pend_setSticky (s : State) (m : Nat) : (s.setSticky m).way.pend = s.way.pend := pend_note _ _ _ _

/-- A raised event is pending (R324). -/
theorem raised_raise (s : State) {ev : Nat} (h : ev < 512) : (s.raise ev).raised ev := by
  have b : (BitVec.ofNat 512 (1 <<< ev)).getLsbD ev = true := by simp [BitVec.getLsbD_ofNat, h, Nat.testBit_shiftLeft]
  unfold State.raised State.raise
  simp only
  split
  · rw [pend_raiseOne, pend_setSticky, pend_raiseOne]
    simp [b]
  · rw [pend_raiseOne]
    simp [b]

/-- An event once pending stays pending while others are raised (R324). -/
theorem raised_mono (s : State) (ev : Nat) {e : Nat} (h : s.raised e) : (s.raise ev).raised e := by
  unfold State.raised at *
  unfold State.raise
  simp only
  split
  · rw [pend_raiseOne, pend_setSticky, pend_raiseOne]
    simp [h]
  · rw [pend_raiseOne]
    simp [h]

/-! ### Items of hardware sources -/

theorem quiet_handOver_none (s : State) (it : Item) (h : it.buffer = 0xFFFFFFFF) : s.handOver it = s := by
  unfold State.handOver State.onFab
  simp only [if_pos h]

/-- A posted item changes the Waystation, the Ledger and the trace unit, and its buffer (R22, R320). -/
theorem quiet_post (s : State) (it : Item) : Quiet (s.handOver it) (s.post it) ∨ s.post it = s := by
  unfold State.post
  split
  · exact .inr rfl
  · left
    dsimp only
    split
    · exact quiet_enqueue _ _
    · exact ((quiet_onWay _ _).trans (quiet_setSticky _ _)).trans (quiet_raise _ _)

/-- An item without a buffer changes nothing else. -/
theorem State.core_post (s : State) (it : Item) (h : it.buffer = 0xFFFFFFFF) : (s.post it).core = s.core := by
  rcases quiet_post s it with q | e
  · rw [q.core, quiet_handOver_none s it h]
  · rw [e]

/-- A write of a word leaves every part of a memory that does not hold it. -/
theorem filter_wordPut (p : Nat → Bool) (m : Words) (a v : Nat) (h : p a = false) :
    (wordPut m a v).filter (fun e => p e.1) = m.filter fun e => p e.1 := by
  induction m with
  | nil => unfold wordPut; split <;> simp [h]
  | cons x r ih =>
    unfold wordPut
    split
    · split <;> simp [List.filter_cons, h]
    · split
      · next eq => subst eq; split <;> simp [h]
      · simp [List.filter_cons, ih]

/-- So do octets written one after another. -/
theorem filter_bazWrite (p : Nat → Bool) (m : Words) (off : Nat) (o : Octets) (h : ∀ i, i < o.length → p ((off + i) / 8) = false) :
    (bazWrite m off o).filter (fun e => p e.1) = m.filter fun e => p e.1 := by
  have g : ∀ (l : List (Byte × Nat)) (m : Words), (∀ x ∈ l, p ((off + x.2) / 8) = false) →
      (l.foldl (fun m x =>
        let w := (off + x.2) / 8
        let b := (off + x.2) % 8
        let v := wordAt m w
        wordPut m w (v - field v (8 * b + 7) (8 * b) * 2 ^ (8 * b) + x.1.toNat * 2 ^ (8 * b))) m).filter (fun e => p e.1) =
      m.filter fun e => p e.1 := by
    intro l
    induction l with
    | nil => exact fun _ _ => rfl
    | cons x r ih =>
      intro m hx
      rw [List.foldl_cons, ih _ fun y hy => hx y (List.mem_cons_of_mem _ hy)]
      exact filter_wordPut p _ _ _ (hx x (by simp))
  refine g o.zipIdx m fun x hx => h x.2 ?_
  have := List.mem_zipIdx hx
  omega

/-! ### The clocks -/

/-- Time passes in the time base alone; a step that takes effect raises EV18 (R271, R277). -/
theorem timely_advanceTo (s : State) (t : Nat) : Timely s (s.advanceTo t) := by
  unfold State.advanceTo
  simp only
  split
  · exact (timely_onTime s _).trans (quiet_raise _ _).timely
  · rfl
@[simp] theorem State.core_advanceTo (s : State) (t : Nat) : (s.advanceTo t).core = s.core := (timely_advanceTo s t).core
@[simp] theorem State.time_advanceTo (s : State) (t : Nat) : (s.advanceTo t).time = s.time.advance t := by
  unfold State.advanceTo
  simp only
  split
  · rw [State.time_raise]
    rfl
  · rfl

/-! ### Host ports and responses -/

theorem spoken_portCount (s : State) (n i : Nat) : Spoken s (s.portCount n i) := by
  unfold State.portCount
  simp only
  split
  · rfl
  · split
    · exact (spoken_onPort s n _).trans (quiet_raise _ _).timely.spoken
    · rfl
theorem spoken_portSend (s : State) (n : Nat) (x : HostTx) : Spoken s (s.portSend n x) := by
  unfold State.portSend
  split
  · rfl
  · exact spoken_portCount s n 6
theorem spoken_portFrame (s : State) (n c l : Nat) : Spoken s (s.portFrame n c l).1 := by
  have h1 : Spoken s (if (s.port n).ms = s.msNow then s else s.onPort n fun p => { p with ms := s.msNow, ingress := [] }) := by
    split <;> rfl
  unfold State.portFrame
  split
  · exact (Quiet.refl s).timely.spoken
  · dsimp only
    generalize (if (s.port n).ms = s.msNow then s else s.onPort n fun p => { p with ms := s.msNow, ingress := [] }) = u at h1 ⊢
    split
    · exact (h1.trans (spoken_onPort u n _)).trans (spoken_portCount _ _ _)
    · dsimp only
      have h2 := (h1.trans (spoken_onPort u n fun p => { p with limitMs := some s.msNow })).trans (spoken_portCount _ n 3)
      repeat' split
      all_goals
        first
          | exact h2
          | exact h2.trans (quiet_raise _ _).timely.spoken

theorem spoken_clearSent (s : State) (n : Nat) : Spoken s (s.clearSent n) := rfl
theorem spoken_canRespond (s : State) (n : Nat) (m : Octets) : Spoken s (s.canRespond n m) := by
  unfold State.canRespond
  dsimp only
  split <;> rfl

theorem spoken_draw (s : State) : Spoken s s.draw.2 := rfl
theorem spoken_canErrors (s : State) (n a b : Nat) : Spoken s (s.canErrors n a b) := by
  have h1 : Spoken s (s.onCan n fun c => { c with tec := min a 511, rec_ := min b 255 }) := spoken_onCan s n _
  unfold State.canErrors
  dsimp only
  generalize (s.onCan n fun c => { c with tec := min a 511, rec_ := min b 255 }) = u at h1 ⊢
  have h2 : Spoken s (if ((u.can n).warn && !(s.can n).warn) = true then u.raise (canEvent n 0) else u) := by
    split
    · exact h1.trans (quiet_raise _ _).timely.spoken
    · exact h1
  generalize (if ((u.can n).warn && !(s.can n).warn) = true then u.raise (canEvent n 0) else u) = v at h2 ⊢
  repeat' split
  all_goals
    first
      | exact h2
      | exact h2.trans ((spoken_onCan v n _).trans (quiet_raise _ _).timely.spoken)
      | exact h2.trans (spoken_onCan v n _)
theorem spoken_canReceived (s : State) (n : Nat) : Spoken s (s.canReceived n) := by
  have h1 := spoken_onCan s n Can.cleanFrame
  unfold State.canReceived
  dsimp only
  repeat' split
  · exact h1
  · exact h1.trans (spoken_canErrors _ _ _ _)
  · exact h1.trans ((spoken_draw _).trans (spoken_canErrors _ _ _ _))

/-- Hearing a request touches ports, controllers and what events touch (R135, R684). -/
theorem spoken_heard (s : State) (e : Endpoint) : Spoken s (s.heard e).1 := by
  unfold State.heard
  dsimp only
  split
  · exact (spoken_clearSent s e.port).trans (spoken_portFrame _ _ _ _)
  · dsimp only
    generalize (decide (e.port - 2 < 4) && s.canHears (e.port - 2) && s.canMode (e.port - 2) == 0 &&
      s.cfg (canIdx (e.port - 2) 16) 1 == 1) = on
    cases on
    · exact (Quiet.refl s).timely.spoken
    · exact spoken_canReceived _ _

/-- A message in its management buffer leaves the rest as it was (Table 17-2). -/
theorem plant_handOver (s : State) (it : Item) (a : 0x100000 ≤ it.buffer) (b : it.buffer + it.payload.length ≤ 0x200000) :
    (s.handOver it).plant = s.plant := by
  unfold State.handOver
  split
  · rfl
  · have h := filter_bazWrite (fun w => decide (8 * w < 0x100000) || decide (0x200000 ≤ 8 * w)) s.fab.mem it.buffer it.payload
      fun i hi => by simp only [Bool.or_eq_false_iff, decide_eq_false_iff_not]; omega
    show { s with fab := { s.fab with mem := bazWrite s.fab.mem it.buffer it.payload } }.plant = s.plant
    unfold State.plant Fabric.without
    simp only [State.mk.injEq, Fabric.mk.injEq, and_true, true_and]
    exact h

/-- Positions are no part of the plant. -/
theorem plant_setPos (s : State) (p : Nat) (x : Option Item) : (s.setPos p x).plant = s.plant := rfl

/-- On its way to the management processor a message changes its buffer, the Waystation and what events touch (R21, R293). -/
theorem plant_carry (s : State) (e : Endpoint) (o : Octets) (t : Nat) : (s.carry e o t).1.plant = s.plant := by
  have room : ∀ (b d : Nat), 0x100000 + 8 * (b % ((0x100000 - 2048) / 8)) +
      (requestItem e o (0x100000 + 8 * (b % ((0x100000 - 2048) / 8))) d).payload.length ≤ 0x200000 := by
    intro b d
    have : (requestItem e o (0x100000 + 8 * (b % ((0x100000 - 2048) / 8))) d).payload.length ≤ 2048 := by
      simp only [requestItem, List.length_take]; omega
    have := Nat.mod_lt b (show 0 < (0x100000 - 2048) / 8 by decide)
    omega
  unfold State.carry
  split
  · rfl
  · split
    · exact (quiet_raise _ _).plant
    · dsimp only [State.drawBuffer, State.draw]
      split
      · exact (plant_setPos _ _ _).trans (plant_handOver _ _ (by simp [requestItem]) (room _ _))
      · rcases quiet_post { s with free := s.free + 1 + 1 } (requestItem e o _ _) with q | e
        · exact q.plant.trans (plant_handOver _ _ (by simp [requestItem]) (room _ _))
        · rw [e]; rfl

/-- A request that arrives changes nothing of the plant on its way (R21, R22, R684). -/
@[simp] theorem State.plant_carried (s : State) (r : Req) : (s.carried r).1.plant = s.plant := by
  unfold State.carried State.arrived
  rw [plant_carry, (spoken_heard _ _).plant, (timely_advanceTo s _).spoken.plant]

/-- Sending a response leaves every unit as it was (R112, R135, R681). -/
theorem spoken_send (s : State) (e : Endpoint) (m : Octets) : Spoken s (s.send e m) := by
  have h : Spoken s (s.onDict fun d => { d with lastReply := some ⟨e, m⟩ }) := rfl
  unfold State.send
  dsimp only
  split
  · refine h.trans ?_
    unfold State.portDatagram
    split
    · exact spoken_portSend _ _ _
    · exact (spoken_portCount _ _ _)
  · exact h.trans (spoken_canRespond _ _ _)
@[simp] theorem State.plant_send (s : State) (e : Endpoint) (m : Octets) : (s.send e m).plant = s.plant :=
  (spoken_send s e m).plant
@[simp] theorem State.plant_advanceTo (s : State) (t : Nat) : (s.advanceTo t).plant = s.plant :=
  (timely_advanceTo s t).spoken.plant
@[simp] theorem State.plant_raise (s : State) (ev : Nat) : (s.raise ev).plant = s.plant := (quiet_raise s ev).plant
@[simp] theorem State.plant_onSession (s : State) (id : Nat) (f : Session → Session) : (s.onSession id f).plant = s.plant := rfl
@[simp] theorem State.plant_respond (s : State) (r : Req) (x : Session) (o f : Nat) (d : Octets) :
    (s.respond r x o f d).plant = s.plant := by
  simp [State.respond, State.sendTagged]

end Sys2Proof.Machine
end

