-- ==== Sys2Proof/Laws/State.lean ====
section
/-! SUPPORT. What each update of a part of the state leaves of every part: one lemma for each field and update. -/

namespace Sys2Proof.Machine

variable (s : State)

/-! ### onPower -/

@[simp] theorem State.onPower_pending (f : Power → Power) : (s.onPower f).pending = s.pending := rfl
@[simp] theorem State.onPower_power (f : Power → Power) : (s.onPower f).power = f s.power := rfl
@[simp] theorem State.onPower_time (f : Power → Power) : (s.onPower f).time = s.time := rfl
@[simp] theorem State.onPower_fns (f : Power → Power) : (s.onPower f).fns = s.fns := rfl
@[simp] theorem State.onPower_dict (f : Power → Power) : (s.onPower f).dict = s.dict := rfl
@[simp] theorem State.onPower_way (f : Power → Power) : (s.onPower f).way = s.way := rfl
@[simp] theorem State.onPower_ledger (f : Power → Power) : (s.onPower f).ledger = s.ledger := rfl
@[simp] theorem State.onPower_sensors (f : Power → Power) : (s.onPower f).sensors = s.sensors := rfl
@[simp] theorem State.onPower_fw (f : Power → Power) : (s.onPower f).fw = s.fw := rfl
@[simp] theorem State.onPower_sec (f : Power → Power) : (s.onPower f).sec = s.sec := rfl
@[simp] theorem State.onPower_pair (f : Power → Power) : (s.onPower f).pair = s.pair := rfl
@[simp] theorem State.onPower_tap (f : Power → Power) : (s.onPower f).tap = s.tap := rfl
@[simp] theorem State.onPower_rings (f : Power → Power) : (s.onPower f).rings = s.rings := rfl
@[simp] theorem State.onPower_le (f : Power → Power) : (s.onPower f).le = s.le := rfl
@[simp] theorem State.onPower_joints (f : Power → Power) : (s.onPower f).joints = s.joints := rfl
@[simp] theorem State.onPower_trace (f : Power → Power) : (s.onPower f).trace = s.trace := rfl
@[simp] theorem State.onPower_aux (f : Power → Power) : (s.onPower f).aux = s.aux := rfl
@[simp] theorem State.onPower_plan (f : Power → Power) : (s.onPower f).plan = s.plan := rfl
@[simp] theorem State.onPower_per (f : Power → Power) : (s.onPower f).per = s.per := rfl
@[simp] theorem State.onPower_saf (f : Power → Power) : (s.onPower f).saf = s.saf := rfl
@[simp] theorem State.onPower_ports (f : Power → Power) : (s.onPower f).ports = s.ports := rfl
@[simp] theorem State.onPower_cans (f : Power → Power) : (s.onPower f).cans = s.cans := rfl
@[simp] theorem State.onPower_fab (f : Power → Power) : (s.onPower f).fab = s.fab := rfl
@[simp] theorem State.onPower_free (f : Power → Power) : (s.onPower f).free = s.free := rfl

/-! ### onTime -/

@[simp] theorem State.onTime_pending (f : TimeBase → TimeBase) : (s.onTime f).pending = s.pending := rfl
@[simp] theorem State.onTime_power (f : TimeBase → TimeBase) : (s.onTime f).power = s.power := rfl
@[simp] theorem State.onTime_time (f : TimeBase → TimeBase) : (s.onTime f).time = f s.time := rfl
@[simp] theorem State.onTime_fns (f : TimeBase → TimeBase) : (s.onTime f).fns = s.fns := rfl
@[simp] theorem State.onTime_dict (f : TimeBase → TimeBase) : (s.onTime f).dict = s.dict := rfl
@[simp] theorem State.onTime_way (f : TimeBase → TimeBase) : (s.onTime f).way = s.way := rfl
@[simp] theorem State.onTime_ledger (f : TimeBase → TimeBase) : (s.onTime f).ledger = s.ledger := rfl
@[simp] theorem State.onTime_sensors (f : TimeBase → TimeBase) : (s.onTime f).sensors = s.sensors := rfl
@[simp] theorem State.onTime_fw (f : TimeBase → TimeBase) : (s.onTime f).fw = s.fw := rfl
@[simp] theorem State.onTime_sec (f : TimeBase → TimeBase) : (s.onTime f).sec = s.sec := rfl
@[simp] theorem State.onTime_pair (f : TimeBase → TimeBase) : (s.onTime f).pair = s.pair := rfl
@[simp] theorem State.onTime_tap (f : TimeBase → TimeBase) : (s.onTime f).tap = s.tap := rfl
@[simp] theorem State.onTime_rings (f : TimeBase → TimeBase) : (s.onTime f).rings = s.rings := rfl
@[simp] theorem State.onTime_le (f : TimeBase → TimeBase) : (s.onTime f).le = s.le := rfl
@[simp] theorem State.onTime_joints (f : TimeBase → TimeBase) : (s.onTime f).joints = s.joints := rfl
@[simp] theorem State.onTime_trace (f : TimeBase → TimeBase) : (s.onTime f).trace = s.trace := rfl
@[simp] theorem State.onTime_aux (f : TimeBase → TimeBase) : (s.onTime f).aux = s.aux := rfl
@[simp] theorem State.onTime_plan (f : TimeBase → TimeBase) : (s.onTime f).plan = s.plan := rfl
@[simp] theorem State.onTime_per (f : TimeBase → TimeBase) : (s.onTime f).per = s.per := rfl
@[simp] theorem State.onTime_saf (f : TimeBase → TimeBase) : (s.onTime f).saf = s.saf := rfl
@[simp] theorem State.onTime_ports (f : TimeBase → TimeBase) : (s.onTime f).ports = s.ports := rfl
@[simp] theorem State.onTime_cans (f : TimeBase → TimeBase) : (s.onTime f).cans = s.cans := rfl
@[simp] theorem State.onTime_fab (f : TimeBase → TimeBase) : (s.onTime f).fab = s.fab := rfl
@[simp] theorem State.onTime_free (f : TimeBase → TimeBase) : (s.onTime f).free = s.free := rfl

/-! ### onDict -/

@[simp] theorem State.onDict_pending (f : Dict → Dict) : (s.onDict f).pending = s.pending := rfl
@[simp] theorem State.onDict_power (f : Dict → Dict) : (s.onDict f).power = s.power := rfl
@[simp] theorem State.onDict_time (f : Dict → Dict) : (s.onDict f).time = s.time := rfl
@[simp] theorem State.onDict_fns (f : Dict → Dict) : (s.onDict f).fns = s.fns := rfl
@[simp] theorem State.onDict_dict (f : Dict → Dict) : (s.onDict f).dict = f s.dict := rfl
@[simp] theorem State.onDict_way (f : Dict → Dict) : (s.onDict f).way = s.way := rfl
@[simp] theorem State.onDict_ledger (f : Dict → Dict) : (s.onDict f).ledger = s.ledger := rfl
@[simp] theorem State.onDict_sensors (f : Dict → Dict) : (s.onDict f).sensors = s.sensors := rfl
@[simp] theorem State.onDict_fw (f : Dict → Dict) : (s.onDict f).fw = s.fw := rfl
@[simp] theorem State.onDict_sec (f : Dict → Dict) : (s.onDict f).sec = s.sec := rfl
@[simp] theorem State.onDict_pair (f : Dict → Dict) : (s.onDict f).pair = s.pair := rfl
@[simp] theorem State.onDict_tap (f : Dict → Dict) : (s.onDict f).tap = s.tap := rfl
@[simp] theorem State.onDict_rings (f : Dict → Dict) : (s.onDict f).rings = s.rings := rfl
@[simp] theorem State.onDict_le (f : Dict → Dict) : (s.onDict f).le = s.le := rfl
@[simp] theorem State.onDict_joints (f : Dict → Dict) : (s.onDict f).joints = s.joints := rfl
@[simp] theorem State.onDict_trace (f : Dict → Dict) : (s.onDict f).trace = s.trace := rfl
@[simp] theorem State.onDict_aux (f : Dict → Dict) : (s.onDict f).aux = s.aux := rfl
@[simp] theorem State.onDict_plan (f : Dict → Dict) : (s.onDict f).plan = s.plan := rfl
@[simp] theorem State.onDict_per (f : Dict → Dict) : (s.onDict f).per = s.per := rfl
@[simp] theorem State.onDict_saf (f : Dict → Dict) : (s.onDict f).saf = s.saf := rfl
@[simp] theorem State.onDict_ports (f : Dict → Dict) : (s.onDict f).ports = s.ports := rfl
@[simp] theorem State.onDict_cans (f : Dict → Dict) : (s.onDict f).cans = s.cans := rfl
@[simp] theorem State.onDict_fab (f : Dict → Dict) : (s.onDict f).fab = s.fab := rfl
@[simp] theorem State.onDict_free (f : Dict → Dict) : (s.onDict f).free = s.free := rfl

/-! ### onWay -/

@[simp] theorem State.onWay_pending (f : Waystation → Waystation) : (s.onWay f).pending = s.pending := rfl
@[simp] theorem State.onWay_power (f : Waystation → Waystation) : (s.onWay f).power = s.power := rfl
@[simp] theorem State.onWay_time (f : Waystation → Waystation) : (s.onWay f).time = s.time := rfl
@[simp] theorem State.onWay_fns (f : Waystation → Waystation) : (s.onWay f).fns = s.fns := rfl
@[simp] theorem State.onWay_dict (f : Waystation → Waystation) : (s.onWay f).dict = s.dict := rfl
@[simp] theorem State.onWay_way (f : Waystation → Waystation) : (s.onWay f).way = f s.way := rfl
@[simp] theorem State.onWay_ledger (f : Waystation → Waystation) : (s.onWay f).ledger = s.ledger := rfl
@[simp] theorem State.onWay_sensors (f : Waystation → Waystation) : (s.onWay f).sensors = s.sensors := rfl
@[simp] theorem State.onWay_fw (f : Waystation → Waystation) : (s.onWay f).fw = s.fw := rfl
@[simp] theorem State.onWay_sec (f : Waystation → Waystation) : (s.onWay f).sec = s.sec := rfl
@[simp] theorem State.onWay_pair (f : Waystation → Waystation) : (s.onWay f).pair = s.pair := rfl
@[simp] theorem State.onWay_tap (f : Waystation → Waystation) : (s.onWay f).tap = s.tap := rfl
@[simp] theorem State.onWay_rings (f : Waystation → Waystation) : (s.onWay f).rings = s.rings := rfl
@[simp] theorem State.onWay_le (f : Waystation → Waystation) : (s.onWay f).le = s.le := rfl
@[simp] theorem State.onWay_joints (f : Waystation → Waystation) : (s.onWay f).joints = s.joints := rfl
@[simp] theorem State.onWay_trace (f : Waystation → Waystation) : (s.onWay f).trace = s.trace := rfl
@[simp] theorem State.onWay_aux (f : Waystation → Waystation) : (s.onWay f).aux = s.aux := rfl
@[simp] theorem State.onWay_plan (f : Waystation → Waystation) : (s.onWay f).plan = s.plan := rfl
@[simp] theorem State.onWay_per (f : Waystation → Waystation) : (s.onWay f).per = s.per := rfl
@[simp] theorem State.onWay_saf (f : Waystation → Waystation) : (s.onWay f).saf = s.saf := rfl
@[simp] theorem State.onWay_ports (f : Waystation → Waystation) : (s.onWay f).ports = s.ports := rfl
@[simp] theorem State.onWay_cans (f : Waystation → Waystation) : (s.onWay f).cans = s.cans := rfl
@[simp] theorem State.onWay_fab (f : Waystation → Waystation) : (s.onWay f).fab = s.fab := rfl
@[simp] theorem State.onWay_free (f : Waystation → Waystation) : (s.onWay f).free = s.free := rfl

/-! ### onLedger -/

@[simp] theorem State.onLedger_pending (f : Ledger → Ledger) : (s.onLedger f).pending = s.pending := rfl
@[simp] theorem State.onLedger_power (f : Ledger → Ledger) : (s.onLedger f).power = s.power := rfl
@[simp] theorem State.onLedger_time (f : Ledger → Ledger) : (s.onLedger f).time = s.time := rfl
@[simp] theorem State.onLedger_fns (f : Ledger → Ledger) : (s.onLedger f).fns = s.fns := rfl
@[simp] theorem State.onLedger_dict (f : Ledger → Ledger) : (s.onLedger f).dict = s.dict := rfl
@[simp] theorem State.onLedger_way (f : Ledger → Ledger) : (s.onLedger f).way = s.way := rfl
@[simp] theorem State.onLedger_ledger (f : Ledger → Ledger) : (s.onLedger f).ledger = f s.ledger := rfl
@[simp] theorem State.onLedger_sensors (f : Ledger → Ledger) : (s.onLedger f).sensors = s.sensors := rfl
@[simp] theorem State.onLedger_fw (f : Ledger → Ledger) : (s.onLedger f).fw = s.fw := rfl
@[simp] theorem State.onLedger_sec (f : Ledger → Ledger) : (s.onLedger f).sec = s.sec := rfl
@[simp] theorem State.onLedger_pair (f : Ledger → Ledger) : (s.onLedger f).pair = s.pair := rfl
@[simp] theorem State.onLedger_tap (f : Ledger → Ledger) : (s.onLedger f).tap = s.tap := rfl
@[simp] theorem State.onLedger_rings (f : Ledger → Ledger) : (s.onLedger f).rings = s.rings := rfl
@[simp] theorem State.onLedger_le (f : Ledger → Ledger) : (s.onLedger f).le = s.le := rfl
@[simp] theorem State.onLedger_joints (f : Ledger → Ledger) : (s.onLedger f).joints = s.joints := rfl
@[simp] theorem State.onLedger_trace (f : Ledger → Ledger) : (s.onLedger f).trace = s.trace := rfl
@[simp] theorem State.onLedger_aux (f : Ledger → Ledger) : (s.onLedger f).aux = s.aux := rfl
@[simp] theorem State.onLedger_plan (f : Ledger → Ledger) : (s.onLedger f).plan = s.plan := rfl
@[simp] theorem State.onLedger_per (f : Ledger → Ledger) : (s.onLedger f).per = s.per := rfl
@[simp] theorem State.onLedger_saf (f : Ledger → Ledger) : (s.onLedger f).saf = s.saf := rfl
@[simp] theorem State.onLedger_ports (f : Ledger → Ledger) : (s.onLedger f).ports = s.ports := rfl
@[simp] theorem State.onLedger_cans (f : Ledger → Ledger) : (s.onLedger f).cans = s.cans := rfl
@[simp] theorem State.onLedger_fab (f : Ledger → Ledger) : (s.onLedger f).fab = s.fab := rfl
@[simp] theorem State.onLedger_free (f : Ledger → Ledger) : (s.onLedger f).free = s.free := rfl

/-! ### onSensors -/

@[simp] theorem State.onSensors_pending (f : Sensors → Sensors) : (s.onSensors f).pending = s.pending := rfl
@[simp] theorem State.onSensors_power (f : Sensors → Sensors) : (s.onSensors f).power = s.power := rfl
@[simp] theorem State.onSensors_time (f : Sensors → Sensors) : (s.onSensors f).time = s.time := rfl
@[simp] theorem State.onSensors_fns (f : Sensors → Sensors) : (s.onSensors f).fns = s.fns := rfl
@[simp] theorem State.onSensors_dict (f : Sensors → Sensors) : (s.onSensors f).dict = s.dict := rfl
@[simp] theorem State.onSensors_way (f : Sensors → Sensors) : (s.onSensors f).way = s.way := rfl
@[simp] theorem State.onSensors_ledger (f : Sensors → Sensors) : (s.onSensors f).ledger = s.ledger := rfl
@[simp] theorem State.onSensors_sensors (f : Sensors → Sensors) : (s.onSensors f).sensors = f s.sensors := rfl
@[simp] theorem State.onSensors_fw (f : Sensors → Sensors) : (s.onSensors f).fw = s.fw := rfl
@[simp] theorem State.onSensors_sec (f : Sensors → Sensors) : (s.onSensors f).sec = s.sec := rfl
@[simp] theorem State.onSensors_pair (f : Sensors → Sensors) : (s.onSensors f).pair = s.pair := rfl
@[simp] theorem State.onSensors_tap (f : Sensors → Sensors) : (s.onSensors f).tap = s.tap := rfl
@[simp] theorem State.onSensors_rings (f : Sensors → Sensors) : (s.onSensors f).rings = s.rings := rfl
@[simp] theorem State.onSensors_le (f : Sensors → Sensors) : (s.onSensors f).le = s.le := rfl
@[simp] theorem State.onSensors_joints (f : Sensors → Sensors) : (s.onSensors f).joints = s.joints := rfl
@[simp] theorem State.onSensors_trace (f : Sensors → Sensors) : (s.onSensors f).trace = s.trace := rfl
@[simp] theorem State.onSensors_aux (f : Sensors → Sensors) : (s.onSensors f).aux = s.aux := rfl
@[simp] theorem State.onSensors_plan (f : Sensors → Sensors) : (s.onSensors f).plan = s.plan := rfl
@[simp] theorem State.onSensors_per (f : Sensors → Sensors) : (s.onSensors f).per = s.per := rfl
@[simp] theorem State.onSensors_saf (f : Sensors → Sensors) : (s.onSensors f).saf = s.saf := rfl
@[simp] theorem State.onSensors_ports (f : Sensors → Sensors) : (s.onSensors f).ports = s.ports := rfl
@[simp] theorem State.onSensors_cans (f : Sensors → Sensors) : (s.onSensors f).cans = s.cans := rfl
@[simp] theorem State.onSensors_fab (f : Sensors → Sensors) : (s.onSensors f).fab = s.fab := rfl
@[simp] theorem State.onSensors_free (f : Sensors → Sensors) : (s.onSensors f).free = s.free := rfl

/-! ### onFw -/

@[simp] theorem State.onFw_pending (f : Firmware → Firmware) : (s.onFw f).pending = s.pending := rfl
@[simp] theorem State.onFw_power (f : Firmware → Firmware) : (s.onFw f).power = s.power := rfl
@[simp] theorem State.onFw_time (f : Firmware → Firmware) : (s.onFw f).time = s.time := rfl
@[simp] theorem State.onFw_fns (f : Firmware → Firmware) : (s.onFw f).fns = s.fns := rfl
@[simp] theorem State.onFw_dict (f : Firmware → Firmware) : (s.onFw f).dict = s.dict := rfl
@[simp] theorem State.onFw_way (f : Firmware → Firmware) : (s.onFw f).way = s.way := rfl
@[simp] theorem State.onFw_ledger (f : Firmware → Firmware) : (s.onFw f).ledger = s.ledger := rfl
@[simp] theorem State.onFw_sensors (f : Firmware → Firmware) : (s.onFw f).sensors = s.sensors := rfl
@[simp] theorem State.onFw_fw (f : Firmware → Firmware) : (s.onFw f).fw = f s.fw := rfl
@[simp] theorem State.onFw_sec (f : Firmware → Firmware) : (s.onFw f).sec = s.sec := rfl
@[simp] theorem State.onFw_pair (f : Firmware → Firmware) : (s.onFw f).pair = s.pair := rfl
@[simp] theorem State.onFw_tap (f : Firmware → Firmware) : (s.onFw f).tap = s.tap := rfl
@[simp] theorem State.onFw_rings (f : Firmware → Firmware) : (s.onFw f).rings = s.rings := rfl
@[simp] theorem State.onFw_le (f : Firmware → Firmware) : (s.onFw f).le = s.le := rfl
@[simp] theorem State.onFw_joints (f : Firmware → Firmware) : (s.onFw f).joints = s.joints := rfl
@[simp] theorem State.onFw_trace (f : Firmware → Firmware) : (s.onFw f).trace = s.trace := rfl
@[simp] theorem State.onFw_aux (f : Firmware → Firmware) : (s.onFw f).aux = s.aux := rfl
@[simp] theorem State.onFw_plan (f : Firmware → Firmware) : (s.onFw f).plan = s.plan := rfl
@[simp] theorem State.onFw_per (f : Firmware → Firmware) : (s.onFw f).per = s.per := rfl
@[simp] theorem State.onFw_saf (f : Firmware → Firmware) : (s.onFw f).saf = s.saf := rfl
@[simp] theorem State.onFw_ports (f : Firmware → Firmware) : (s.onFw f).ports = s.ports := rfl
@[simp] theorem State.onFw_cans (f : Firmware → Firmware) : (s.onFw f).cans = s.cans := rfl
@[simp] theorem State.onFw_fab (f : Firmware → Firmware) : (s.onFw f).fab = s.fab := rfl
@[simp] theorem State.onFw_free (f : Firmware → Firmware) : (s.onFw f).free = s.free := rfl

/-! ### onSec -/

@[simp] theorem State.onSec_pending (f : Security → Security) : (s.onSec f).pending = s.pending := rfl
@[simp] theorem State.onSec_power (f : Security → Security) : (s.onSec f).power = s.power := rfl
@[simp] theorem State.onSec_time (f : Security → Security) : (s.onSec f).time = s.time := rfl
@[simp] theorem State.onSec_fns (f : Security → Security) : (s.onSec f).fns = s.fns := rfl
@[simp] theorem State.onSec_dict (f : Security → Security) : (s.onSec f).dict = s.dict := rfl
@[simp] theorem State.onSec_way (f : Security → Security) : (s.onSec f).way = s.way := rfl
@[simp] theorem State.onSec_ledger (f : Security → Security) : (s.onSec f).ledger = s.ledger := rfl
@[simp] theorem State.onSec_sensors (f : Security → Security) : (s.onSec f).sensors = s.sensors := rfl
@[simp] theorem State.onSec_fw (f : Security → Security) : (s.onSec f).fw = s.fw := rfl
@[simp] theorem State.onSec_sec (f : Security → Security) : (s.onSec f).sec = f s.sec := rfl
@[simp] theorem State.onSec_pair (f : Security → Security) : (s.onSec f).pair = s.pair := rfl
@[simp] theorem State.onSec_tap (f : Security → Security) : (s.onSec f).tap = s.tap := rfl
@[simp] theorem State.onSec_rings (f : Security → Security) : (s.onSec f).rings = s.rings := rfl
@[simp] theorem State.onSec_le (f : Security → Security) : (s.onSec f).le = s.le := rfl
@[simp] theorem State.onSec_joints (f : Security → Security) : (s.onSec f).joints = s.joints := rfl
@[simp] theorem State.onSec_trace (f : Security → Security) : (s.onSec f).trace = s.trace := rfl
@[simp] theorem State.onSec_aux (f : Security → Security) : (s.onSec f).aux = s.aux := rfl
@[simp] theorem State.onSec_plan (f : Security → Security) : (s.onSec f).plan = s.plan := rfl
@[simp] theorem State.onSec_per (f : Security → Security) : (s.onSec f).per = s.per := rfl
@[simp] theorem State.onSec_saf (f : Security → Security) : (s.onSec f).saf = s.saf := rfl
@[simp] theorem State.onSec_ports (f : Security → Security) : (s.onSec f).ports = s.ports := rfl
@[simp] theorem State.onSec_cans (f : Security → Security) : (s.onSec f).cans = s.cans := rfl
@[simp] theorem State.onSec_fab (f : Security → Security) : (s.onSec f).fab = s.fab := rfl
@[simp] theorem State.onSec_free (f : Security → Security) : (s.onSec f).free = s.free := rfl

/-! ### onPair -/

@[simp] theorem State.onPair_pending (f : Pairing → Pairing) : (s.onPair f).pending = s.pending := rfl
@[simp] theorem State.onPair_power (f : Pairing → Pairing) : (s.onPair f).power = s.power := rfl
@[simp] theorem State.onPair_time (f : Pairing → Pairing) : (s.onPair f).time = s.time := rfl
@[simp] theorem State.onPair_fns (f : Pairing → Pairing) : (s.onPair f).fns = s.fns := rfl
@[simp] theorem State.onPair_dict (f : Pairing → Pairing) : (s.onPair f).dict = s.dict := rfl
@[simp] theorem State.onPair_way (f : Pairing → Pairing) : (s.onPair f).way = s.way := rfl
@[simp] theorem State.onPair_ledger (f : Pairing → Pairing) : (s.onPair f).ledger = s.ledger := rfl
@[simp] theorem State.onPair_sensors (f : Pairing → Pairing) : (s.onPair f).sensors = s.sensors := rfl
@[simp] theorem State.onPair_fw (f : Pairing → Pairing) : (s.onPair f).fw = s.fw := rfl
@[simp] theorem State.onPair_sec (f : Pairing → Pairing) : (s.onPair f).sec = s.sec := rfl
@[simp] theorem State.onPair_pair (f : Pairing → Pairing) : (s.onPair f).pair = f s.pair := rfl
@[simp] theorem State.onPair_tap (f : Pairing → Pairing) : (s.onPair f).tap = s.tap := rfl
@[simp] theorem State.onPair_rings (f : Pairing → Pairing) : (s.onPair f).rings = s.rings := rfl
@[simp] theorem State.onPair_le (f : Pairing → Pairing) : (s.onPair f).le = s.le := rfl
@[simp] theorem State.onPair_joints (f : Pairing → Pairing) : (s.onPair f).joints = s.joints := rfl
@[simp] theorem State.onPair_trace (f : Pairing → Pairing) : (s.onPair f).trace = s.trace := rfl
@[simp] theorem State.onPair_aux (f : Pairing → Pairing) : (s.onPair f).aux = s.aux := rfl
@[simp] theorem State.onPair_plan (f : Pairing → Pairing) : (s.onPair f).plan = s.plan := rfl
@[simp] theorem State.onPair_per (f : Pairing → Pairing) : (s.onPair f).per = s.per := rfl
@[simp] theorem State.onPair_saf (f : Pairing → Pairing) : (s.onPair f).saf = s.saf := rfl
@[simp] theorem State.onPair_ports (f : Pairing → Pairing) : (s.onPair f).ports = s.ports := rfl
@[simp] theorem State.onPair_cans (f : Pairing → Pairing) : (s.onPair f).cans = s.cans := rfl
@[simp] theorem State.onPair_fab (f : Pairing → Pairing) : (s.onPair f).fab = s.fab := rfl
@[simp] theorem State.onPair_free (f : Pairing → Pairing) : (s.onPair f).free = s.free := rfl

/-! ### onTap -/

@[simp] theorem State.onTap_pending (f : Tap → Tap) : (s.onTap f).pending = s.pending := rfl
@[simp] theorem State.onTap_power (f : Tap → Tap) : (s.onTap f).power = s.power := rfl
@[simp] theorem State.onTap_time (f : Tap → Tap) : (s.onTap f).time = s.time := rfl
@[simp] theorem State.onTap_fns (f : Tap → Tap) : (s.onTap f).fns = s.fns := rfl
@[simp] theorem State.onTap_dict (f : Tap → Tap) : (s.onTap f).dict = s.dict := rfl
@[simp] theorem State.onTap_way (f : Tap → Tap) : (s.onTap f).way = s.way := rfl
@[simp] theorem State.onTap_ledger (f : Tap → Tap) : (s.onTap f).ledger = s.ledger := rfl
@[simp] theorem State.onTap_sensors (f : Tap → Tap) : (s.onTap f).sensors = s.sensors := rfl
@[simp] theorem State.onTap_fw (f : Tap → Tap) : (s.onTap f).fw = s.fw := rfl
@[simp] theorem State.onTap_sec (f : Tap → Tap) : (s.onTap f).sec = s.sec := rfl
@[simp] theorem State.onTap_pair (f : Tap → Tap) : (s.onTap f).pair = s.pair := rfl
@[simp] theorem State.onTap_tap (f : Tap → Tap) : (s.onTap f).tap = f s.tap := rfl
@[simp] theorem State.onTap_rings (f : Tap → Tap) : (s.onTap f).rings = s.rings := rfl
@[simp] theorem State.onTap_le (f : Tap → Tap) : (s.onTap f).le = s.le := rfl
@[simp] theorem State.onTap_joints (f : Tap → Tap) : (s.onTap f).joints = s.joints := rfl
@[simp] theorem State.onTap_trace (f : Tap → Tap) : (s.onTap f).trace = s.trace := rfl
@[simp] theorem State.onTap_aux (f : Tap → Tap) : (s.onTap f).aux = s.aux := rfl
@[simp] theorem State.onTap_plan (f : Tap → Tap) : (s.onTap f).plan = s.plan := rfl
@[simp] theorem State.onTap_per (f : Tap → Tap) : (s.onTap f).per = s.per := rfl
@[simp] theorem State.onTap_saf (f : Tap → Tap) : (s.onTap f).saf = s.saf := rfl
@[simp] theorem State.onTap_ports (f : Tap → Tap) : (s.onTap f).ports = s.ports := rfl
@[simp] theorem State.onTap_cans (f : Tap → Tap) : (s.onTap f).cans = s.cans := rfl
@[simp] theorem State.onTap_fab (f : Tap → Tap) : (s.onTap f).fab = s.fab := rfl
@[simp] theorem State.onTap_free (f : Tap → Tap) : (s.onTap f).free = s.free := rfl

/-! ### onPlan -/

@[simp] theorem State.onPlan_pending (f : Plan → Plan) : (s.onPlan f).pending = s.pending := rfl
@[simp] theorem State.onPlan_power (f : Plan → Plan) : (s.onPlan f).power = s.power := rfl
@[simp] theorem State.onPlan_time (f : Plan → Plan) : (s.onPlan f).time = s.time := rfl
@[simp] theorem State.onPlan_fns (f : Plan → Plan) : (s.onPlan f).fns = s.fns := rfl
@[simp] theorem State.onPlan_dict (f : Plan → Plan) : (s.onPlan f).dict = s.dict := rfl
@[simp] theorem State.onPlan_way (f : Plan → Plan) : (s.onPlan f).way = s.way := rfl
@[simp] theorem State.onPlan_ledger (f : Plan → Plan) : (s.onPlan f).ledger = s.ledger := rfl
@[simp] theorem State.onPlan_sensors (f : Plan → Plan) : (s.onPlan f).sensors = s.sensors := rfl
@[simp] theorem State.onPlan_fw (f : Plan → Plan) : (s.onPlan f).fw = s.fw := rfl
@[simp] theorem State.onPlan_sec (f : Plan → Plan) : (s.onPlan f).sec = s.sec := rfl
@[simp] theorem State.onPlan_pair (f : Plan → Plan) : (s.onPlan f).pair = s.pair := rfl
@[simp] theorem State.onPlan_tap (f : Plan → Plan) : (s.onPlan f).tap = s.tap := rfl
@[simp] theorem State.onPlan_rings (f : Plan → Plan) : (s.onPlan f).rings = s.rings := rfl
@[simp] theorem State.onPlan_le (f : Plan → Plan) : (s.onPlan f).le = s.le := rfl
@[simp] theorem State.onPlan_joints (f : Plan → Plan) : (s.onPlan f).joints = s.joints := rfl
@[simp] theorem State.onPlan_trace (f : Plan → Plan) : (s.onPlan f).trace = s.trace := rfl
@[simp] theorem State.onPlan_aux (f : Plan → Plan) : (s.onPlan f).aux = s.aux := rfl
@[simp] theorem State.onPlan_plan (f : Plan → Plan) : (s.onPlan f).plan = f s.plan := rfl
@[simp] theorem State.onPlan_per (f : Plan → Plan) : (s.onPlan f).per = s.per := rfl
@[simp] theorem State.onPlan_saf (f : Plan → Plan) : (s.onPlan f).saf = s.saf := rfl
@[simp] theorem State.onPlan_ports (f : Plan → Plan) : (s.onPlan f).ports = s.ports := rfl
@[simp] theorem State.onPlan_cans (f : Plan → Plan) : (s.onPlan f).cans = s.cans := rfl
@[simp] theorem State.onPlan_fab (f : Plan → Plan) : (s.onPlan f).fab = s.fab := rfl
@[simp] theorem State.onPlan_free (f : Plan → Plan) : (s.onPlan f).free = s.free := rfl

/-! ### onPer -/

@[simp] theorem State.onPer_pending (f : Perception → Perception) : (s.onPer f).pending = s.pending := rfl
@[simp] theorem State.onPer_power (f : Perception → Perception) : (s.onPer f).power = s.power := rfl
@[simp] theorem State.onPer_time (f : Perception → Perception) : (s.onPer f).time = s.time := rfl
@[simp] theorem State.onPer_fns (f : Perception → Perception) : (s.onPer f).fns = s.fns := rfl
@[simp] theorem State.onPer_dict (f : Perception → Perception) : (s.onPer f).dict = s.dict := rfl
@[simp] theorem State.onPer_way (f : Perception → Perception) : (s.onPer f).way = s.way := rfl
@[simp] theorem State.onPer_ledger (f : Perception → Perception) : (s.onPer f).ledger = s.ledger := rfl
@[simp] theorem State.onPer_sensors (f : Perception → Perception) : (s.onPer f).sensors = s.sensors := rfl
@[simp] theorem State.onPer_fw (f : Perception → Perception) : (s.onPer f).fw = s.fw := rfl
@[simp] theorem State.onPer_sec (f : Perception → Perception) : (s.onPer f).sec = s.sec := rfl
@[simp] theorem State.onPer_pair (f : Perception → Perception) : (s.onPer f).pair = s.pair := rfl
@[simp] theorem State.onPer_tap (f : Perception → Perception) : (s.onPer f).tap = s.tap := rfl
@[simp] theorem State.onPer_rings (f : Perception → Perception) : (s.onPer f).rings = s.rings := rfl
@[simp] theorem State.onPer_le (f : Perception → Perception) : (s.onPer f).le = s.le := rfl
@[simp] theorem State.onPer_joints (f : Perception → Perception) : (s.onPer f).joints = s.joints := rfl
@[simp] theorem State.onPer_trace (f : Perception → Perception) : (s.onPer f).trace = s.trace := rfl
@[simp] theorem State.onPer_aux (f : Perception → Perception) : (s.onPer f).aux = s.aux := rfl
@[simp] theorem State.onPer_plan (f : Perception → Perception) : (s.onPer f).plan = s.plan := rfl
@[simp] theorem State.onPer_per (f : Perception → Perception) : (s.onPer f).per = f s.per := rfl
@[simp] theorem State.onPer_saf (f : Perception → Perception) : (s.onPer f).saf = s.saf := rfl
@[simp] theorem State.onPer_ports (f : Perception → Perception) : (s.onPer f).ports = s.ports := rfl
@[simp] theorem State.onPer_cans (f : Perception → Perception) : (s.onPer f).cans = s.cans := rfl
@[simp] theorem State.onPer_fab (f : Perception → Perception) : (s.onPer f).fab = s.fab := rfl
@[simp] theorem State.onPer_free (f : Perception → Perception) : (s.onPer f).free = s.free := rfl

/-! ### onSaf -/

@[simp] theorem State.onSaf_pending (f : Safety → Safety) : (s.onSaf f).pending = s.pending := rfl
@[simp] theorem State.onSaf_power (f : Safety → Safety) : (s.onSaf f).power = s.power := rfl
@[simp] theorem State.onSaf_time (f : Safety → Safety) : (s.onSaf f).time = s.time := rfl
@[simp] theorem State.onSaf_fns (f : Safety → Safety) : (s.onSaf f).fns = s.fns := rfl
@[simp] theorem State.onSaf_dict (f : Safety → Safety) : (s.onSaf f).dict = s.dict := rfl
@[simp] theorem State.onSaf_way (f : Safety → Safety) : (s.onSaf f).way = s.way := rfl
@[simp] theorem State.onSaf_ledger (f : Safety → Safety) : (s.onSaf f).ledger = s.ledger := rfl
@[simp] theorem State.onSaf_sensors (f : Safety → Safety) : (s.onSaf f).sensors = s.sensors := rfl
@[simp] theorem State.onSaf_fw (f : Safety → Safety) : (s.onSaf f).fw = s.fw := rfl
@[simp] theorem State.onSaf_sec (f : Safety → Safety) : (s.onSaf f).sec = s.sec := rfl
@[simp] theorem State.onSaf_pair (f : Safety → Safety) : (s.onSaf f).pair = s.pair := rfl
@[simp] theorem State.onSaf_tap (f : Safety → Safety) : (s.onSaf f).tap = s.tap := rfl
@[simp] theorem State.onSaf_rings (f : Safety → Safety) : (s.onSaf f).rings = s.rings := rfl
@[simp] theorem State.onSaf_le (f : Safety → Safety) : (s.onSaf f).le = s.le := rfl
@[simp] theorem State.onSaf_joints (f : Safety → Safety) : (s.onSaf f).joints = s.joints := rfl
@[simp] theorem State.onSaf_trace (f : Safety → Safety) : (s.onSaf f).trace = s.trace := rfl
@[simp] theorem State.onSaf_aux (f : Safety → Safety) : (s.onSaf f).aux = s.aux := rfl
@[simp] theorem State.onSaf_plan (f : Safety → Safety) : (s.onSaf f).plan = s.plan := rfl
@[simp] theorem State.onSaf_per (f : Safety → Safety) : (s.onSaf f).per = s.per := rfl
@[simp] theorem State.onSaf_saf (f : Safety → Safety) : (s.onSaf f).saf = f s.saf := rfl
@[simp] theorem State.onSaf_ports (f : Safety → Safety) : (s.onSaf f).ports = s.ports := rfl
@[simp] theorem State.onSaf_cans (f : Safety → Safety) : (s.onSaf f).cans = s.cans := rfl
@[simp] theorem State.onSaf_fab (f : Safety → Safety) : (s.onSaf f).fab = s.fab := rfl
@[simp] theorem State.onSaf_free (f : Safety → Safety) : (s.onSaf f).free = s.free := rfl

/-! ### onLe -/

@[simp] theorem State.onLe_pending (f : LoopEngines → LoopEngines) : (s.onLe f).pending = s.pending := rfl
@[simp] theorem State.onLe_power (f : LoopEngines → LoopEngines) : (s.onLe f).power = s.power := rfl
@[simp] theorem State.onLe_time (f : LoopEngines → LoopEngines) : (s.onLe f).time = s.time := rfl
@[simp] theorem State.onLe_fns (f : LoopEngines → LoopEngines) : (s.onLe f).fns = s.fns := rfl
@[simp] theorem State.onLe_dict (f : LoopEngines → LoopEngines) : (s.onLe f).dict = s.dict := rfl
@[simp] theorem State.onLe_way (f : LoopEngines → LoopEngines) : (s.onLe f).way = s.way := rfl
@[simp] theorem State.onLe_ledger (f : LoopEngines → LoopEngines) : (s.onLe f).ledger = s.ledger := rfl
@[simp] theorem State.onLe_sensors (f : LoopEngines → LoopEngines) : (s.onLe f).sensors = s.sensors := rfl
@[simp] theorem State.onLe_fw (f : LoopEngines → LoopEngines) : (s.onLe f).fw = s.fw := rfl
@[simp] theorem State.onLe_sec (f : LoopEngines → LoopEngines) : (s.onLe f).sec = s.sec := rfl
@[simp] theorem State.onLe_pair (f : LoopEngines → LoopEngines) : (s.onLe f).pair = s.pair := rfl
@[simp] theorem State.onLe_tap (f : LoopEngines → LoopEngines) : (s.onLe f).tap = s.tap := rfl
@[simp] theorem State.onLe_rings (f : LoopEngines → LoopEngines) : (s.onLe f).rings = s.rings := rfl
@[simp] theorem State.onLe_le (f : LoopEngines → LoopEngines) : (s.onLe f).le = f s.le := rfl
@[simp] theorem State.onLe_joints (f : LoopEngines → LoopEngines) : (s.onLe f).joints = s.joints := rfl
@[simp] theorem State.onLe_trace (f : LoopEngines → LoopEngines) : (s.onLe f).trace = s.trace := rfl
@[simp] theorem State.onLe_aux (f : LoopEngines → LoopEngines) : (s.onLe f).aux = s.aux := rfl
@[simp] theorem State.onLe_plan (f : LoopEngines → LoopEngines) : (s.onLe f).plan = s.plan := rfl
@[simp] theorem State.onLe_per (f : LoopEngines → LoopEngines) : (s.onLe f).per = s.per := rfl
@[simp] theorem State.onLe_saf (f : LoopEngines → LoopEngines) : (s.onLe f).saf = s.saf := rfl
@[simp] theorem State.onLe_ports (f : LoopEngines → LoopEngines) : (s.onLe f).ports = s.ports := rfl
@[simp] theorem State.onLe_cans (f : LoopEngines → LoopEngines) : (s.onLe f).cans = s.cans := rfl
@[simp] theorem State.onLe_fab (f : LoopEngines → LoopEngines) : (s.onLe f).fab = s.fab := rfl
@[simp] theorem State.onLe_free (f : LoopEngines → LoopEngines) : (s.onLe f).free = s.free := rfl

/-! ### onTrace -/

@[simp] theorem State.onTrace_pending (f : Trace → Trace) : (s.onTrace f).pending = s.pending := rfl
@[simp] theorem State.onTrace_power (f : Trace → Trace) : (s.onTrace f).power = s.power := rfl
@[simp] theorem State.onTrace_time (f : Trace → Trace) : (s.onTrace f).time = s.time := rfl
@[simp] theorem State.onTrace_fns (f : Trace → Trace) : (s.onTrace f).fns = s.fns := rfl
@[simp] theorem State.onTrace_dict (f : Trace → Trace) : (s.onTrace f).dict = s.dict := rfl
@[simp] theorem State.onTrace_way (f : Trace → Trace) : (s.onTrace f).way = s.way := rfl
@[simp] theorem State.onTrace_ledger (f : Trace → Trace) : (s.onTrace f).ledger = s.ledger := rfl
@[simp] theorem State.onTrace_sensors (f : Trace → Trace) : (s.onTrace f).sensors = s.sensors := rfl
@[simp] theorem State.onTrace_fw (f : Trace → Trace) : (s.onTrace f).fw = s.fw := rfl
@[simp] theorem State.onTrace_sec (f : Trace → Trace) : (s.onTrace f).sec = s.sec := rfl
@[simp] theorem State.onTrace_pair (f : Trace → Trace) : (s.onTrace f).pair = s.pair := rfl
@[simp] theorem State.onTrace_tap (f : Trace → Trace) : (s.onTrace f).tap = s.tap := rfl
@[simp] theorem State.onTrace_rings (f : Trace → Trace) : (s.onTrace f).rings = s.rings := rfl
@[simp] theorem State.onTrace_le (f : Trace → Trace) : (s.onTrace f).le = s.le := rfl
@[simp] theorem State.onTrace_joints (f : Trace → Trace) : (s.onTrace f).joints = s.joints := rfl
@[simp] theorem State.onTrace_trace (f : Trace → Trace) : (s.onTrace f).trace = f s.trace := rfl
@[simp] theorem State.onTrace_aux (f : Trace → Trace) : (s.onTrace f).aux = s.aux := rfl
@[simp] theorem State.onTrace_plan (f : Trace → Trace) : (s.onTrace f).plan = s.plan := rfl
@[simp] theorem State.onTrace_per (f : Trace → Trace) : (s.onTrace f).per = s.per := rfl
@[simp] theorem State.onTrace_saf (f : Trace → Trace) : (s.onTrace f).saf = s.saf := rfl
@[simp] theorem State.onTrace_ports (f : Trace → Trace) : (s.onTrace f).ports = s.ports := rfl
@[simp] theorem State.onTrace_cans (f : Trace → Trace) : (s.onTrace f).cans = s.cans := rfl
@[simp] theorem State.onTrace_fab (f : Trace → Trace) : (s.onTrace f).fab = s.fab := rfl
@[simp] theorem State.onTrace_free (f : Trace → Trace) : (s.onTrace f).free = s.free := rfl

/-! ### onAux -/

@[simp] theorem State.onAux_pending (f : AuxUnit → AuxUnit) : (s.onAux f).pending = s.pending := rfl
@[simp] theorem State.onAux_power (f : AuxUnit → AuxUnit) : (s.onAux f).power = s.power := rfl
@[simp] theorem State.onAux_time (f : AuxUnit → AuxUnit) : (s.onAux f).time = s.time := rfl
@[simp] theorem State.onAux_fns (f : AuxUnit → AuxUnit) : (s.onAux f).fns = s.fns := rfl
@[simp] theorem State.onAux_dict (f : AuxUnit → AuxUnit) : (s.onAux f).dict = s.dict := rfl
@[simp] theorem State.onAux_way (f : AuxUnit → AuxUnit) : (s.onAux f).way = s.way := rfl
@[simp] theorem State.onAux_ledger (f : AuxUnit → AuxUnit) : (s.onAux f).ledger = s.ledger := rfl
@[simp] theorem State.onAux_sensors (f : AuxUnit → AuxUnit) : (s.onAux f).sensors = s.sensors := rfl
@[simp] theorem State.onAux_fw (f : AuxUnit → AuxUnit) : (s.onAux f).fw = s.fw := rfl
@[simp] theorem State.onAux_sec (f : AuxUnit → AuxUnit) : (s.onAux f).sec = s.sec := rfl
@[simp] theorem State.onAux_pair (f : AuxUnit → AuxUnit) : (s.onAux f).pair = s.pair := rfl
@[simp] theorem State.onAux_tap (f : AuxUnit → AuxUnit) : (s.onAux f).tap = s.tap := rfl
@[simp] theorem State.onAux_rings (f : AuxUnit → AuxUnit) : (s.onAux f).rings = s.rings := rfl
@[simp] theorem State.onAux_le (f : AuxUnit → AuxUnit) : (s.onAux f).le = s.le := rfl
@[simp] theorem State.onAux_joints (f : AuxUnit → AuxUnit) : (s.onAux f).joints = s.joints := rfl
@[simp] theorem State.onAux_trace (f : AuxUnit → AuxUnit) : (s.onAux f).trace = s.trace := rfl
@[simp] theorem State.onAux_aux (f : AuxUnit → AuxUnit) : (s.onAux f).aux = f s.aux := rfl
@[simp] theorem State.onAux_plan (f : AuxUnit → AuxUnit) : (s.onAux f).plan = s.plan := rfl
@[simp] theorem State.onAux_per (f : AuxUnit → AuxUnit) : (s.onAux f).per = s.per := rfl
@[simp] theorem State.onAux_saf (f : AuxUnit → AuxUnit) : (s.onAux f).saf = s.saf := rfl
@[simp] theorem State.onAux_ports (f : AuxUnit → AuxUnit) : (s.onAux f).ports = s.ports := rfl
@[simp] theorem State.onAux_cans (f : AuxUnit → AuxUnit) : (s.onAux f).cans = s.cans := rfl
@[simp] theorem State.onAux_fab (f : AuxUnit → AuxUnit) : (s.onAux f).fab = s.fab := rfl
@[simp] theorem State.onAux_free (f : AuxUnit → AuxUnit) : (s.onAux f).free = s.free := rfl

/-! ### onFab -/

@[simp] theorem State.onFab_pending (f : Fabric → Fabric) : (s.onFab f).pending = s.pending := rfl
@[simp] theorem State.onFab_power (f : Fabric → Fabric) : (s.onFab f).power = s.power := rfl
@[simp] theorem State.onFab_time (f : Fabric → Fabric) : (s.onFab f).time = s.time := rfl
@[simp] theorem State.onFab_fns (f : Fabric → Fabric) : (s.onFab f).fns = s.fns := rfl
@[simp] theorem State.onFab_dict (f : Fabric → Fabric) : (s.onFab f).dict = s.dict := rfl
@[simp] theorem State.onFab_way (f : Fabric → Fabric) : (s.onFab f).way = s.way := rfl
@[simp] theorem State.onFab_ledger (f : Fabric → Fabric) : (s.onFab f).ledger = s.ledger := rfl
@[simp] theorem State.onFab_sensors (f : Fabric → Fabric) : (s.onFab f).sensors = s.sensors := rfl
@[simp] theorem State.onFab_fw (f : Fabric → Fabric) : (s.onFab f).fw = s.fw := rfl
@[simp] theorem State.onFab_sec (f : Fabric → Fabric) : (s.onFab f).sec = s.sec := rfl
@[simp] theorem State.onFab_pair (f : Fabric → Fabric) : (s.onFab f).pair = s.pair := rfl
@[simp] theorem State.onFab_tap (f : Fabric → Fabric) : (s.onFab f).tap = s.tap := rfl
@[simp] theorem State.onFab_rings (f : Fabric → Fabric) : (s.onFab f).rings = s.rings := rfl
@[simp] theorem State.onFab_le (f : Fabric → Fabric) : (s.onFab f).le = s.le := rfl
@[simp] theorem State.onFab_joints (f : Fabric → Fabric) : (s.onFab f).joints = s.joints := rfl
@[simp] theorem State.onFab_trace (f : Fabric → Fabric) : (s.onFab f).trace = s.trace := rfl
@[simp] theorem State.onFab_aux (f : Fabric → Fabric) : (s.onFab f).aux = s.aux := rfl
@[simp] theorem State.onFab_plan (f : Fabric → Fabric) : (s.onFab f).plan = s.plan := rfl
@[simp] theorem State.onFab_per (f : Fabric → Fabric) : (s.onFab f).per = s.per := rfl
@[simp] theorem State.onFab_saf (f : Fabric → Fabric) : (s.onFab f).saf = s.saf := rfl
@[simp] theorem State.onFab_ports (f : Fabric → Fabric) : (s.onFab f).ports = s.ports := rfl
@[simp] theorem State.onFab_cans (f : Fabric → Fabric) : (s.onFab f).cans = s.cans := rfl
@[simp] theorem State.onFab_fab (f : Fabric → Fabric) : (s.onFab f).fab = f s.fab := rfl
@[simp] theorem State.onFab_free (f : Fabric → Fabric) : (s.onFab f).free = s.free := rfl

/-! ### onRing -/

@[simp] theorem State.onRing_pending (n : Nat) (f : Ring → Ring) : (s.onRing n f).pending = s.pending := rfl
@[simp] theorem State.onRing_power (n : Nat) (f : Ring → Ring) : (s.onRing n f).power = s.power := rfl
@[simp] theorem State.onRing_time (n : Nat) (f : Ring → Ring) : (s.onRing n f).time = s.time := rfl
@[simp] theorem State.onRing_fns (n : Nat) (f : Ring → Ring) : (s.onRing n f).fns = s.fns := rfl
@[simp] theorem State.onRing_dict (n : Nat) (f : Ring → Ring) : (s.onRing n f).dict = s.dict := rfl
@[simp] theorem State.onRing_way (n : Nat) (f : Ring → Ring) : (s.onRing n f).way = s.way := rfl
@[simp] theorem State.onRing_ledger (n : Nat) (f : Ring → Ring) : (s.onRing n f).ledger = s.ledger := rfl
@[simp] theorem State.onRing_sensors (n : Nat) (f : Ring → Ring) : (s.onRing n f).sensors = s.sensors := rfl
@[simp] theorem State.onRing_fw (n : Nat) (f : Ring → Ring) : (s.onRing n f).fw = s.fw := rfl
@[simp] theorem State.onRing_sec (n : Nat) (f : Ring → Ring) : (s.onRing n f).sec = s.sec := rfl
@[simp] theorem State.onRing_pair (n : Nat) (f : Ring → Ring) : (s.onRing n f).pair = s.pair := rfl
@[simp] theorem State.onRing_tap (n : Nat) (f : Ring → Ring) : (s.onRing n f).tap = s.tap := rfl
@[simp] theorem State.onRing_rings (n : Nat) (f : Ring → Ring) : (s.onRing n f).rings = upd s.rings n f := rfl
@[simp] theorem State.onRing_le (n : Nat) (f : Ring → Ring) : (s.onRing n f).le = s.le := rfl
@[simp] theorem State.onRing_joints (n : Nat) (f : Ring → Ring) : (s.onRing n f).joints = s.joints := rfl
@[simp] theorem State.onRing_trace (n : Nat) (f : Ring → Ring) : (s.onRing n f).trace = s.trace := rfl
@[simp] theorem State.onRing_aux (n : Nat) (f : Ring → Ring) : (s.onRing n f).aux = s.aux := rfl
@[simp] theorem State.onRing_plan (n : Nat) (f : Ring → Ring) : (s.onRing n f).plan = s.plan := rfl
@[simp] theorem State.onRing_per (n : Nat) (f : Ring → Ring) : (s.onRing n f).per = s.per := rfl
@[simp] theorem State.onRing_saf (n : Nat) (f : Ring → Ring) : (s.onRing n f).saf = s.saf := rfl
@[simp] theorem State.onRing_ports (n : Nat) (f : Ring → Ring) : (s.onRing n f).ports = s.ports := rfl
@[simp] theorem State.onRing_cans (n : Nat) (f : Ring → Ring) : (s.onRing n f).cans = s.cans := rfl
@[simp] theorem State.onRing_fab (n : Nat) (f : Ring → Ring) : (s.onRing n f).fab = s.fab := rfl
@[simp] theorem State.onRing_free (n : Nat) (f : Ring → Ring) : (s.onRing n f).free = s.free := rfl

/-! ### onJoint -/

@[simp] theorem State.onJoint_pending (n : Nat) (f : Joint → Joint) : (s.onJoint n f).pending = s.pending := rfl
@[simp] theorem State.onJoint_power (n : Nat) (f : Joint → Joint) : (s.onJoint n f).power = s.power := rfl
@[simp] theorem State.onJoint_time (n : Nat) (f : Joint → Joint) : (s.onJoint n f).time = s.time := rfl
@[simp] theorem State.onJoint_fns (n : Nat) (f : Joint → Joint) : (s.onJoint n f).fns = s.fns := rfl
@[simp] theorem State.onJoint_dict (n : Nat) (f : Joint → Joint) : (s.onJoint n f).dict = s.dict := rfl
@[simp] theorem State.onJoint_way (n : Nat) (f : Joint → Joint) : (s.onJoint n f).way = s.way := rfl
@[simp] theorem State.onJoint_ledger (n : Nat) (f : Joint → Joint) : (s.onJoint n f).ledger = s.ledger := rfl
@[simp] theorem State.onJoint_sensors (n : Nat) (f : Joint → Joint) : (s.onJoint n f).sensors = s.sensors := rfl
@[simp] theorem State.onJoint_fw (n : Nat) (f : Joint → Joint) : (s.onJoint n f).fw = s.fw := rfl
@[simp] theorem State.onJoint_sec (n : Nat) (f : Joint → Joint) : (s.onJoint n f).sec = s.sec := rfl
@[simp] theorem State.onJoint_pair (n : Nat) (f : Joint → Joint) : (s.onJoint n f).pair = s.pair := rfl
@[simp] theorem State.onJoint_tap (n : Nat) (f : Joint → Joint) : (s.onJoint n f).tap = s.tap := rfl
@[simp] theorem State.onJoint_rings (n : Nat) (f : Joint → Joint) : (s.onJoint n f).rings = s.rings := rfl
@[simp] theorem State.onJoint_le (n : Nat) (f : Joint → Joint) : (s.onJoint n f).le = s.le := rfl
@[simp] theorem State.onJoint_joints (n : Nat) (f : Joint → Joint) : (s.onJoint n f).joints = upd s.joints n f := rfl
@[simp] theorem State.onJoint_trace (n : Nat) (f : Joint → Joint) : (s.onJoint n f).trace = s.trace := rfl
@[simp] theorem State.onJoint_aux (n : Nat) (f : Joint → Joint) : (s.onJoint n f).aux = s.aux := rfl
@[simp] theorem State.onJoint_plan (n : Nat) (f : Joint → Joint) : (s.onJoint n f).plan = s.plan := rfl
@[simp] theorem State.onJoint_per (n : Nat) (f : Joint → Joint) : (s.onJoint n f).per = s.per := rfl
@[simp] theorem State.onJoint_saf (n : Nat) (f : Joint → Joint) : (s.onJoint n f).saf = s.saf := rfl
@[simp] theorem State.onJoint_ports (n : Nat) (f : Joint → Joint) : (s.onJoint n f).ports = s.ports := rfl
@[simp] theorem State.onJoint_cans (n : Nat) (f : Joint → Joint) : (s.onJoint n f).cans = s.cans := rfl
@[simp] theorem State.onJoint_fab (n : Nat) (f : Joint → Joint) : (s.onJoint n f).fab = s.fab := rfl
@[simp] theorem State.onJoint_free (n : Nat) (f : Joint → Joint) : (s.onJoint n f).free = s.free := rfl

/-! ### onPort -/

@[simp] theorem State.onPort_pending (n : Nat) (f : HostPort → HostPort) : (s.onPort n f).pending = s.pending := rfl
@[simp] theorem State.onPort_power (n : Nat) (f : HostPort → HostPort) : (s.onPort n f).power = s.power := rfl
@[simp] theorem State.onPort_time (n : Nat) (f : HostPort → HostPort) : (s.onPort n f).time = s.time := rfl
@[simp] theorem State.onPort_fns (n : Nat) (f : HostPort → HostPort) : (s.onPort n f).fns = s.fns := rfl
@[simp] theorem State.onPort_dict (n : Nat) (f : HostPort → HostPort) : (s.onPort n f).dict = s.dict := rfl
@[simp] theorem State.onPort_way (n : Nat) (f : HostPort → HostPort) : (s.onPort n f).way = s.way := rfl
@[simp] theorem State.onPort_ledger (n : Nat) (f : HostPort → HostPort) : (s.onPort n f).ledger = s.ledger := rfl
@[simp] theorem State.onPort_sensors (n : Nat) (f : HostPort → HostPort) : (s.onPort n f).sensors = s.sensors := rfl
@[simp] theorem State.onPort_fw (n : Nat) (f : HostPort → HostPort) : (s.onPort n f).fw = s.fw := rfl
@[simp] theorem State.onPort_sec (n : Nat) (f : HostPort → HostPort) : (s.onPort n f).sec = s.sec := rfl
@[simp] theorem State.onPort_pair (n : Nat) (f : HostPort → HostPort) : (s.onPort n f).pair = s.pair := rfl
@[simp] theorem State.onPort_tap (n : Nat) (f : HostPort → HostPort) : (s.onPort n f).tap = s.tap := rfl
@[simp] theorem State.onPort_rings (n : Nat) (f : HostPort → HostPort) : (s.onPort n f).rings = s.rings := rfl
@[simp] theorem State.onPort_le (n : Nat) (f : HostPort → HostPort) : (s.onPort n f).le = s.le := rfl
@[simp] theorem State.onPort_joints (n : Nat) (f : HostPort → HostPort) : (s.onPort n f).joints = s.joints := rfl
@[simp] theorem State.onPort_trace (n : Nat) (f : HostPort → HostPort) : (s.onPort n f).trace = s.trace := rfl
@[simp] theorem State.onPort_aux (n : Nat) (f : HostPort → HostPort) : (s.onPort n f).aux = s.aux := rfl
@[simp] theorem State.onPort_plan (n : Nat) (f : HostPort → HostPort) : (s.onPort n f).plan = s.plan := rfl
@[simp] theorem State.onPort_per (n : Nat) (f : HostPort → HostPort) : (s.onPort n f).per = s.per := rfl
@[simp] theorem State.onPort_saf (n : Nat) (f : HostPort → HostPort) : (s.onPort n f).saf = s.saf := rfl
@[simp] theorem State.onPort_ports (n : Nat) (f : HostPort → HostPort) : (s.onPort n f).ports = upd s.ports n f := rfl
@[simp] theorem State.onPort_cans (n : Nat) (f : HostPort → HostPort) : (s.onPort n f).cans = s.cans := rfl
@[simp] theorem State.onPort_fab (n : Nat) (f : HostPort → HostPort) : (s.onPort n f).fab = s.fab := rfl
@[simp] theorem State.onPort_free (n : Nat) (f : HostPort → HostPort) : (s.onPort n f).free = s.free := rfl

/-! ### onCan -/

@[simp] theorem State.onCan_pending (n : Nat) (f : Can → Can) : (s.onCan n f).pending = s.pending := rfl
@[simp] theorem State.onCan_power (n : Nat) (f : Can → Can) : (s.onCan n f).power = s.power := rfl
@[simp] theorem State.onCan_time (n : Nat) (f : Can → Can) : (s.onCan n f).time = s.time := rfl
@[simp] theorem State.onCan_fns (n : Nat) (f : Can → Can) : (s.onCan n f).fns = s.fns := rfl
@[simp] theorem State.onCan_dict (n : Nat) (f : Can → Can) : (s.onCan n f).dict = s.dict := rfl
@[simp] theorem State.onCan_way (n : Nat) (f : Can → Can) : (s.onCan n f).way = s.way := rfl
@[simp] theorem State.onCan_ledger (n : Nat) (f : Can → Can) : (s.onCan n f).ledger = s.ledger := rfl
@[simp] theorem State.onCan_sensors (n : Nat) (f : Can → Can) : (s.onCan n f).sensors = s.sensors := rfl
@[simp] theorem State.onCan_fw (n : Nat) (f : Can → Can) : (s.onCan n f).fw = s.fw := rfl
@[simp] theorem State.onCan_sec (n : Nat) (f : Can → Can) : (s.onCan n f).sec = s.sec := rfl
@[simp] theorem State.onCan_pair (n : Nat) (f : Can → Can) : (s.onCan n f).pair = s.pair := rfl
@[simp] theorem State.onCan_tap (n : Nat) (f : Can → Can) : (s.onCan n f).tap = s.tap := rfl
@[simp] theorem State.onCan_rings (n : Nat) (f : Can → Can) : (s.onCan n f).rings = s.rings := rfl
@[simp] theorem State.onCan_le (n : Nat) (f : Can → Can) : (s.onCan n f).le = s.le := rfl
@[simp] theorem State.onCan_joints (n : Nat) (f : Can → Can) : (s.onCan n f).joints = s.joints := rfl
@[simp] theorem State.onCan_trace (n : Nat) (f : Can → Can) : (s.onCan n f).trace = s.trace := rfl
@[simp] theorem State.onCan_aux (n : Nat) (f : Can → Can) : (s.onCan n f).aux = s.aux := rfl
@[simp] theorem State.onCan_plan (n : Nat) (f : Can → Can) : (s.onCan n f).plan = s.plan := rfl
@[simp] theorem State.onCan_per (n : Nat) (f : Can → Can) : (s.onCan n f).per = s.per := rfl
@[simp] theorem State.onCan_saf (n : Nat) (f : Can → Can) : (s.onCan n f).saf = s.saf := rfl
@[simp] theorem State.onCan_ports (n : Nat) (f : Can → Can) : (s.onCan n f).ports = s.ports := rfl
@[simp] theorem State.onCan_cans (n : Nat) (f : Can → Can) : (s.onCan n f).cans = upd s.cans n f := rfl
@[simp] theorem State.onCan_fab (n : Nat) (f : Can → Can) : (s.onCan n f).fab = s.fab := rfl
@[simp] theorem State.onCan_free (n : Nat) (f : Can → Can) : (s.onCan n f).free = s.free := rfl

/-! ### setFn -/

@[simp] theorem State.setFn_pending (g : Fn) (st : FnState) : (s.setFn g st).pending = s.pending := rfl
@[simp] theorem State.setFn_power (g : Fn) (st : FnState) : (s.setFn g st).power = s.power := rfl
@[simp] theorem State.setFn_time (g : Fn) (st : FnState) : (s.setFn g st).time = s.time := rfl
@[simp] theorem State.setFn_fns (g : Fn) (st : FnState) : (s.setFn g st).fns = upd s.fns g.slot fun r => { r with st := st } := rfl
@[simp] theorem State.setFn_dict (g : Fn) (st : FnState) : (s.setFn g st).dict = s.dict := rfl
@[simp] theorem State.setFn_way (g : Fn) (st : FnState) : (s.setFn g st).way = s.way := rfl
@[simp] theorem State.setFn_ledger (g : Fn) (st : FnState) : (s.setFn g st).ledger = s.ledger := rfl
@[simp] theorem State.setFn_sensors (g : Fn) (st : FnState) : (s.setFn g st).sensors = s.sensors := rfl
@[simp] theorem State.setFn_fw (g : Fn) (st : FnState) : (s.setFn g st).fw = s.fw := rfl
@[simp] theorem State.setFn_sec (g : Fn) (st : FnState) : (s.setFn g st).sec = s.sec := rfl
@[simp] theorem State.setFn_pair (g : Fn) (st : FnState) : (s.setFn g st).pair = s.pair := rfl
@[simp] theorem State.setFn_tap (g : Fn) (st : FnState) : (s.setFn g st).tap = s.tap := rfl
@[simp] theorem State.setFn_rings (g : Fn) (st : FnState) : (s.setFn g st).rings = s.rings := rfl
@[simp] theorem State.setFn_le (g : Fn) (st : FnState) : (s.setFn g st).le = s.le := rfl
@[simp] theorem State.setFn_joints (g : Fn) (st : FnState) : (s.setFn g st).joints = s.joints := rfl
@[simp] theorem State.setFn_trace (g : Fn) (st : FnState) : (s.setFn g st).trace = s.trace := rfl
@[simp] theorem State.setFn_aux (g : Fn) (st : FnState) : (s.setFn g st).aux = s.aux := rfl
@[simp] theorem State.setFn_plan (g : Fn) (st : FnState) : (s.setFn g st).plan = s.plan := rfl
@[simp] theorem State.setFn_per (g : Fn) (st : FnState) : (s.setFn g st).per = s.per := rfl
@[simp] theorem State.setFn_saf (g : Fn) (st : FnState) : (s.setFn g st).saf = s.saf := rfl
@[simp] theorem State.setFn_ports (g : Fn) (st : FnState) : (s.setFn g st).ports = s.ports := rfl
@[simp] theorem State.setFn_cans (g : Fn) (st : FnState) : (s.setFn g st).cans = s.cans := rfl
@[simp] theorem State.setFn_fab (g : Fn) (st : FnState) : (s.setFn g st).fab = s.fab := rfl
@[simp] theorem State.setFn_free (g : Fn) (st : FnState) : (s.setFn g st).free = s.free := rfl

/-! ### setFnRec -/

@[simp] theorem State.setFnRec_pending (g : Fn) (r : FnRec) : (s.setFnRec g r).pending = s.pending := rfl
@[simp] theorem State.setFnRec_power (g : Fn) (r : FnRec) : (s.setFnRec g r).power = s.power := rfl
@[simp] theorem State.setFnRec_time (g : Fn) (r : FnRec) : (s.setFnRec g r).time = s.time := rfl
@[simp] theorem State.setFnRec_fns (g : Fn) (r : FnRec) : (s.setFnRec g r).fns = upd s.fns g.slot fun _ => r := rfl
@[simp] theorem State.setFnRec_dict (g : Fn) (r : FnRec) : (s.setFnRec g r).dict = s.dict := rfl
@[simp] theorem State.setFnRec_way (g : Fn) (r : FnRec) : (s.setFnRec g r).way = s.way := rfl
@[simp] theorem State.setFnRec_ledger (g : Fn) (r : FnRec) : (s.setFnRec g r).ledger = s.ledger := rfl
@[simp] theorem State.setFnRec_sensors (g : Fn) (r : FnRec) : (s.setFnRec g r).sensors = s.sensors := rfl
@[simp] theorem State.setFnRec_fw (g : Fn) (r : FnRec) : (s.setFnRec g r).fw = s.fw := rfl
@[simp] theorem State.setFnRec_sec (g : Fn) (r : FnRec) : (s.setFnRec g r).sec = s.sec := rfl
@[simp] theorem State.setFnRec_pair (g : Fn) (r : FnRec) : (s.setFnRec g r).pair = s.pair := rfl
@[simp] theorem State.setFnRec_tap (g : Fn) (r : FnRec) : (s.setFnRec g r).tap = s.tap := rfl
@[simp] theorem State.setFnRec_rings (g : Fn) (r : FnRec) : (s.setFnRec g r).rings = s.rings := rfl
@[simp] theorem State.setFnRec_le (g : Fn) (r : FnRec) : (s.setFnRec g r).le = s.le := rfl
@[simp] theorem State.setFnRec_joints (g : Fn) (r : FnRec) : (s.setFnRec g r).joints = s.joints := rfl
@[simp] theorem State.setFnRec_trace (g : Fn) (r : FnRec) : (s.setFnRec g r).trace = s.trace := rfl
@[simp] theorem State.setFnRec_aux (g : Fn) (r : FnRec) : (s.setFnRec g r).aux = s.aux := rfl
@[simp] theorem State.setFnRec_plan (g : Fn) (r : FnRec) : (s.setFnRec g r).plan = s.plan := rfl
@[simp] theorem State.setFnRec_per (g : Fn) (r : FnRec) : (s.setFnRec g r).per = s.per := rfl
@[simp] theorem State.setFnRec_saf (g : Fn) (r : FnRec) : (s.setFnRec g r).saf = s.saf := rfl
@[simp] theorem State.setFnRec_ports (g : Fn) (r : FnRec) : (s.setFnRec g r).ports = s.ports := rfl
@[simp] theorem State.setFnRec_cans (g : Fn) (r : FnRec) : (s.setFnRec g r).cans = s.cans := rfl
@[simp] theorem State.setFnRec_fab (g : Fn) (r : FnRec) : (s.setFnRec g r).fab = s.fab := rfl
@[simp] theorem State.setFnRec_free (g : Fn) (r : FnRec) : (s.setFnRec g r).free = s.free := rfl

end Sys2Proof.Machine
end

