-- ==== Sys2Proof/WellFormed.lean ====
section
/-! DEFINITION. Well-formed commands: every operand has a value that its field, its message or the part's instance numbers can hold
(spec/00_scope.md Table 00-3, spec/03_object_dictionary.md Tables 03-9, 03-10, 03-23, spec/08_loop_engine.md Tables 08-8 to 08-13). -/

namespace Sys2Proof

open Machine

/-- A number fits an unsigned field of `w` bits. -/
def fits (w v : Nat) : Bool := decide (v < 2 ^ w)

/-- A header as a message can carry it (Table 03-9), from one of the six endpoints (R121, R137). -/
def Hdr.ok (h : Hdr) : Bool :=
  fits 8 h.version && fits 16 h.session && fits 32 h.seq && fits 8 h.flags && fits 16 h.len && fits 16 h.rsvd &&
  h.tag.length == 16 && decide (h.src.port < 6) && fits 128 h.src.addr && fits 16 h.src.udp

/-- A motion command record (Table 03-23). -/
def Motion.ok (m : Motion) : Bool :=
  fits 8 m.rsvd1 && fits 16 m.mask && fits 32 m.ident && fits 16 m.target && fits 16 m.speed && fits 16 m.accel &&
  fits 16 m.blend && fits 64 m.start && fits 32 m.after && fits 32 m.rsvd28

/-- One reading for each sensor and each monitor (R731). -/
def Readings.ok (r : Readings) : Bool := r.temps.length == 24 && r.volts.length == 16 && (r.temps.all fun l => l.length == 16) && r.volts.all fun l => l.length == 16

/-- A parallel move (Table 08-10). -/
def parOk (m : Option ParMove) : Bool := match m with | some p => decide (p.ptr ≤ 3) && fits 2 p.md && fits 2 p.reg | none => true

/-- A CAN frame (ISO 11898-1). -/
def CanFrame.ok (f : CanFrame) : Bool := fits 32 f.ident && decide (f.dlc ≤ 15) && decide (f.data.length ≤ 64)

/-- A PTP message (IEEE 1588-2019). -/
def PtpMsg.ok (m : PtpMsg) : Bool :=
  fits 4 m.kind && fits 8 m.domain && fits 80 m.src && fits 16 m.seq && fits 48 m.sec && fits 32 m.ns && fits 80 m.req &&
  decide (m.transport ≤ 2)

/-- A Bazaar access (R696): a requester of Table 17-5 and at least one word. -/
def FabricReq.ok (x : FabricReq) : Bool := decide (x.req ≤ 16) && !x.words.isEmpty && decide (x.ecc ≤ 2)

/-- The command is well-formed. -/
def wellFormed (i : Instr) : Bool :=
  match i with
  | .companionResetRelease => true
  | .powerGoodTimeout => true
  | .mainPwrEnRetry => true
  | .mainPgoodRise => true
  | .mainResetRelease => true
  | .pllLock => true
  | .sramClearDone => true
  | .resetOutRelease => true
  | .companionRailFail => true
  | .sysReset => true
  | .mainPgoodFall _ => true
  | .companionClockFault => true
  | .clockMonitorFault _ => true
  | .cm2ShortDelay => true
  | .watchdogExpiry => true
  | .wake => true
  | .mramSupplyLow => true
  | .sensorReadingUpdate r => r.ok
  | .thermalShutdown _ => true
  | .tamper _ => true
  | .bootRomVerify => true
  | .autoStart => true
  | .openSession h slot pad nonce => h.ok && fits 8 slot && pad.length == 15 && nonce.length == 16
  | .close h => h.ok
  | .read h idx sub => h.ok && fits 16 idx && fits 8 sub
  | .write h idx sub value => h.ok && fits 16 idx && fits 8 sub && decide (value.length ≤ 1028)
  | .segReadInit h idx sub => h.ok && fits 16 idx && fits 8 sub
  | .segRead h offset => h.ok && fits 32 offset
  | .segWriteInit h idx sub total => h.ok && fits 16 idx && fits 8 sub && fits 32 total
  | .segWrite h offset value => h.ok && fits 32 offset && decide (value.length ≤ 1024)
  | .segAbort h => h.ok
  | .domainContentCheckDone session => fits 16 session
  | .sessionConfirmTimeout session => fits 16 session
  | .sessionIdleTimeout session => fits 16 session
  | .segmentTimeout session => fits 16 session
  | .start f h => f.exists && h.ok
  | .stop f h => f.exists && h.ok
  | .clear f h => f.exists && h.ok
  | .startChecksComplete f => f.exists
  | .startLimitExpiry f => f.exists
  | .stopSequenceComplete f => f.exists
  | .store h => h.ok
  | .storeComplete _ => true
  | .restoreDefaults h => h.ok
  | .mainResetRequest h => h.ok
  | .deviceResetRequest h => h.ok
  | .powerModeRun h => h.ok
  | .powerModeDoze h => h.ok
  | .powerModeComputeOff h => h.ok
  | .powerModeMainOff h => h.ok
  | .computeWakeDone => true
  | .boardCycleStart => true
  | .ringCycleStart _ => true
  | .headReturn _ _ _ _ => true
  | .pannierReturn _ position _ _ => decide (position < 128)
  | .trailerReturn _ _ _ => true
  | .ringLost _ => true
  | .courierFrameReceived _ _ _ _ => true
  | .nodeServiceTimeout _ addr => inRange 1 32 addr
  | .portReceiveSyncLoss _ _ => true
  | .unfoldRequest _ h => h.ok
  | .snapshot _ arg target h => fits 8 arg && fits 48 target && h.ok
  | .outputReset _ arg target h => fits 8 arg && fits 48 target && h.ok
  | .mode _ arg target h => fits 8 arg && fits 48 target && h.ok
  | .barrierRequest _ ident h => fits 16 ident && h.ok
  | .trackingHeadReceived _ _ _ _ => true
  | .regulatorStep sec ns h => fits 64 sec && fits 32 ns && h.ok
  | .incrementWrite value h => fits 64 value && h.ok
  | .ppsEdge _ => true
  | .disciplineHoldoverTimeout => true
  | .announceTimeout => true
  | .timePairLatch => true
  | .heldItemEntry => true
  | .itemDispatch _ => true
  | .contextFill _ => true
  | .itemCompletion _ _ => true
  | .gateHeldPost _ => true
  | .delayListTick _ => true
  | .gateWaitTimeout _ => true
  | .eventRaise ev h => fits 16 ev && h.ok
  | .eventClear ev h => fits 16 ev && h.ok
  | .waystationStatusClear mask h => fits 8 mask && h.ok
  | .preemptSwitch _ => true
  | .executionLimit _ => true
  | .writeBackEnd _ => true
  | .leMemoryError _ _ => true
  | .debugEnableWrite value h => fits 8 value && h.ok
  | .nop _ => true
  | .done _ g _ => decide (g ≤ 64)
  | .rts _ => true
  | .rep _ n => fits 12 n
  | .loop _ len n => inRange 1 32 len && inRange 1 4095 n
  | .lexit _ => true
  | .bkpt _ => true
  | .bra _ cond target => decide (cond ≤ 17) && fits 13 target
  | .bsr _ cond target => decide (cond ≤ 17) && fits 13 target
  | .moveImmediate _ dst value _ => regWritable dst && fits 24 value
  | .moveAbsolute _ _ store reg addr => (if store then regReadable reg else regWritable reg) && fits 14 addr
  | .moveIndirect _ _ store reg ptr md => (if store then regReadable reg else regWritable reg) && fits 3 ptr && fits 2 md
  | .move _ dst src => regWritable dst && regReadable src
  | .shln _ _ n => inRange 1 55 n
  | .shrn _ _ n => inRange 1 55 n
  | .addp _ ptr off => fits 3 ptr && fits 14 off
  | .post _ flow list ptr => fits 10 flow && fits 2 list && fits 3 ptr
  | .evr _ v => fits 5 v
  | .get _ dst _ ptr md addr => regWritable dst && fits 3 ptr && fits 2 md && fits 12 addr
  | .pub _ src _ ptr md addr => regReadable src && fits 3 ptr && fits 2 md && fits 12 addr
  | .ftap _ _ _ ptr tap => decide (ptr ≤ 3) && inRange 4 7 tap
  | .pmov _ x y => parOk x && parOk y
  | .clr _ _ x y => parOk x && parOk y
  | .cpy _ _ src x y => decide (src ≤ 4) && parOk x && parOk y
  | .add _ _ src x y => decide (src ≤ 4) && parOk x && parOk y
  | .sub _ _ src x y => decide (src ≤ 4) && parOk x && parOk y
  | .cmp _ _ src x y => decide (src ≤ 4) && parOk x && parOk y
  | .neg _ _ x y => parOk x && parOk y
  | .abs _ _ x y => parOk x && parOk y
  | .mul _ _ src x y => decide (src ≤ 7) && parOk x && parOk y
  | .muln _ _ src x y => decide (src ≤ 7) && parOk x && parOk y
  | .mac _ _ src x y => decide (src ≤ 7) && parOk x && parOk y
  | .msu _ _ src x y => decide (src ≤ 7) && parOk x && parOk y
  | .mulr _ _ src x y => decide (src ≤ 7) && parOk x && parOk y
  | .madr _ _ src x y => decide (src ≤ 7) && parOk x && parOk y
  | .rnd _ _ x y => parOk x && parOk y
  | .tst _ _ x y => parOk x && parOk y
  | .asl _ _ x y => parOk x && parOk y
  | .asr _ _ x y => parOk x && parOk y
  | .max _ _ src x y => decide (src ≤ 4) && parOk x && parOk y
  | .min _ _ src x y => decide (src ≤ 4) && parOk x && parOk y
  | .and _ _ src x y => decide (src ≤ 4) && parOk x && parOk y
  | .or _ _ src x y => decide (src ≤ 4) && parOk x && parOk y
  | .xor _ _ src x y => decide (src ≤ 4) && parOk x && parOk y
  | .sat _ _ x y => parOk x && parOk y
  | .lawSelectRequest j entry h => decide (j < 96) && fits 16 entry && h.ok
  | .tuneRequest j value h => decide (j < 96) && fits 64 value && h.ok
  | .identRunEnd j => decide (j < 96)
  | .tuneFitDone j => decide (j < 96)
  | .traceTriggerNow h => h.ok
  | .planningBoundary => true
  | .moveJoint m h => m.ok && h.ok
  | .moveLinear m h => m.ok && h.ok
  | .coopMove m h => m.ok && h.ok
  | .hold m h => m.ok && h.ok
  | .resume m h => m.ok && h.ok
  | .cancel m h => m.ok && h.ok
  | .groupEngage _ value h => fits 8 value && h.ok
  | .assemblyDone _ => true
  | .solveEnd _ => true
  | .solverDeadline _ _ => true
  | .interpolatorSegmentsWritten => true
  | .pointPacket _ v6 addr udp _ _ => addr.length == (if v6 then 16 else 4) && fits 16 udp
  | .windowAcceptanceClose => true
  | .mapUpdateEnd => true
  | .separationComplete => true
  | .separationLate => true
  | .voxelBuilderRun => true
  | .safetyCycleBoundary => true
  | .telegramCollectionClose => true
  | .channelADecision => true
  | .channelBDecision => true
  | .decisionCompare _ => true
  | .safetyMarker _ => true
  | .xaEdgeTimeout => true
  | .xbEdgeTimeout => true
  | .outputFrameTimeout => true
  | .channelInternalFault _ => true
  | .tstopElapsed _ => true
  | .degradedTimerExpiry => true
  | .hostStopRequest _ value h => fits 8 value && h.ok
  | .armAcknowledge mask h => fits 16 mask && h.ok
  | .brakeTestRequest value h => fits 32 value && h.ok
  | .brakeTestPhaseEnd => true
  | .brakeTestDue _ => true
  | .brakeAgeStore => true
  | .inputFilterChange _ _ => true
  | .discrepancyFault _ => true
  | .testPulseStart _ => true
  | .testPulseEnd _ _ si => fits 32 si
  | .edmTimeout _ => true
  | .bindingWatchdogExpiry _ => true
  | .safeObjectWrite session => fits 16 session
  | .safetyConfirm value h => fits 32 value && h.ok
  | .discardPending h => h.ok
  | .commitComplete _ => true
  | .moveAbs _ target h => fits 32 target && h.ok
  | .moveRel _ distance h => fits 32 distance && h.ok
  | .jogPos _ h => h.ok
  | .jogNeg _ h => h.ok
  | .axisStop _ h => h.ok
  | .home _ h => h.ok
  | .halt _ h => h.ok
  | .profileTick _ _ => true
  | .switchFilterChange _ _ _ edge => fits 32 edge
  | .standstillDelayExpiry _ => true
  | .pwmPeriodStart _ => true
  | .dutyWrite _ _ value h => fits 32 value && h.ok
  | .tripInputActive _ => true
  | .calibrationMeasure _ => true
  | .feedbackEdge _ _ _ _ => true
  | .indexEdge _ => true
  | .speedWindowEnd _ => true
  | .canFrameReceived _ frame _ => frame.ok
  | .transmitRequest _ mask h => fits 16 mask && h.ok
  | .busFreeArbitration _ => true
  | .canTransmissionEnd _ outcome lec _ _ => decide (outcome ≤ 2) && decide (lec ≤ 7)
  | .busOffRecoveryComplete _ => true
  | .recoveryRequest _ h => h.ok
  | .busIntegrationDone _ => true
  | .linkUp _ => true
  | .linkDown _ => true
  | .arpRequest _ senderMac senderIp target _ => senderMac.length == 6 && senderIp.length == 4 && target.length == 4
  | .neighbourSolicitation _ source target _ => source.length == 16 && target.length == 16
  | .echoRequest _ v6 source target _ _ => source.length == (if v6 then 16 else 4) && target.length == (if v6 then 16 else 4)
  | .ptpMessage _ m _ => m.ok
  | .delayReqTimer _ _ => true
  | .pdelayReqTimer _ _ => true
  | .loopbackTestFrame _ _ => true
  | .bazaarAccess _ _ _ _ requests => !requests.isEmpty && requests.all FabricReq.ok
  | .lockRequest _ line _ => decide (line < 0x60000)
  | .lockGrant line _ => decide (line < 0x60000)
  | .unlock _ _ => true
  | .holdCutOff _ => true
  | .fabricStatusClear mask h => fits 8 mask && h.ok
  | .ledgerRecordWrite => true
  | .flashProgrammingDone _ => true
  | .activate h => h.ok
  | .confirm h => h.ok
  | .reject h => h.ok
  | .keySlotWrite session => fits 16 session
  | .attestationChallenge session => fits 16 session
  | .signatureComplete => true
  | .transitionRequest session => fits 16 session
  | .lifeCycleTransition => true
  | .returnAuthorisation session => fits 16 session
  | .actvIChange _ => true
  | .claimDelayExpiry => true
  | .actingBegin => true
  | .actingRelease => true
  | .armedTimeout => true
  | .measureRequest h => h.ok
  | .switchoverTestRequest h => h.ok
  | .testWindowEnd => true
  | .returnHoldExpiry => true
  | .interlockFault => true
  | .tapReset => true
  | .extest value => fits 1048 value
  | .idcode => true
  | .samplePreload value => fits 1048 value
  | .clamp => true
  | .highz => true
  | .extestPulse value => fits 1048 value
  | .extestTrain value => fits 1048 value
  | .bypass => true
  | .flashProg => true
  | .flashSetOffset offset => fits 24 offset
  | .flashWriteWord word => fits 32 word
  | .flashReadWord => true
  | .flashEraseSector offset => fits 24 offset
  | .flashNoOperation => true
  | .receiveSyncGained _ _ => true
  | .secondsCarry => true
  | .ppsOutPulseEnd => true
  | .safetyIoSample si ed rba rbb => fits 32 si && fits 8 ed && fits 8 rba && fits 8 rbb
  | .tripInputInactive _ => true
  | .canReceiveError _ lec _ => decide (lec ≤ 7)
  | .hostFrameDiscarded _ => true
  | .modulePresenceChange _ _ _ => true
  | .flashOperationComplete => true

/-- The command is well-formed. -/
def WellFormed (i : Instr) : Prop := wellFormed i = true

end Sys2Proof
end

