-- ==== Sys2Proof/Tests/Slice0.lean ====
section
/-! SUPPORT. The model's own tests: states that meet the hypotheses of the obligations (witness_<obligation>, one clause of each at a
boundary of its range where it has one), ill-formed commands that `wellFormed` refuses, and worked examples of the spec. -/

namespace Sys2Proof.Machine

/-- A function in a state. -/
def State.put (s : State) (f : Fn) (x : FnState) : State := { s with fns := upd s.fns f.slot fun _ => ⟨x, 0⟩ }

/-- Every function STOPPED. -/
def State.idled (s : State) : State := { s with fns := List.replicate Fn.count ⟨.stopped, 0⟩ }

/-- One session open. -/
def State.as (s : State) (x : Session) : State := { s with dict := { s.dict with sessions := [x] } }

/-- Other supplies. -/
def State.powered (s : State) (p : Power) : State := { s with power := p }

/-- Other clocks. -/
def State.timed (s : State) (b : TimeBase) : State := { s with time := b }

/-- A session with a transfer. -/
def Session.holds (x : Session) (t : Transfer) : Session := { x with xfer := some t }

end Sys2Proof.Machine

namespace Sys2Proof.Tests
open Machine

set_option Elab.async false

/-! ### A machine that runs -/

def key : Octets := List.replicate 32 0x11#8
def host : Endpoint := ⟨0, 0x0A000001, 40000⟩
def sess : Session :=
  { id := 1, src := host, slot := 2, role := 2, emptyKey := false, key := key, confirmed := true, lastSeq := 0, lastReq := [],
    lastRsp := [], tagFails := 0, reqAt := [], xfer := none, latch := none }
/-- A request's header in that session. -/
def hdrAt (src : Endpoint) (flags op idx sub : Nat) (data : Octets) : Hdr :=
  { src := src, version := 1, session := 1, seq := 1, flags := flags, len := data.length, rsvd := 0,
    tag := reqTag key (message 1 op 1 1 idx sub flags data.length 0 data), at_ := 1000 }
def hdrF (flags op idx sub : Nat) (data : Octets) : Hdr := hdrAt host flags op idx sub data
def hdr (op idx sub : Nat) (data : Octets) : Hdr := hdrF 0 op idx sub data

/-- Power, clocks and ports are up, every function runs. -/
def up : State :=
  { State.reset with
    power := { Power.initial with
      compReset := false, pwrEn := true, pgood := true, mainReset := false, deviceReset := false, pllLocked := true,
      mgmtUp := true, resetOutHigh := true, xspiResetHigh := true }
    time := { TimeBase.initial with ticking := true }
    fns := List.replicate Fn.count ⟨.running, 0⟩
    ports := List.replicate 2 { HostPort.initial with pcs := true }
    sec := { Security.initial with lifeCycle := 1 }
    dict := { Dict.initial with sessions := [sess] } }

/-- The same with every function STOPPED. -/
def idle : State := up.idled.put (.hostPort 0) .running

/-- The decidable form of `Shaped`. -/
def shapedB (s : State) : Bool :=
  decide (s.fns.length = Fn.count) && decide (s.time.ringNs % 2 = 0 ∧ s.time.ns < 1000000000 ∧ s.time.sub < 2 ^ 48) &&
  decide (s.rings.length = 4 ∧ s.joints.length = 96 ∧ s.ports.length = 2 ∧ s.cans.length = 4 ∧ s.le.engines.length = 16) &&
  decide (s.way.positions.length = 112 ∧ s.aux.axes.length = 16 ∧ s.aux.groups.length = 8 ∧ s.aux.feedbacks.length = 16) &&
  decide (s.plan.arms.length = 12 ∧ s.plan.problems.length = 12 ∧ s.pair.q.length = 4 ∧ s.saf.bindings.length = 104) &&
  decide (s.saf.chA.arms.length = 12 ∧ s.saf.chB.arms.length = 12) && decide (s.saf.hostStop.length = 12) &&
  decide (s.saf.disagree.length = 36 ∧ s.saf.tolerated.length = 12 ∧ s.saf.joints.length = 96) &&
  decide (s.saf.brakeFail.length = 12 ∧ s.saf.brakePassed.length = 12) &&
  decide (s.saf.io.runs.length = 40 ∧ s.saf.io.disc.length = 16 ∧ s.saf.io.since.length = 16 ∧ s.saf.io.lows.length = 16 ∧
    s.saf.io.pairSince.length = 8) &&
  decide (s.saf.ages.length = 96 ∧ s.saf.agesStored.length = 96) && decide (∀ p ∈ s.ports, p.counts.length = 8 ∧ ∀ c ∈ p.counts, c < 2 ^ 32) &&
  decide (∀ w ∈ s.per.windows, w.counts.length = 8) &&
  decide (∀ r ∈ s.rings, r.errors.length = 4 ∧ r.strays.length = 32 ∧ r.delays.length = 32 ∧ r.tracking.seen.length = 32)
theorem shaped {s : State} (h : shapedB s = true := by decide +kernel) : s.Shaped := by
  simp only [shapedB, Bool.and_eq_true, decide_eq_true_eq] at h
  obtain ⟨⟨⟨⟨⟨⟨⟨⟨⟨⟨⟨⟨⟨a, b⟩, c1, c2, c3, c4, c5⟩, d1, d2, d3, d4⟩, e1, e2, e3, e4⟩, f⟩, g⟩, i⟩, j⟩, k⟩, l⟩, m⟩, n⟩, o⟩ := h
  exact ⟨a, b, c1, c2, c3, c4, c5, d1, d2, d3, d4, e1, e2, e3, e4, f, g, i, j, k, l, m, n, o⟩

theorem reaches {s : State} {r : Req} (h1 : ((s.advanceTo r.h.at_).heard r.h.src).2 = true := by decide +kernel)
    (h2 : (s.carried r).2 = true := by decide +kernel) : Reaches s r := ⟨h1, h2⟩
theorem admittedAt {e : Endpoint} {s : State} {x : Session} {flags op idx sub : Nat} {data : Octets}
    (h1 : ((s.advanceTo 1000).heard e).2 = true)
    (h0 : (s.carried ⟨hdrAt e flags op idx sub data, op, idx, sub, data⟩).2 = true)
    (h9 : op ∈ requestOpcodes) (h2 : s.dict.sessions = [x]) (h3 : s.dict.reqAt = [])
    (h4 : data.length ≤ (if e.port < 2 then 1028 else 32))
    (hx : x.id = 1 ∧ x.src = e ∧ x.key = key ∧ x.lastSeq = 0 ∧ x.reqAt = []) :
    Admitted s ⟨hdrAt e flags op idx sub data, op, idx, sub, data⟩ x := by
  obtain ⟨g1, g2, g3, g4, g5⟩ := hx
  have d : (s.arrived (hdrAt e flags op idx sub data)).dict.sessions = [x] ∧
      (s.arrived (hdrAt e flags op idx sub data)).dict.reqAt = [] := by
    have := (timely_advanceTo s 1000).spoken.trans (spoken_heard (s.advanceTo 1000) e)
    unfold Spoken at this
    have d : (s.arrived (hdrAt e flags op idx sub data)).dict = _ := congrArg State.dict this
    rw [d]
    exact ⟨h2, h3⟩
  refine ⟨⟨h1, h0⟩, rfl, h9, rfl, h4, ?_, g2, by rw [g3]; rfl, by rw [g4]; decide, by rw [g4]; rfl, ?_, ?_⟩
  · unfold State.session
    rw [d.1]
    simp [hdrAt, g1]
  · simp [State.recent, g5]
  · rw [d.2]
    simp [State.recent]
theorem admitted {s : State} {x : Session} {flags op idx sub : Nat} {data : Octets}
    (h1 : ((s.advanceTo 1000).heard host).2 = true := by decide +kernel)
    (h0 : (s.carried ⟨hdrF flags op idx sub data, op, idx, sub, data⟩).2 = true := by decide +kernel)
    (h9 : op ∈ requestOpcodes := by decide) (h2 : s.dict.sessions = [x] := by rfl)
    (h3 : s.dict.reqAt = [] := by rfl) (h4 : data.length ≤ 1028 := by decide +kernel)
    (hx : x.id = 1 ∧ x.src = host ∧ x.key = key ∧ x.lastSeq = 0 ∧ x.reqAt = [] := by exact ⟨rfl, rfl, rfl, rfl, rfl⟩) :
    Admitted s ⟨hdrF flags op idx sub data, op, idx, sub, data⟩ x := admittedAt h1 h0 h9 h2 h3 h4 hx
/-- The same request from CAN controller 0. -/
def bus : Endpoint := ⟨2, 0, 0⟩
def canSess : Session := { sess with src := bus }
def canHdr (op idx sub : Nat) (data : Octets) : Hdr := hdrAt bus 0 op idx sub data
theorem canGranted {s : State} {idx sub : Nat} {v : Octets} (h2 : s.dict.sessions = [canSess]) (h3 : s.dict.reqAt = [])
    (h : (((s.advanceTo 1000).heard bus).2 = true ∧ (s.carried (writeReq (canHdr 0x21 idx sub v) idx sub v)).2 = true) ∧
      v.length ≤ 32)
    (g : (s.served (writeReq (canHdr 0x21 idx sub v) idx sub v) canSess).writeRefused canSess idx sub v = none) :
    Granted s (canHdr 0x21 idx sub v) idx sub v canSess :=
  ⟨admittedAt h.1.1 h.1.2 (by decide) h2 h3 h.2 ⟨rfl, rfl, rfl, rfl, rfl⟩, g⟩
theorem granted {s : State} {x : Session} {idx sub : Nat} {v : Octets}
    (h : Admitted s (writeReq (hdr 0x21 idx sub v) idx sub v) x := by exact admitted)
    (g : (s.served (writeReq (hdr 0x21 idx sub v) idx sub v) x).writeRefused x idx sub v = none := by decide +kernel) :
    Granted s (hdr 0x21 idx sub v) idx sub v x := ⟨h, g⟩

/-! ### Supplies, reset and the dictionary -/

/-- Power-up: the companion die out of reset and MAIN_PWR_EN high. -/
def waitsForPgood : Power := { Power.initial with compReset := false, pwrEn := true, deviceReset := false }
def waitsForRetry : Power := { Power.initial with compReset := false, deviceReset := false, pgFails := 1, retry := true }
def releases : Power := { waitsForPgood with pgood := true, releasing := true }
def waitsForPll0 : Power := { waitsForPgood with pgood := true }
def waitsForPll : Power := { waitsForPgood with pgood := true, mainReset := false }
def clearsSram : Power := { waitsForPll with pllLocked := true }
def mainOff : Power := { Power.initial with compReset := false, deviceReset := false, mode := 3 }
def waking : Power := { up.power with mode := 4 }
def computeOff : Power := { up.power with mode := 2 }

/-- A step waits for the next tick. -/
def stepsNext : TimeBase := { up.time with pendStep := some (5, 7, 0) }

/-- Readings: all nominal; the compute domain too hot; V0, then V12, outside its action window. -/
def sampled (t : List Int) (v : List Nat) : Readings := ⟨t.map fun x => List.replicate 16 x, v.map fun x => List.replicate 16 x⟩
def calm : Readings := sampled (List.replicate 24 250) nominalMv
def hot : Readings := sampled (List.replicate 20 250 ++ List.replicate 4 1200) nominalMv
def lowCore : Readings := sampled (List.replicate 24 250) (nominalMv.set 0 500)
def lowCompanion : Readings := sampled (List.replicate 24 250) (nominalMv.set 12 500)
def lowBoth : Readings := sampled (List.replicate 24 250) ((nominalMv.set 0 500).set 12 500)

/-- The card of an object. -/
def card (idx sub : Nat) : Card :=
  match lookup idx sub with
  | .found c => c
  | _ => numCard .rw 1 none 0 fun _ => true

/-- Sessions of the other roles, and in the other situations that a request can meet. -/
def commissioner : Session := { sess with role := 3 }
def observer : Session := { sess with role := 0 }
def readClock : Session := { sess with latch := some (1, 5, 6, 7) }
def exhausted : Session := { sess with lastSeq := 0xFFFFFFFF }
def busy : Session := { sess with reqAt := List.replicate 2000 0 }
def repeated : Session :=
  { sess with
    lastSeq := 1, lastReq := message 1 0x20 1 1 0x1032 0 0 0 0 [] ++ (hdr 0x20 0x1032 0 []).tag
    lastRsp := message 1 0xA0 1 1 0x1032 0 0 2 0 [0#8, 0#8] }
def unconfirmed : Session := { sess with confirmed := false }

/-- Requests that the first checks refuse. -/
def readWarn : Req := readReq (hdr 0x20 0x1032 0 []) 0x1032 0
def otherVersion : Req := { readWarn with h := { readWarn.h with version := 2 } }
def otherOp : Req := { readWarn with op := 0x22 }
def wrongLength : Req := { readWarn with h := { readWarn.h with len := 1 } }
def otherHost : Req := { readWarn with h := { readWarn.h with src := ⟨1, 0x0A000002, 40000⟩ } }
def badTag : Req := { readWarn with h := { readWarn.h with tag := 0#8 :: readWarn.h.tag } }

/-- No session open; the life cycle before the first transition; key slots 0 to 3 hold keys of these roles. -/
def silent : State := { up with dict := { up.dict with sessions := [] } }
def blank : State := { up with sec := { up.sec with lifeCycle := 0 } }
def slots : List (Option KeySlot) :=
  [some ⟨2, true, key⟩, some ⟨3, true, key⟩, some ⟨1, false, key⟩, none, none, none, none, none]
def keyed (s : State) : State := { s with sec := { s.sec with keys := slots } }
def full : State := { up with dict := { up.dict with sessions := List.replicate 8 sess } }
def openHdr : Hdr := { hdr 0x10 0 0 (zeros 32) with session := 0, seq := 0, tag := [] }

/-- Segmented transfers: a read at offset 0 and after its first segment, a write of 32 octets of a key slot. -/
def reading : Transfer := ⟨false, 0x1020, 0, 2000, 0, zeros 2000, 1, false, false, 0⟩
def readEnd : Transfer := { reading with done := 1024 }
def writing : Transfer := ⟨true, 0x1810, 1, 36, 0, [], 1, false, false, 0⟩
def checking (idx sub : Nat) (o : Octets) : Transfer := ⟨true, idx, sub, o.length, o.length, o, 1, false, true, 1⟩
def waits : State := { up with pending := [.wake] }
def stepping : State := up.timed stepsNext
def offline (p : Power) : State := State.reset.powered p
def segHdr (o : Octets) : Hdr := hdrF 1 0x33 0 0 (toLE 4 0 ++ o)
def overtaken : Transfer := { writing with left := true }
def ahead : Session := { sess with lastSeq := 7 }
theorem hdr_tag (op idx sub : Nat) (data : Octets) :
    (hdr op idx sub data).tag = reqTag key (message 1 op 1 1 idx sub 0 data.length 0 data) := rfl
theorem readWarn_tag : readWarn.h.tag = reqTag key readWarn.octets :=
  (congrArg Hdr.tag (show readWarn.h = hdr 0x20 0x1032 0 [] from rfl)).trans
    ((hdr_tag 0x20 0x1032 0 []).trans (congrArg (reqTag key) (by decide +kernel)))
theorem readWarn_repeats : readWarn.octets ++ readWarn.h.tag = repeated.lastReq :=
  congrArg (fun o => o ++ readWarn.h.tag) (by decide +kernel)
theorem badTag_refused : badTag.h.tag ≠ reqTag key badTag.octets := by
  have h : badTag.octets = readWarn.octets := by decide +kernel
  rw [h, ← readWarn_tag]
  exact List.cons_ne_self _ _
/-- Group 7 of the PWM unit goes to SHORT, and a CM2 fault waits for it. -/
def shorts : State := up.putObj 0x7871 0 (toLE 8 0x40)
def cm2Waits : State := up.powered { up.power with cm2Short := [7] }
/-- A dictionary item waits. -/
def crowded118 : State :=
  { up with way := { Waystation.initial with queue := [⟨⟨118, 0x1001E, 0xFFFFFFFF, 0, 0, 7, [], 0⟩, some 5, 0, 0, false⟩] } }
/-- A session over CAN controller 0, whose dictionary endpoint is enabled; the same with the other functions STOPPED. -/
def busSide : State := ((up.as canSess).putObj (canIdx 0 0x10) 1 [1#8])
def idleBus : State := busSide.idled.put (.can 0) .running

/-! ### Content checks, store, rings, time base -/

theorem none_of {α : Type} {o : Option α} {P : α → Prop} (h : o = none) : ∀ a, o = some a → P a := by
  intro a e
  rw [h] at e
  cases e
theorem some_of {α : Type} {o : Option α} {P : α → Prop} (b : α) (h : o = some b) (p : P b) : ∀ a, o = some a → P a := by
  intro a e
  rw [h] at e
  cases e
  exact p

def lens : Transfer := checking 0x2404 0 (zeros 1024)
def lensLate : Transfer := { lens with left := true }
def lensShort : Transfer := checking 0x2404 0 (zeros 1023)
def safeWriting : Transfer := checking 0xA100 0 (dfltOctets 0xA100 0)
def newKey : Transfer := checking 0x1810 1 ([2#8, 1#8, 0#8, 0#8] ++ key)
def challenge : Transfer := checking 0x1820 0 (zeros 32)
def authorisation : Transfer := checking 0x1803 0 (zeros 2824)
def storing : State := { up with dict := { up.dict with storing := some [] } }

/-- The unit acts as the master of its rings, with these contents of ring 0. -/
def acting : State := { up with pair := { up.pair with acting := true, actvO := true } }
def withRing (r : Ring) : State := acting.onRing 0 fun _ => r
def sent : Caravan := ⟨5, 1, false, 0, false, false, false, false, []⟩
def measured : Caravan := { sent with kind := 3, retW := true }
/-- Heads of the caravans sent in cycle 5: RUN, RUN folded, MEASURE; one of the cycle before. -/
def head : Octets := headOctets 1 0 5 15624 0 0 0 0 0
def headF : Octets := headOctets 1 0x80 5 15624 0 0 0 0 0
def headM : Octets := headOctets 3 0 5 15624 0 0 0 0 0
def headOld : Octets := headOctets 1 0 4 15624 0 0 0 0 0
def sentF : Caravan := { sent with folded := true }
def measuredN : Caravan := { sent with kind := 3 }
def called : Ring := { Ring.initial with caravan := some sent }
def calledFolded : Ring := { Ring.initial with caravan := some sentF, folded := true, rxW := false }
def measures2 : Ring := { Ring.initial with caravan := some measured, measure := some ⟨5, 78120, none, []⟩ }
/-- Before a cycle start: the first cycle of a STARTING ring, the MEASURE cycle of a heal, loop-back in mode 1 or 3. -/
def starting : State := (withRing { Ring.initial with step := 1 }).put (.ring 0) .starting
def due : Ring := { Ring.initial with cycle := some 4, heal := some 3, caravan := some { sent with retW := true, trailer := true } }
def looped (m : Nat) : State := acting.putObj 0x3050 1 (toLE 1 m)
def unfolds : Ring := { Ring.initial with command := some ⟨4, 0, 0, 0, 0⟩ }
def barred : Ring := { called with barrier := 7 }
def counting : Ring := { called with step := 1 }
def silentRing : Ring := { Ring.initial with lost := 4 }
def tracks : Ring := { Ring.initial with tracking := ⟨true, none, List.replicate 32 0, 0, 0⟩ }
def asked : SvcOut := ⟨⟨3, 1, 0x10, []⟩, 9, 1, 0, false⟩
def lastAsked : SvcOut := { asked with resends := 3 }
def asks (y : SvcOut) : Ring := { Ring.initial with cycle := some 5, svcOut := [y] }
def asks17 (y : SvcOut) : Ring := { asks y with cycle := some 17 }
/-- One pannier of node 3 with 16 octets in the table of ring 0. -/
def panniers : Octets := [1#8, 0#8, 0#8, 0#8, 3#8, 0#8, 2#8, 8#8, 0#8, 0#8, 0#8, 0#8]
def entry : RingEntry := ⟨[], [], false, false, false, 0, false⟩
def carries : State := (withRing { called with entries := [entry] }).putObj 0x3010 0 panniers

/-- The servo's states. -/
def servo (disc ns : Nat) (y : Int) (acc : Bool) : TimeBase :=
  { up.time with mode := 1, disc := disc, ns := ns, y := y, accepted := acc }
def ptpTime2 : TimeBase := { up.time with mode := 2, disc := 2, announced := true }
def answer : Octets := courierOctets 3 0 2 9 [0#8, 0x10#8, 0#8, 0#8]
def answerTime : Nat := 78481
def measures : Ring := { called with caravan := some measuredN }
def measuring : State := (withRing { measures with entries := [entry] }).putObj 0x3010 0 panniers
def foldedRing : Ring := { Ring.initial with folded := true }
def inCycle9 : Ring := { Ring.initial with cycle := some 9 }
def noOctets : Octets := []
def asking : State := (withRing (asks asked)).putObj 0x3010 0 panniers
/-- The caravan of cycle 5 under way while a courier frame of gap 4 comes in. -/
def sentNow : Caravan := { sent with octets := zeros 112 }
def askingLate : State := asking.onRing 0 fun r => { r with caravan := some sentNow }

/-! ### Waystation and loop engines -/

/-- A Waystation table: counts, the default header, entries of flows, gates and edges (Table 07-10). -/
def tableOf (f g e : Nat) (o : Octets) : Octets :=
  toLE 2 f ++ toLE 2 g ++ toLE 2 e ++ ((List.range 1040).map wayDfltOctet).drop 6 ++ o
def flowEntry (n kind cap entry : Nat) : Octets := toLE 2 n ++ toLE 1 kind ++ [0#8] ++ toLE 2 cap ++ toLE 2 entry
/-- Flow 130 of priority 3, flow 131 atomic and urgent, gate 0 to flow 130 with one edge, from flow 112. -/
def table2 : Octets :=
  tableOf 2 1 1 (flowEntry 130 3 2 0 ++ flowEntry 131 0x87 2 16 ++
    (toLE 2 130 ++ [2#8, 1#8] ++ toLE 2 5 ++ toLE 2 0) ++ (toLE 2 112 ++ toLE 2 0))
def itemOf (flow : Nat) : Item := ⟨flow, 0x200, 0xFFFFFFFF, 0, 0, 7, [], 0⟩
def ready (flow : Nat) : Queued := ⟨itemOf flow, some 5, 0, 0, false⟩
def wayOf (q : List Queued) (g : List Gate) : Waystation := { Waystation.initial with queue := q, gates := g, table := table2 }
def posted (flow : Nat) : State := { up with way := wayOf [ready flow] [] }
def serving (p : Nat) (it : Item) (w : Waystation) : State :=
  { up with way := { w with positions := upd w.positions p fun _ => some it } }
def finishing (x : Nat × Item × Bool) : State := { up with way := { Waystation.initial with finished := [x] } }
def gate (count : Nat) (held : Option Item) : Gate := ⟨count, some 0, 0, held, false⟩
/-- A busy flow 130: two items queued. -/
def crowded : List Queued := [ready 130, ready 130]
def holding (it : Item) (q : List Queued) : State := { up with way := { wayOf q [] with held := [it] } }
def gated (g : Gate) : State := { up with way := wayOf [] [g] }
def delaying : State := { up with way := { wayOf [] [gate 1 none] with delayed := [⟨1, 1, itemOf 130⟩, ⟨1, 2, itemOf 131⟩] } }
theorem first {s : State} {c : Consumer} {q : Queued} {f : FlowInfo} (tq : Nat) (h : s.way.queue = [q])
    (hf : flowInfo s.way.table q.item.flow = some f) (hc : f.cls = c) (hr : q.ready = some tq) : firstReady s c q f := by
  refine ⟨by rw [h]; exact .head _, hf, hc, tq, hr, ?_⟩
  intro q' m t' f' e1 e2 _
  rw [h, List.mem_singleton] at m
  subst m
  rw [hr] at e1
  rw [hf] at e2
  cases e1
  cases e2
  exact .inr ⟨rfl, .inr ⟨rfl, Nat.le_refl _⟩⟩
def info130 : FlowInfo := ⟨.loopEngine, false, 3, 2, 0⟩
def info131 : FlowInfo := ⟨.loopEngine, true, 7, 2, 16⟩
def info113 : FlowInfo := ⟨.solver, false, 5, 32, 0⟩
def info120 : FlowInfo := ⟨.trace, false, 2, 16, 0⟩

/-- An item of flow 130 in an engine, and engine 0 with it and a program. -/
def work (r : RegBank) : Exec :=
  { item := itemOf 130, ctxLen := 4, atomic := true, filled := true, ctx := List.replicate 64 0, out := [], wroteX := [],
    wroteY := [], outFree := 0, regs := r, lagged := false, law := 0, hand := none }
def bank : RegBank := RegBank.start 0
def runsAll (e : Engine) (prog : List Nat) : State :=
  { up with
    le := { LoopEngines.initial with prog := prog.flatMap (toLE 4), engines := upd LoopEngines.initial.engines 0 fun _ => e }
    way := { wayOf [] [] with positions := upd Waystation.initial.positions 1 fun _ => some (itemOf 130) } }
def engine (prog : List Nat) (r : RegBank) : State := runsAll { Engine.initial with normal := some (work r) } prog
theorem issuing {s : State} {k : Fin 16} {x : Exec} {op : LeOp} (h : shapedB s = true := by decide +kernel)
    (hc : (s.engine k).cur = some x := by decide +kernel)
    (h0 : (s.leActive = true ∧ (s.engine k).halted = false ∧ x.filled = true ∧ x.regs.cycles < s.le.limit ∧
      vendorLaw x.law = false ∧ fetchLe s.le.prog x.regs.pc = some op ∧ (s.engine k).haltDue = false) := by decide +kernel) :
    Issuing s k x op := by
  obtain ⟨a, b, c, d, e, f, g⟩ := h0
  exact ⟨shaped h, hc, a, b, c, d, e, f, g⟩
theorem issues {s : State} {k : Fin 16} {x : Exec} {op : LeOp} (h : Issuing s k x op := by exact issuing)
    (h1 : hostError x.regs op op.loads s.le.prog = false := by decide +kernel)
    (h2 : ∀ r ∈ op.reads x.regs, ¬ x.unwritten r := by unfold Exec.unwritten; decide +kernel) : Issues s k x op := ⟨h, h1, h2⟩
def outer : LoopEntry := ⟨2, 1, 8, false⟩
/-- Banks: A beyond the Q23 range, in the second and in the first delay slot, a return stack that is full or holds one address, a loop
stack that is full, at the execution limit. -/
def overflown : RegBank := { bank with a := 0x7FFFFFFFFFFFFF#56, aMv := 0x7FFFFFFFFFFFFF#56 }
def lastSlot : RegBank := { bank with slots := 1, target := some 9 }
def firstSlot : RegBank := { bank with slots := 2, target := some 9 }
def deep : RegBank := { bank with rets := List.replicate 8 1 }
def called1 : RegBank := { bank with rets := [5] }
def nested : RegBank := { bank with loops := List.replicate 4 outer }
def spent : RegBank := { bank with cycles := 4000 }
def mvAddr : RegBank := { bank with pV := List.replicate 8 0x3C00#14 }
def debugged (s : State) : State := s.putObj 0x2407 0 [1#8]
def wb : WriteBack := ⟨false, 130, 4, List.replicate 64 5, 0x800, zeros 256⟩
def writesBack : State := runsAll { Engine.initial with wbs := [wb] } []
def shut : RegBank := { bank with boundary := false }
def both : Engine := { Engine.initial with normal := some (work bank), urgent := some (work bank) }
def empty : Exec := { work bank with filled := false }
def empties : Engine := { Engine.initial with normal := some empty }
/-- Engine 0 serves an item of joint 0 under the vendor law 1: usable, MISSING, with the drive's FAULT reported. -/
def lawItem (flags : Nat) (o : Octets) : Item := { itemOf 0 with flags := flags, payload := o }
def lawWork (it : Item) : Exec := { work bank with item := it, law := 1 }
def underLaw (limit : Nat) (it : Item) : State :=
  { up with
    le := { LoopEngines.initial with
      limit := limit, engines := upd LoopEngines.initial.engines 0 fun _ => { Engine.initial with normal := some (lawWork it) } }
    way := { wayOf [] [] with positions := upd Waystation.initial.positions 1 fun _ => some it } }
def feedback (status : Nat) : Octets := zeros 36 ++ toLE 2 status ++ toLE 2 0x1234 ++ zeros 8
def missing : Item := lawItem 0x40 []
def usable0 : Item := lawItem 0 (feedback 0)
def driveFault : Item := lawItem 0 (feedback 8)

/-! ### Joints, planning, perception -/

def tuning (count : Nat) (fitting : Bool) : TuneRun :=
  { amp := 1, hold := 1, fv := 1, start := 0, count := count, lfsr := 0x7FF, sat := 0, sums := List.replicate 9 0,
    fitting := fitting }
def tunes (r : TuneRun) : State := up.onJoint 0 fun x => { x with tune := some r }
def tuneEmpty : TuneRun := { tuning 0 false with hold := 0 }
def jointStopped : State := up.put (.joint 0) .stopped
def lawOne : State := up.onJoint 0 fun x => { x with law := 1 }
def lawReady : State := lawOne.put (.arm 0) .stopped
def booked : State := { up with plan := { up.plan with boardDone := some 0 } }
def late0 : State := runsAll { Engine.initial with normal := some (work bank) } [0]
def hold1 : Motion := ⟨0, 1, 5, 0, 0, 0, 0, 0, 0, 0⟩
def move1 : Motion := { hold1 with speed := 1, accel := 1000 }
def pair1 : Motion := { move1 with mask := 3 }
def cancel1 : Motion := { move1 with after := 5 }
def slotted (st : Nat) : State :=
  { up with dict := { up.dict with mbox := List.replicate 64 ⟨st, commandRecord 1 { move1 with ident := 5 }, 0, 0, 0, 0, false⟩ } }
/-- A mailbox: a command that waits or is active, and a move that it names. -/
def mailed (st kind effect : Nat) (m : Motion) : MboxSlot := ⟨st, commandRecord kind m, 0, 0, effect, 0, false⟩
def move5 : Motion := { move1 with ident := 5 }
def cancel5 : Motion := { move1 with ident := 6, after := 5 }
def mail (l : List MboxSlot) : State :=
  up.onDict fun d => { d with mbox := l ++ List.replicate (64 - l.length) MboxSlot.initial }
def waitsHold : State := mail [mailed 1 4 0 hold1]
def waitsResume : State := (mail [mailed 1 5 0 hold1]).onArmPlan 0 fun p => { p with held := true }
def waitsCancel (st : Nat) : State := mail [mailed 1 6 0 cancel5, mailed st 1 3 move5]
def atSpeed : State :=
  ((waitsCancel 2).putObj 0x5001 0 (0#8 :: List.replicate 15 0xFF#8)).onProblem 0 fun p => { p with
    valid := true, solved := true, knots := [[0], [100000]], v0 := [1000] }
def aimedSlots : State := ((slotted 3).putObj 0x5002 1 (zeros 128)).putObj 0x5002 2 (zeros 32)
def armDown : State := up.put (.arm 0) .stopped
def grouped : State := up.putObj 0x2840 0 (zeros 768)
def latch0 : Latched := ⟨0, 1000000, 7⟩
def solves (p : Problem) (w : Waystation) : State :=
  { up with way := w, plan := { up.plan with latched := some latch0, solving := true, problems := upd up.plan.problems 0 fun _ => p } }
def toSolve : Problem := { Problem.initial with due := true }
def asm0 : Assembled := ⟨0, [], [], [], [], [], [], [], [], [], false, false⟩
def assembled : Problem := { toSolve with asm := some asm0 }
def posed : Item := { itemOf 112 with tag := 7, payload := zeros 384 }
def fronts : State :=
  solves toSolve { Waystation.initial with positions := upd Waystation.initial.positions 48 fun _ => some posed }
def serves (p flow : Nat) (payload : Octets) : Waystation :=
  { Waystation.initial with positions := upd Waystation.initial.positions p fun _ => some { itemOf flow with payload := payload } }
def solved0 : Problem := { Problem.initial with valid := true, solved := true, knots := List.replicate 9 [] }
def interpolates : State := { solves solved0 (serves 88 114 []) with plan := { (solves solved0 (serves 88 114 [])).plan with solving := false } }
/-- One sensor, on, and its packets. -/
def packet (n count : Nat) (ns : Nat) : Octets :=
  [1#8, 1#8] ++ toLE 1 n ++ [0#8] ++ toLE 2 count ++ zeros 10 ++ toLE 4 ns ++ zeros 12 ++ zeros (12 * count)
def addr : Octets := [10#8, 0#8, 0#8, 2#8]
def sensed : State :=
  (up.putObj (portIdx 0 4) 0 ([1#8, 0#8] ++ toLE 2 7000 ++ padTo 16 addr ++ zeros 4)).putObj 0x2C03 0
    ([1#8, 0#8, 0#8, 0#8] ++ toLE 4 100 ++ zeros 56)
def flooded : State := sensed.onPort 0 fun p => { p with ingress := [(3, 2048)] }
def portDown : State := sensed.put (.hostPort 0) .stopped
def sensedOff : State := sensed.putObj 0x2C03 0 (zeros 64)
def sensedLater : State := { sensed with per := { sensed.per with first := 5 } }
/-- A window whose update, or whose separation, is in work, with its item in service. -/
def window7 : StageWindow := ⟨0, 7, 0, false⟩
def posed115 : Item := { itemOf 115 with payload := zeros 768 }
def posed116 : Item := { itemOf 116 with payload := zeros 768 }
def updates : State :=
  { serving 96 posed115 Waystation.initial with per := { up.per with updating := some window7 } }
def separates : State := { serving 100 posed116 Waystation.initial with per := { up.per with sep := some window7 } }
def aimed : State := (up.putObj 0x5002 1 (zeros 128)).putObj 0x5002 2 (zeros 32)
def noLate : Option Nat := none

/-! ### Safety -/

def safely (f : Safety → Safety) : State := up.onSaf f
def inCycle (closed : Bool) : State := safely fun f => { f with cycle := some 7, closed := closed }
def decided (a b : ArmSafe) : State :=
  safely fun f => { f with
    cycle := some 7, closed := true, chA := ⟨upd f.chA.arms 0 fun _ => a, some 7⟩, chB := ⟨upd f.chB.arms 0 fun _ => b, some 7⟩ }
def inSto : ArmSafe := ArmSafe.initial
def zoned : ArmSafe := { inSto with zone := true }
def free : ArmSafe := { inSto with st := 4 }
def hold0 : ArmSafe := { inSto with st := 3 }
def disagrees (n : Nat) : State := (decided inSto zoned).onSaf fun f => { f with disagree := List.replicate 36 n }
def degrades (a : ArmSafe) : State := (decided a a).onSaf fun f => { f with degraded := some (1, 0) }
def faultyA : State := safely fun f => { f with faultA := true }
def faultyB : State := safely fun f => { f with faultB := true }

/-- Pair 0 with EDM input 0, input 0 antivalent with pulse source SO0_A, binding 0 of a joint, arm 0 with joint 0. -/
def pairs0 : Octets := [1#8, 0#8] ++ toLE 2 10 ++ toLE 2 50 ++ toLE 2 1 ++ zeros 56
def inputs0 : Octets := [2#8, 3#8] ++ toLE 2 4 ++ [0#8, 0xFF#8] ++ zeros 122
def bindings0 (kind : Nat) : Octets := toLE 1 kind ++ zeros 1663
def settings0 (flags : Nat) : Octets :=
  slice (dfltOctets 0xA100 0) 0 64 ++ ([1#8] ++ toLE 1 flags ++ zeros 30 ++ [0#8] ++ List.replicate 15 0xFF#8 ++ zeros 16) ++ zeros 704
def configured : State :=
  ((up.putObj 0xA180 0 pairs0).putObj 0xA170 0 inputs0).putObj 0xA100 0 (settings0 1)
def withIo (f : SafIo → SafIo) : State := configured.onIo f
def pairHigh : State := configured.onSaf fun f => { f with soA := 1#8, soB := 1#8, io := { f.io with edmLow := 1 } }
def pulsing : State := withIo fun x => { x with pulse := 1 }
def established (kind : Nat) : State :=
  (up.putObj 0xA160 0 (bindings0 kind)).onSaf fun f => { f with bindings := upd f.bindings 0 fun b => { b with st := 3 } }
def safFault : State := up.put .safety .fault
def stopsFor : State := (up.putObj 0xA100 0 (settings0 0x41))
def holdsArm : State := (decided hold0 hold0).putObj 0xA100 0 (settings0 1)
def testing (phase : Nat) (more : List Nat) : BrakeTest := ⟨0, 0 :: more, phase, 128, none, 0⟩
def tests (b : BrakeTest) : State := configured.onSaf fun f => { f with brake := some b }
def mramLost : State := up.powered { up.power with mramOk := false }
def emptySet : List ((Nat × Nat) × Octets) := safeObjects.map fun i => ((i, 0), [])
def pendingSet : State := (idle.as commissioner).onSaf fun f => { f with set := { f.set with pending := some (1, emptySet) } }
def goodCopy : SafCopy := ⟨emptySet, checkValue emptySet⟩
def committing (c : SafCopy) : State := safely fun f => { f with set := { f.set with commit := some c } }
def badCopy : SafCopy := ⟨emptySet, 0⟩
def noJoints : List Nat := []
def agedOut : State := safely fun f => { f with ages := List.replicate 96 ⟨1, 0, 0, true⟩ }
def differs : State := withIo fun x => { x with disc := List.replicate 16 2 }
def joint1 : List Nat := [1]
/-- Joint 0 has left its place while its brake is tested; brake ages before and at the interval. -/
def slipTest : BrakeTest := { testing 1 noJoints with start := some 0 }
def slips : State :=
  safely fun f => { f with
    brake := some slipTest
    joints := upd f.joints 0 fun p => { p with pos := some 0x7FFFFFFF } }
def aged (n : Nat) : State := safely fun f => { f with ages := List.replicate 96 ⟨1, n, 0, false⟩ }

/-! ### Axes, PWM groups, feedback inputs, CAN controllers -/

def moveH (kind v : Nat) : Hdr := hdr 0x21 (0x7005 + 0x40 * (0 : Fin 16).val) 0 (moveCommand kind v)
def moveOf (pos stopping : Bool) (rem : Option Nat) : AxisMove :=
  { up.newMove 0 pos rem with readyAt := 0, begun := true, stopping := stopping }
def moving (m : AxisMove) : State := up.onAxis 0 fun a => { a with move := some m }
def setting (idx sub w v : Nat) : State := up.putObj idx sub (toLE w v)
def moving7 (m : AxisMove) : State := (setting 0x7001 0 4 0x001FF088).onAxis 0 fun a => { a with move := some m }
def five : Option Nat := some 5
def endless : Option Nat := none
def notBegun (pos : Bool) : AxisMove := { moveOf pos false five with begun := false }
def firstPeriod : State :=
  ((up.put (.pwm 0) .starting).onGroup 0 fun g => { g with armed := true }).onAux fun a => { a with calibrated := true }
def dutyH : Hdr := hdr 0x21 (0x7803 + 0x10 * (0 : Fin 8).val) ((2 : Fin 3).val + 1) (toLE 4 0xFFFFFF)
def tripped : State := up.onAux fun a => { a with trips := 0x80 }
def highFeedback : State := up.onFeedback 0 fun f => { f with a := true, b := true }
def frame : CanFrame := ⟨0x123, false, false, false, false, 8, zeros 8⟩
def frameFd : CanFrame := ⟨0x123, true, false, false, false, 8, zeros 8⟩
def ownFd : CanFrame := ⟨0x6C0, true, false, false, false, 13, zeros 32⟩
def remote : CanFrame := { frame with rtr := true }
def own : CanFrame := { frame with ident := 0x6C0 }
def canCfgOf (v : Nat) : State := setting (canIdx 0 2) 0 4 v
def onCan0 (f : Can → Can) : State := up.onCan 0 f
def sending0 : State := onCan0 fun c => { c with sending := some (0, frame), pending := 1, tec := 248 }
def busOff0 (wait : Bool) : State := onCan0 fun c => { c with conf := 2, awaitSw := wait }
def responding : State := onCan0 fun c => { c with responses := [frame] }
def retransmits : State := (canCfgOf 0x03C00008).onCan 0 fun c => { c with sending := some (0, frame), pending := 1 }
def endpoint (s : State) : State := s.putObj (canIdx 0 0x10) 1 [1#8]
def heldCan : State := { endpoint up with way := { up.way with held := [{ itemOf 118 with origin := 0x10020 }] } }
/-- An axis, and one with a stage, whose standstill action waits for the reload. -/
def wakes : State := (moving (moveOf true false five)).onAxis 0 fun a => { a with waking := true }
def wakesStage : State := (setting 0x7001 0 4 0x0141F008).onAxis 0 fun a => { a with waking := true, standstill := true }
/-- The response that a main reset waits for is under way. -/
def resetSent : State :=
  (responding.onCan 0 fun c => { c with sending := some (16, frame) }).powered { up.power with resetAsked := some (0x1021, 1, 0, 1) }

/-! ### Host ports and the fabric -/

def ip0 : Octets := [10#8, 0#8, 0#8, 1#8, 24#8, 0#8, 0#8, 0#8, 0#8, 0#8, 0#8, 0#8] ++ addr6 1 ++ [64#8, 0#8, 0#8, 0#8] ++ zeros 16
where addr6 (n : Nat) : Octets := [0x20#8, 1#8] ++ zeros 13 ++ toLE 1 n
def near6 : Octets := [0x20#8, 1#8] ++ zeros 13 ++ [2#8]
def far6 : Octets := [0x20#8, 2#8] ++ zeros 13 ++ [2#8]
def own6 : Octets := [0x20#8, 1#8] ++ zeros 13 ++ [1#8]
def own4 : Octets := [10#8, 0#8, 0#8, 1#8]
def near4 : Octets := [10#8, 0#8, 0#8, 9#8]
def far4 : Octets := [11#8, 0#8, 0#8, 9#8]
def mac0 : Octets := zeros 6
def addressed : State := up.putObj (portIdx 0 3) 0 ip0
def linkless : State := up.onPort 0 fun p => { p with pcs := false }
def loops : State := (up.put (.hostPort 0) .starting).putObj (portIdx 0 7) 0 [1#8]
def floodedClass (c n : Nat) (s : State) : State := s.onPort 0 fun p => { p with ingress := [(c, n)] }
theorem owns6 {s : State} {n a : Nat} (h : (ip6 (s.ipCfg n) != 0 && a == ip6 (s.ipCfg n)) = true := by decide +kernel) :
    s.ownsAddr n true a = true := by
  unfold State.ownsAddr
  simp only [if_true, h, Bool.or_true]

/-- The PTP instance of port 0 runs, with master 7, a Sync and a request under way. -/
def ptpUp : State := up.timed { up.time with mode := 2, disc := 2 }
def ptpOf (p : Ptp) : State := ptpUp.onPort 0 fun q => { q with ptp := p }
def slave : Ptp := { Ptp.initial with master := some 7, sync := some syncHeard, request := some requested, down := some 100 }
where
  syncHeard : Nat × Int × Int × Nat := (3, 1000, 0, 1000000000)
  requested : Nat × Int := (3, 500)
def message7 (kind : Nat) (two : Bool) : PtpMsg :=
  ⟨kind, 0, 7, 3, two, 0, 0, 0, 0, Config.portIdentity 0, [], 1⟩
def knows : Ptp := { slave with delay := some 40 }
def peer : State := (ptpOf slave).putObj (portIdx 0 6) 2 [2#8]
def peerHeard : State := peer.onPort 0 fun q => { q with ptp := { slave with response := some (400, 900, 0) } }

def access (req : Nat) (write : Bool) (off ecc : Nat) : FabricReq := ⟨req, write, 0, off, [(0xFF, 5)], ecc⟩
def fabric (q : List LockSeq) (w : List LineWait) : State := up.onFab fun f => { f with seqs := q, waits := w }
def seqOf (t : Nat) : LockSeq := ⟨10, [0x8000], [(0x40000, 3)], t⟩
def fullSeq : LockSeq := ⟨10, [1, 2, 3, 4], [], 0⟩
def waitFor (req : Nat) : LineWait := ⟨req, 0x8000, false⟩
def lockWait : LineWait := ⟨10, 0x8000, true⟩
def noSeqs : List LockSeq := []
def noWaits : List LineWait := []
def pair5 : Nat × Nat := (0xFF, 5)

/-! ### Firmware, security, pairing, test access -/

def firm (f : Firmware → Firmware) : State := up.onFw f
def slotsOf (a b : FlashSlot) (s : State) : State := s.onFw fun f => { f with slots := [a, b] }
def inSlot (st : Nat) : FlashSlot := ⟨st, 0, 5⟩
def tried : FlashSlot := ⟨2, 1, 5⟩
def runsSlot (a b : FlashSlot) : State := slotsOf a b (firm fun f => { f with running := some 0 })
def boots (a b : FlashSlot) : State := slotsOf a b up
def entry0 : LedgerEntry := ⟨0, 0, 0, 1, 0, zeros 24⟩
def logged : State := { up with ledger := { up.ledger with queue := [entry0] } }
def noEntries : List LedgerEntry := []
/-- An image of the layout of Table 18-8: its digest, and four octets of zero behind the header. -/
def image (digest : Octets) : Octets :=
  toLE 4 0x4E524345 ++ toLE 4 5 ++ toLE 4 4 ++ [0#8, 1#8, 0#8, 0#8] ++ padTo 32 digest ++ zeros 16 ++ zeros 4032 ++ zeros 4
def image0 : Octets := image (toLE 32 0xD695E9504D8B158D4F7368647EEE1AB331EAD57E23103CBD25B1BE39791EA2B4)
def imaging : Transfer := checking 0x1040 0 image0
def receives : State := up.as (sess.holds imaging)
def programs : State := firm fun f => { f with programming := some (zeros 16) }
def fwH (k : Nat) : Hdr := hdr 0x21 0x1043 0 (toLE 1 k)
def roleless : Session := { sess with role := 1 }
def signing : State := { up with sec := { up.sec with attStatus := 1 } }
def leaving (dst : Nat) : State := { up with sec := { up.sec with transition := some (dst, key) } }
def starts (l : List Fn) (last : Option Fn) : State := idle.onFw fun f => { f with autoStart := l, autoLast := last }
def noFns : List Fn := []
def canBoot : State := (starts [.can 0] none).put .timeBase .running
def paired (f : Pairing → Pairing) : State := up.onPair f
def claiming : State := paired fun p => { p with armed := true }
def claimed : State := paired fun p => { p with actvO := true }
def releasing : State := paired fun p => { p with acting := true, actvO := true, releasePending := true }
def testRuns : State := paired fun p => { p with testRunning := true, actvI := true }
def returning : State := (setting 0x1C01 0 1 0x10).onPair fun p => { p with armed := true, actvI := true }
def clash : State := paired fun p => { p with actvO := true, actvI := true }
def measH : Hdr := hdr 0x21 0x1C03 0 (toLE 1 1)
def switchH : Hdr := hdr 0x21 0x1C04 0 (toLE 1 1)
def holdsRom : State := firm fun f => { f with hold := true, erased := [0] }
def flashing (t : Tap → Tap) : State := { holdsRom with tap := t { Tap.initial with ir := 0x10 } }
def flash0 : State := flashing fun t => t
def flashBusy : State := flashing fun t => { t with busy := true }
def flashHigh : State := flashing fun t => { t with offset := 0x1000 }
def flashOf (l : List Nat) (s : State) : State :=
  s.onFw fun f => { f with flash := l.flatMap fun i => image0.zipIdx.map fun x => (slotBase i + x.2, x.1) }
def bootsFrom (l : List Nat) (a b : FlashSlot) : State := flashOf l (boots a b)
def activates : State := flashOf [1] (runsSlot (inSlot 3) (inSlot 1))
def leavingLow : State := (leaving 2).powered { up.power with mramOk := false }
def testMode : State := up.powered { up.power with testMode := true }
def testFails : State := testRuns.onPair fun p => { p with testFailed := true }
def claimedInTest : State := claimed.onPair fun p => { p with testRunning := true }
def partnerActs : State := releasing.onPair fun p => { p with pairSel := true }

/-! ### Witnesses -/

theorem witness_StepTakesFrontCommand :
    waits.pending = [Instr.wake] := by
  decide +kernel

theorem witness_ClocksTickCountPairsAndCarry :
    (State.reset.pending = [] ∧ State.reset.time.ticking = false) ∧
    (up.pending = [] ∧ up.time.ticking = true ∧ up.time.pendStep = none) ∧
    (up.Shaped ∧ up.time.ticking = true ∧ up.time.pendStep = none) ∧
    (up.Shaped ∧ up.time.ticking = true ∧ up.time.pendStep = none ∧ up.time.pendInc = none ∧ 0 < up.time.inc ∧ up.time.inc < 2 ^
      64) ∧
    (stepping.pending = [] ∧ stepping.Shaped ∧ stepping.time.ticking = true ∧ stepping.time.pendStep = some (5, 7, 0) ∧ 7 <
      1000000000 ∧ 0 < 2 ^ 48) := by
  and_intros <;> first | exact shaped | decide +kernel

theorem witness_StepKeepsMachineSound :
    (up.power.Sound ∧ Memory.wf up = true ∧ up.Shaped ∧ step up = Host.Outcome.next (up.advanceTo 2)) := by
  and_intros <;>
    first
    | constructor <;> decide +kernel
    | exact (rfl : step up = .next (up.advanceTo 2))
    | exact shaped
    | decide +kernel

theorem witness_PowerUpSequence :
    State.reset.power.compReset = true ∧
    ((offline waitsForPgood).power.compReset = false ∧ (offline waitsForPgood).power.pwrEn = true ∧ (offline
      waitsForPgood).power.pgood = false) ∧
    (offline waitsForRetry).power.retry = true ∧
    ((offline waitsForPgood).power.pwrEn = true ∧ (offline waitsForPgood).power.mainReset = true ∧ (offline
      waitsForPgood).power.compReset = false ∧ (offline waitsForPgood).power.pgood = false) ∧
    (offline releases).power.releasing = true ∧
    ((offline waitsForPll).power.mainReset = false ∧ (offline waitsForPll).power.pllLocked = false) ∧
    ((offline clearsSram).power.pllLocked = true ∧ (offline clearsSram).power.mgmtUp = false) ∧
    up.power.mainReset = false := by
  and_intros <;> decide +kernel

theorem witness_ResetSourcesClearTheMainDie :
    up.inReset = false ∧
    (up.inReset = false ∧ up.power.mgmtUp = true) ∧
    (up.inReset = false ∧ up.power.mainReset = false ∧ up.power.pgood = true) ∧
    (up.inReset = false ∧ up.power.mainReset = false ∧ (↑0 : Nat) ∈ [0, 1, 3, 7]) ∧
    (up.inReset = false ∧ up.power.mainReset = false ∧ (↑7 : Nat) ∈ [0, 1, 3, 7]) ∧
    cm2Waits.inReset = false ∧
    (cm2Waits.inReset = false ∧ cm2Waits.power.mgmtUp = true) ∧
    (cm2Waits.inReset = false ∧ cm2Waits.power.mainReset = false ∧ cm2Waits.power.pgood = true) ∧
    (cm2Waits.inReset = false ∧ cm2Waits.power.mainReset = false ∧ (↑0 : Nat) ∈ [0, 1, 3, 7]) ∧
    (cm2Waits.inReset = false ∧ cm2Waits.power.mainReset = false ∧ (↑7 : Nat) ∈ [0, 1, 3, 7]) ∧
    (State.reset.inReset = true ∧ State.reset.power.mainReset = true ∧ (↑2 : Nat) ∈ [0, 1, 2, 3, 7]) ∧
    (State.reset.inReset = true ∧ State.reset.power.mainReset = true ∧ (↑7 : Nat) ∈ [0, 1, 2, 3, 7]) ∧
    (State.reset.power.deviceReset = true ∧ (Instr.sysReset, 1) ∈ [(Instr.sysReset, 1), (Instr.companionClockFault, 2)]) ∧
    (State.reset.power.deviceReset = true ∧ (Instr.companionClockFault, 2) ∈ [(Instr.sysReset, 1), (Instr.companionClockFault,
      2)]) := by
  and_intros <;> decide +kernel

theorem witness_ClockMonitorsSensorsAndLowPower :
    (up.inReset = false ∧ up.power.mainReset = false ∧ (∀ (g : Nat), g < 8 → bitAt (up.groupCfg g) 6 = false)) ∧
    (shorts.inReset = false ∧ shorts.power.mainReset = false ∧ (∃ (g : Nat), g < 8 ∧ bitAt (shorts.groupCfg g) 6 = true)) ∧
    (cm2Waits.inReset = false ∧ cm2Waits.power.mainReset = false ∧ cm2Waits.power.cm2Short ≠ []) ∧
    (up.power.mainReset = false ∧ up.Shaped ∧ up.fnSt Fn.safety ≠ FnState.fault) ∧
    (up.power.mainReset = false ∧ up.Shaped) ∧
    up.power.mainReset = false ∧
    (up.power.pwrEn = true ∧ up.power.compReset = false) ∧
    ((offline mainOff).power.mode = 3 ∧ (offline mainOff).power.deviceReset = false) ∧
    (up.powered waking).power.mode = 4 ∧
    (calm.temps[0]? = some (List.replicate 16 250) ∧ (16 ∣ List.foldl (fun (x1 x2 : Int) => x1 + x2) 0 (List.replicate 16 250))) ∧
    ((offline mainOff).power.mainReset = true ∧ ((offline mainOff).inReset = false ∨ ∀ (v : Nat), v ∈ outOfAction (meansOf
      lowCore).volts → 15 ≤ v ∨ v ≤ 11 ∧ (offline mainOff).power.pgood = false)) ∧
    (State.reset.power.mainReset = true ∧ (State.reset.inReset = false ∨ ∀ (v : Nat), v ∈ outOfAction (meansOf calm).volts → 15
      ≤ v ∨ v ≤ 11 ∧ State.reset.power.pgood = false)) ∧
    ((offline waitsForPll0).power.mainReset = true ∧ (offline waitsForPll0).inReset = true ∧ (offline waitsForPll0).power.pgood
      = true ∧ (∃ (v : Nat), v ∈ outOfAction (meansOf lowCore).volts ∧ v ≤ 11) ∧ (∀ (v : Nat), v ∈ outOfAction (meansOf
      lowCore).volts → v ≤ 11 ∨ 15 ≤ v)) ∧
    (State.reset.power.mainReset = true ∧ State.reset.inReset = true ∧ (∃ (v : Nat), v ∈ outOfAction (meansOf
      lowCompanion).volts ∧ 12 ≤ v ∧ v ≤ 14)) ∧
    (up.power.mainReset = false ∧ (∀ (v : Nat), v ∈ outOfAction (meansOf calm).volts → 15 ≤ v) ∧ (highest (meansOf calm).temps
      20 23 < 1200 ∨ up.saf.faultB = true)) ∧
    (up.power.mainReset = false ∧ (∀ (v : Nat), v ∈ outOfAction (meansOf hot).volts → 15 ≤ v) ∧ 1200 ≤ highest (meansOf
      hot).temps 20 23 ∧ up.saf.faultB = false ∧ up.fnSt Fn.safety ≠ FnState.fault ∧ up.Shaped) ∧
    (up.inReset = false ∧ up.power.mainReset = false ∧ (∀ (v : Nat), v ∈ outOfAction (meansOf lowCore).volts → v < 12 ∨ 14 < v)
      ∧ (∃ (v : Nat), v ∈ outOfAction (meansOf lowCore).volts ∧ v ≤ 11)) ∧
    (up.inReset = false ∧ up.power.mainReset = false ∧ (∃ (v : Nat), v ∈ outOfAction (meansOf lowCompanion).volts ∧ 12 ≤ v ∧ v ≤
      14)) ∧
    (up.inReset = false ∧ up.power.mainReset = false ∧ (∃ (v : Nat), v ∈ outOfAction (meansOf lowBoth).volts ∧ 12 ≤ v ∧ v ≤ 14)) := by
  and_intros <;> first | exact ⟨7, by decide, by decide +kernel⟩ | exact shaped | decide +kernel | rfl

theorem witness_AdmittedRequestsReadAndWrite :
    Admitted up readWarn sess ∧
    (((crowded118.advanceTo readWarn.h.at_).heard readWarn.h.src).snd = true ∧ (crowded118.carried readWarn).snd = false) ∧
    (((crowded118.advanceTo readWarn.h.at_).heard readWarn.h.src).snd = true ∧ readWarn.h.src.port < 2 ∧ (crowded118.arrived
      readWarn.h).isRunning Fn.waystation = true ∧ (crowded118.arrived readWarn.h).way.requestsWait = true) ∧
    (Admitted up (readReq (hdr 32 0x1032 0 []) 0x1032 0) sess ∧ lookup 0x1032 0 = Lookup.found (card 0x1032 0) ∧ up.available
      0x1032 false = true ∧ (card 0x1032 0).acc ≠ Access.wo ∧ (card 0x1032 0).ty.isDomain = false ∧ 0x1032 ≠ 0x3E01) ∧
    (Admitted up (readReq (hdr 32 0x3E01 1 []) 0x3E01 1) sess ∧ (1 = 1 ∨ 1 = 2) ∧ up.available 0x3E01 false = true ∧ sess.latch
      = none) ∧
    (Admitted up (readReq (hdr 32 0x3E01 2 []) 0x3E01 2) sess ∧ (2 = 1 ∨ 2 = 2) ∧ up.available 0x3E01 false = true ∧ sess.latch
      = none) ∧
    (Admitted (up.as readClock) (readReq (hdr 32 0x3E01 2 []) 0x3E01 (3 - 1)) readClock ∧ (1 = 1 ∨ 1 = 2) ∧ (up.as
      readClock).available 0x3E01 false = true ∧ readClock.latch = some (1, 5, 6, 7)) ∧
    (Fn.ofBase 0x1032 = none ∧ cardAt 0x1032 0 = some (card 0x1032 0) ∧ stores 0x1032 (card 0x1032 0) = true ∧ Granted up (hdr
      33 0x1032 0 (toLE 2 700)) 0x1032 0 (toLE 2 700) sess) ∧
    (Fn.ofBase 0x1032 = none ∧ cardAt 0x1032 0 = some (card 0x1032 0) ∧ stores 0x1032 (card 0x1032 0) = true ∧ Admitted up
      (writeReq (hdr 33 0x1032 0 (toLE 2 1101)) 0x1032 0 (toLE 2 1101)) sess ∧ (up.served (writeReq (hdr 33 0x1032 0 (toLE 2
      1101)) 0x1032 0 (toLE 2 1101)) sess).writeAccess sess 0x1032 (card 0x1032 0) = none ∧ (card 0x1032 0).ty.isDomain = false
      ∧ List.length (toLE 2 1101) = (card 0x1032 0).ty.size ∧ (up.served (writeReq (hdr 33 0x1032 0 (toLE 2 1101)) 0x1032 0
      (toLE 2 1101)) sess).stateRefused sess 0x1032 0 (leNat (toLE 2 1101)) (card 0x1032 0) = none ∧ (card 0x1032 0).ok (leNat
      (toLE 2 1101)) = false) := by
  and_intros <;> first | exact admitted | exact granted | decide +kernel | rfl

theorem witness_EarlyRefusalsAndRateLimits :
    (Reaches up otherVersion ∧ otherVersion.h.version ≠ 1) ∧
    (Reaches up otherOp ∧ otherOp.h.version = 1 ∧ ¬otherOp.op ∈ requestOpcodes) ∧
    (Reaches up wrongLength ∧ wrongLength.h.version = 1 ∧ wrongLength.op ∈ requestOpcodes ∧ (wrongLength.h.len ≠ List.length
      wrongLength.data ∨ (if wrongLength.h.src.port < 2 then 1028 else 32) < List.length wrongLength.data)) ∧
    (Reaches silent readWarn ∧ readWarn.formRefused = none ∧ (silent.arrived readWarn.h).session readWarn.h.session = none) ∧
    (Reaches up otherHost ∧ otherHost.formRefused = none ∧ (up.arrived otherHost.h).session otherHost.h.session = some sess ∧
      sess.src ≠ otherHost.h.src) ∧
    (Reaches up badTag ∧ badTag.formRefused = none ∧ (up.arrived badTag.h).session badTag.h.session = some sess ∧ sess.src =
      badTag.h.src ∧ badTag.h.tag ≠ reqTag sess.key badTag.octets) ∧
    (Reaches (up.as repeated) readWarn ∧ readWarn.formRefused = none ∧ ((up.as repeated).arrived readWarn.h).session
      readWarn.h.session = some repeated ∧ repeated.src = readWarn.h.src ∧ readWarn.h.tag = reqTag repeated.key readWarn.octets
      ∧ readWarn.h.seq = repeated.lastSeq ∧ readWarn.octets ++ readWarn.h.tag = repeated.lastReq ∧ repeated.lastRsp ≠ []) ∧
    (Reaches (up.as exhausted) readWarn ∧ readWarn.formRefused = none ∧ ((up.as exhausted).arrived readWarn.h).session
      readWarn.h.session = some exhausted ∧ exhausted.src = readWarn.h.src ∧ readWarn.h.tag = reqTag exhausted.key
      readWarn.octets ∧ (readWarn.h.seq ≠ exhausted.lastSeq ∨ readWarn.octets ++ readWarn.h.tag ≠ exhausted.lastReq) ∧
      exhausted.lastSeq = 4294967295) ∧
    (Reaches (up.as ahead) readWarn ∧ readWarn.formRefused = none ∧ ((up.as ahead).arrived readWarn.h).session
      readWarn.h.session = some ahead ∧ ahead.src = readWarn.h.src ∧ readWarn.h.tag = reqTag ahead.key readWarn.octets ∧
      (readWarn.h.seq ≠ ahead.lastSeq ∨ readWarn.octets ++ readWarn.h.tag ≠ ahead.lastReq) ∧ ahead.lastSeq ≠ 4294967295 ∧
      readWarn.h.seq ≠ ahead.lastSeq + 1) ∧
    (Reaches (up.as busy) readWarn ∧ readWarn.formRefused = none ∧ ((up.as busy).arrived readWarn.h).session readWarn.h.session
      = some busy ∧ busy.src = readWarn.h.src ∧ readWarn.h.tag = reqTag busy.key readWarn.octets ∧ busy.lastSeq ≠ 4294967295 ∧
      readWarn.h.seq = busy.lastSeq + 1 ∧ (2000 ≤ (((up.as busy).arrived readWarn.h).recent busy.reqAt).length ∨ 10000 ≤
      (((up.as busy).arrived readWarn.h).recent ((up.as busy).arrived readWarn.h).dict.reqAt).length)) :=
  ⟨⟨reaches, by decide +kernel⟩,
    ⟨reaches, by decide +kernel, by decide +kernel⟩,
    ⟨reaches, by decide +kernel, by decide +kernel, by decide +kernel⟩,
    ⟨reaches, by decide +kernel, by decide +kernel⟩,
    ⟨reaches, by decide +kernel, by decide +kernel, by decide +kernel⟩,
    ⟨reaches, by decide +kernel, by decide +kernel, by decide +kernel, badTag_refused⟩,
    ⟨reaches, by decide +kernel, rfl, by decide +kernel, readWarn_tag, by decide +kernel, readWarn_repeats, by decide +kernel⟩,
    ⟨reaches, by decide +kernel, by decide +kernel, by decide +kernel, readWarn_tag, Or.inl (by decide +kernel),
      by decide +kernel⟩,
    ⟨reaches, by decide +kernel, by decide +kernel, by decide +kernel, readWarn_tag, Or.inl (by decide +kernel),
      by decide +kernel, by decide +kernel⟩,
    ⟨reaches, by decide +kernel, by decide +kernel, by decide +kernel, readWarn_tag, by decide +kernel, by decide +kernel,
      by decide +kernel⟩⟩

theorem witness_UndefinedObjectsAreRefused :
    (Admitted up (readReq (hdr 32 0xFFFF 0 []) 0xFFFF 0) sess ∧ lookup 0xFFFF 0 = Lookup.noIndex) ∧
    (Admitted up (writeReq (hdr 33 0xFFFF 0 [0#8]) 0xFFFF 0 [0#8]) sess ∧ lookup 0xFFFF 0 = Lookup.noIndex) ∧
    (Admitted up (readReq (hdr 32 0x1032 1 []) 0x1032 1) sess ∧ lookup 0x1032 1 = Lookup.noSub) ∧
    (Admitted up (writeReq (hdr 33 0x1032 1 [0#8]) 0x1032 1 [0#8]) sess ∧ lookup 0x1032 1 = Lookup.noSub) := by
  and_intros <;> first | exact admitted | rfl

theorem witness_WriteChecksOfStepEight :
    (lookup 0x2022 0 = Lookup.found (card 0x2022 0) ∧ Admitted blank (writeReq (hdr 33 0x2022 0 (toLE 2 480)) 0x2022 0 (toLE 2
      480)) sess ∧ blank.available 0x2022 true = false) ∧
    (lookup 0x100A 0 = Lookup.found (card 0x100A 0) ∧ Admitted up (writeReq (hdr 33 0x100A 0 (toLE 4 1)) 0x100A 0 (toLE 4 1))
      sess ∧ up.available 0x100A true = true ∧ ((card 0x100A 0).acc = Access.ro ∨ (card 0x100A 0).acc = Access.const)) ∧
    (lookup 0xA100 0 = Lookup.found (card 0xA100 0) ∧ Admitted up (writeReq (hdr 33 0xA100 0 [0#8]) 0xA100 0 [0#8]) sess ∧
      up.available 0xA100 true = true ∧ (card 0xA100 0).acc = Access.safe ∧ sess.role ≠ 3) ∧
    (lookup 0x1032 0 = Lookup.found (card 0x1032 0) ∧ Admitted (up.as observer) (writeReq (hdr 33 0x1032 0 (toLE 2 700)) 0x1032
      0 (toLE 2 700)) observer ∧ (up.as observer).available 0x1032 true = true ∧ (card 0x1032 0).acc ≠ Access.ro ∧ (card 0x1032
      0).acc ≠ Access.const ∧ ((card 0x1032 0).acc = Access.safe → observer.role = 3) ∧ (up.as observer).mayWrite observer
      0x1032 (card 0x1032 0) = false) ∧
    (lookup 0x1032 0 = Lookup.found (card 0x1032 0) ∧ Admitted up (writeReq (hdr 33 0x1032 0 (toLE 1 7)) 0x1032 0 (toLE 1 7))
      sess ∧ up.available 0x1032 true = true ∧ (card 0x1032 0).acc ≠ Access.ro ∧ (card 0x1032 0).acc ≠ Access.const ∧ ((card
      0x1032 0).acc = Access.safe → sess.role = 3) ∧ up.mayWrite sess 0x1032 (card 0x1032 0) = true ∧ ((card 0x1032
      0).ty.isDomain = true ∨ List.length (toLE 1 7) ≠ (card 0x1032 0).ty.size)) ∧
    (lookup 0xA100 0 = Lookup.found (card 0xA100 0) ∧ Admitted (up.as commissioner) (writeReq (hdr 33 0xA100 0 [0#8]) 0xA100 0
      [0#8]) commissioner ∧ (up.as commissioner).available 0xA100 true = true ∧ (card 0xA100 0).acc ≠ Access.ro ∧ (card 0xA100
      0).acc ≠ Access.const ∧ ((card 0xA100 0).acc = Access.safe → commissioner.role = 3) ∧ (up.as commissioner).mayWrite
      commissioner 0xA100 (card 0xA100 0) = true ∧ ((card 0xA100 0).ty.isDomain = true ∨ [0#8].length ≠ (card 0xA100
      0).ty.size)) ∧
    (lookup 0x2022 0 = Lookup.found (card 0x2022 0) ∧ Admitted blank (readReq (hdr 32 0x2022 0 []) 0x2022 0) sess ∧
      blank.available 0x2022 false = false) ∧
    (lookup 0x2022 0 = Lookup.found (card 0x2022 0) ∧ Admitted up (readReq (hdr 32 0x2022 0 []) 0x2022 0) sess ∧ up.available
      0x2022 false = true ∧ (card 0x2022 0).acc = Access.wo) ∧
    (lookup 0x1A03 0 = Lookup.found (card 0x1A03 0) ∧ Admitted up (readReq (hdr 32 0x1A03 0 []) 0x1A03 0) sess ∧ up.available
      0x1A03 false = true ∧ (card 0x1A03 0).acc ≠ Access.wo ∧ (card 0x1A03 0).ty.isDomain = true) := by
  and_intros <;> first | exact admitted | decide +kernel | rfl

theorem witness_RefusedWriteChangesNoUnit :
    (Admitted up (writeReq (hdr 33 0xFFFF 0 [0#8]) 0xFFFF 0 [0#8]) sess ∧ (up.served (writeReq (hdr 33 0xFFFF 0 [0#8]) 0xFFFF 0
      [0#8]) sess).writeRefused sess 0xFFFF 0 [0#8] = some abNoIndex) ∧
    (Admitted up (writeReq (hdr 33 0x100A 0 (toLE 4 1)) 0x100A 0 (toLE 4 1)) sess ∧ (up.served (writeReq (hdr 33 0x100A 0 (toLE
      4 1)) 0x100A 0 (toLE 4 1)) sess).writeRefused sess 0x100A 0 (toLE 4 1) = some abReadOnly) ∧
    (Admitted up (writeReq (hdr 33 0x1032 0 (toLE 2 1101)) 0x1032 0 (toLE 2 1101)) sess ∧ (up.served (writeReq (hdr 33 0x1032 0
      (toLE 2 1101)) 0x1032 0 (toLE 2 1101)) sess).writeRefused sess 0x1032 0 (toLE 2 1101) = some abRange) ∧
    (Admitted up (writeReq (hdr 33 0x1032 0 [0#8]) 0x1032 0 [0#8]) sess ∧ (up.served (writeReq (hdr 33 0x1032 0 [0#8]) 0x1032 0
      [0#8]) sess).writeRefused sess 0x1032 0 [0#8] = some abLength) ∧
    (Admitted up (writeReq (hdr 33 0x3E00 2 (toLE 1 1)) 0x3E00 2 (toLE 1 1)) sess ∧ (up.served (writeReq (hdr 33 0x3E00 2 (toLE
      1 1)) 0x3E00 2 (toLE 1 1)) sess).writeRefused sess 0x3E00 2 (toLE 1 1) = some abState) := by
  and_intros <;> first | exact admitted | decide +kernel

theorem witness_SessionsOpenAndClose :
    (Reaches (keyed silent) (Req.mk openHdr 16 0 0 (toLE 1 0 ++ zeros 15 ++ zeros 16)) ∧ openHdr.version = 1 ∧ openHdr.len = 32
      ∧ List.length (toLE 1 0 ++ zeros 15 ++ zeros 16) = 32 ∧ 0 < 8 ∧ (keyed silent).keySlot 0 = some (KeySlot.mk 2 true key) ∧
      (KeySlot.mk 2 true key).enabled = true ∧ (keyed silent).dict.sessions.length < 8 ∧ ((KeySlot.mk 2 true key).role = 3 → ∀
      (y : Session), y ∈ (keyed silent).dict.sessions → y.role ≠ 3) ∧ (((keyed silent).arrived openHdr).recent (keyed
      silent).dict.reqAt).length < 10000) ∧
    (Reaches (keyed silent) (Req.mk openHdr 16 0 0 (toLE 1 1 ++ zeros 15 ++ zeros 16)) ∧ openHdr.version = 1 ∧ openHdr.len = 32
      ∧ List.length (toLE 1 1 ++ zeros 15 ++ zeros 16) = 32 ∧ 1 < 8 ∧ (keyed silent).keySlot 1 = some (KeySlot.mk 3 true key) ∧
      (KeySlot.mk 3 true key).enabled = true ∧ (keyed silent).dict.sessions.length < 8 ∧ ((KeySlot.mk 3 true key).role = 3 → ∀
      (y : Session), y ∈ (keyed silent).dict.sessions → y.role ≠ 3) ∧ (((keyed silent).arrived openHdr).recent (keyed
      silent).dict.reqAt).length < 10000) ∧
    Admitted up (Req.mk (hdr 17 0 0 []) 17 0 0 []) sess ∧
    ((up.as unconfirmed).session 1 = some unconfirmed ∧ unconfirmed.confirmed = false) ∧
    (Reaches (keyed up) (Req.mk openHdr 16 0 0 (toLE 1 8 ++ zeros 15 ++ zeros 16)) ∧ openHdr.version = 1 ∧ openHdr.len = 32 ∧
      List.length (toLE 1 8 ++ zeros 15 ++ zeros 16) = 32 ∧ (((keyed up).arrived openHdr).recent (keyed up).dict.reqAt).length <
      10000 ∧ ((8 ≤ 8 ∨ (keyed up).keySlot 8 = none ∨ ∃ (k : KeySlot), (keyed up).keySlot 8 = some k ∧ k.enabled = false) ∧
      abKeySlot = 33554439 ∨ 8 < 8 ∧ (∃ (k : KeySlot), (keyed up).keySlot 8 = some k ∧ k.enabled = true) ∧ 8 ≤ (keyed
      up).dict.sessions.length ∧ abKeySlot = 33554438 ∨ 8 < 8 ∧ (∃ (k : KeySlot), (keyed up).keySlot 8 = some k ∧ k.enabled =
      true ∧ k.role = 3) ∧ (keyed up).dict.sessions.length < 8 ∧ (∃ (y : Session), y ∈ (keyed up).dict.sessions ∧ y.role = 3) ∧
      abKeySlot = 33554441)) ∧
    (Reaches (keyed up) (Req.mk openHdr 16 0 0 (toLE 1 7 ++ zeros 15 ++ zeros 16)) ∧ openHdr.version = 1 ∧ openHdr.len = 32 ∧
      List.length (toLE 1 7 ++ zeros 15 ++ zeros 16) = 32 ∧ (((keyed up).arrived openHdr).recent (keyed up).dict.reqAt).length <
      10000 ∧ ((8 ≤ 7 ∨ (keyed up).keySlot 7 = none ∨ ∃ (k : KeySlot), (keyed up).keySlot 7 = some k ∧ k.enabled = false) ∧
      abKeySlot = 33554439 ∨ 7 < 8 ∧ (∃ (k : KeySlot), (keyed up).keySlot 7 = some k ∧ k.enabled = true) ∧ 8 ≤ (keyed
      up).dict.sessions.length ∧ abKeySlot = 33554438 ∨ 7 < 8 ∧ (∃ (k : KeySlot), (keyed up).keySlot 7 = some k ∧ k.enabled =
      true ∧ k.role = 3) ∧ (keyed up).dict.sessions.length < 8 ∧ (∃ (y : Session), y ∈ (keyed up).dict.sessions ∧ y.role = 3) ∧
      abKeySlot = 33554441)) ∧
    (Reaches (keyed up) (Req.mk openHdr 16 0 0 (toLE 1 2 ++ zeros 15 ++ zeros 16)) ∧ openHdr.version = 1 ∧ openHdr.len = 32 ∧
      List.length (toLE 1 2 ++ zeros 15 ++ zeros 16) = 32 ∧ (((keyed up).arrived openHdr).recent (keyed up).dict.reqAt).length <
      10000 ∧ ((8 ≤ 2 ∨ (keyed up).keySlot 2 = none ∨ ∃ (k : KeySlot), (keyed up).keySlot 2 = some k ∧ k.enabled = false) ∧
      abKeySlot = 33554439 ∨ 2 < 8 ∧ (∃ (k : KeySlot), (keyed up).keySlot 2 = some k ∧ k.enabled = true) ∧ 8 ≤ (keyed
      up).dict.sessions.length ∧ abKeySlot = 33554438 ∨ 2 < 8 ∧ (∃ (k : KeySlot), (keyed up).keySlot 2 = some k ∧ k.enabled =
      true ∧ k.role = 3) ∧ (keyed up).dict.sessions.length < 8 ∧ (∃ (y : Session), y ∈ (keyed up).dict.sessions ∧ y.role = 3) ∧
      abKeySlot = 33554441)) ∧
    (Reaches (keyed full) (Req.mk openHdr 16 0 0 (toLE 1 0 ++ zeros 15 ++ zeros 16)) ∧ openHdr.version = 1 ∧ openHdr.len = 32 ∧
      List.length (toLE 1 0 ++ zeros 15 ++ zeros 16) = 32 ∧ (((keyed full).arrived openHdr).recent (keyed
      full).dict.reqAt).length < 10000 ∧ ((8 ≤ 0 ∨ (keyed full).keySlot 0 = none ∨ ∃ (k : KeySlot), (keyed full).keySlot 0 =
      some k ∧ k.enabled = false) ∧ abSessionsFull = 33554439 ∨ 0 < 8 ∧ (∃ (k : KeySlot), (keyed full).keySlot 0 = some k ∧
      k.enabled = true) ∧ 8 ≤ (keyed full).dict.sessions.length ∧ abSessionsFull = 33554438 ∨ 0 < 8 ∧ (∃ (k : KeySlot), (keyed
      full).keySlot 0 = some k ∧ k.enabled = true ∧ k.role = 3) ∧ (keyed full).dict.sessions.length < 8 ∧ (∃ (y : Session), y ∈
      (keyed full).dict.sessions ∧ y.role = 3) ∧ abSessionsFull = 33554441)) ∧
    (Reaches (keyed (up.as commissioner)) (Req.mk openHdr 16 0 0 (toLE 1 1 ++ zeros 15 ++ zeros 16)) ∧ openHdr.version = 1 ∧
      openHdr.len = 32 ∧ List.length (toLE 1 1 ++ zeros 15 ++ zeros 16) = 32 ∧ (((keyed (up.as commissioner)).arrived
      openHdr).recent (keyed (up.as commissioner)).dict.reqAt).length < 10000 ∧ ((8 ≤ 1 ∨ (keyed (up.as commissioner)).keySlot 1
      = none ∨ ∃ (k : KeySlot), (keyed (up.as commissioner)).keySlot 1 = some k ∧ k.enabled = false) ∧ abSafetySession =
      33554439 ∨ 1 < 8 ∧ (∃ (k : KeySlot), (keyed (up.as commissioner)).keySlot 1 = some k ∧ k.enabled = true) ∧ 8 ≤ (keyed
      (up.as commissioner)).dict.sessions.length ∧ abSafetySession = 33554438 ∨ 1 < 8 ∧ (∃ (k : KeySlot), (keyed (up.as
      commissioner)).keySlot 1 = some k ∧ k.enabled = true ∧ k.role = 3) ∧ (keyed (up.as commissioner)).dict.sessions.length < 8
      ∧ (∃ (y : Session), y ∈ (keyed (up.as commissioner)).dict.sessions ∧ y.role = 3) ∧ abSafetySession = 33554441)) := by
  and_intros <;> first | exact reaches | exact admitted | decide +kernel

theorem witness_SegmentedTransfers :
    (Admitted up (Req.mk (hdr 48 0x1A03 0 []) 48 0x1A03 0 []) sess ∧ (up.served (Req.mk (hdr 48 0x1A03 0 []) 48 0x1A03 0 [])
      sess).readInitRefused sess 0x1A03 0 = none) ∧
    (Admitted (up.as (sess.holds reading)) (Req.mk (hdr 49 0 0 (toLE 4 0)) 49 0 0 (toLE 4 0)) (sess.holds reading) ∧ (sess.holds
      reading).xfer = some reading ∧ reading.write = false ∧ reading.checking = false ∧ reading.total = List.length
      reading.content ∧ reading.done ≤ reading.total ∧ 0 = reading.done) ∧
    (Admitted (up.as (sess.holds readEnd)) (Req.mk (hdr 49 0 0 (toLE 4 1024)) 49 0 0 (toLE 4 1024)) (sess.holds readEnd) ∧
      (sess.holds readEnd).xfer = some readEnd ∧ readEnd.write = false ∧ readEnd.checking = false ∧ readEnd.total = List.length
      readEnd.content ∧ readEnd.done ≤ readEnd.total ∧ 1024 = readEnd.done) ∧
    (Admitted (up.as (sess.holds reading)) (Req.mk (hdr 49 0 0 (toLE 4 1)) 49 0 0 (toLE 4 1)) (sess.holds reading) ∧ (sess.holds
      reading).xfer = some reading ∧ reading.write = false ∧ reading.checking = false ∧ 1 ≠ reading.done) ∧
    (Admitted up (Req.mk (hdr 49 0 0 (toLE 4 0)) 49 0 0 (toLE 4 0)) sess ∧ sess.xfer = none) ∧
    (Admitted up (Req.mk (hdr 50 0x1810 1 (toLE 4 36)) 50 0x1810 1 (toLE 4 36)) sess ∧ (up.served (Req.mk (hdr 50 0x1810 1 (toLE
      4 36)) 50 0x1810 1 (toLE 4 36)) sess).writeInitRefused sess 0x1810 1 36 = none) ∧
    (Admitted idle (Req.mk (hdr 50 0x2404 0 (toLE 4 1024)) 50 0x2404 0 (toLE 4 1024)) sess ∧ (idle.served (Req.mk (hdr 50 0x2404
      0 (toLE 4 1024)) 50 0x2404 0 (toLE 4 1024)) sess).writeInitRefused sess 0x2404 0 1024 = none) ∧
    (Admitted (up.as (sess.holds writing)) (Req.mk (hdrF 0 51 0 0 (toLE 4 0 ++ zeros 12)) 51 0 0 (toLE 4 0 ++ zeros 12))
      (sess.holds writing) ∧ (sess.holds writing).xfer = some writing ∧ writing.write = true ∧ writing.checking = false ∧ 0 =
      writing.done ∧ writing.done + List.length (zeros 12) ≤ writing.total ∧ bitAt (hdrF 0 51 0 0 (toLE 4 0 ++ zeros 12)).flags
      0 = false) ∧
    (Admitted (up.as (sess.holds writing)) (Req.mk (hdrF 0 51 0 0 (toLE 4 0 ++ zeros 36)) 51 0 0 (toLE 4 0 ++ zeros 36))
      (sess.holds writing) ∧ (sess.holds writing).xfer = some writing ∧ writing.write = true ∧ writing.checking = false ∧ 0 =
      writing.done ∧ writing.done + List.length (zeros 36) ≤ writing.total ∧ bitAt (hdrF 0 51 0 0 (toLE 4 0 ++ zeros 36)).flags
      0 = false) ∧
    (Admitted (up.as (sess.holds writing)) (Req.mk (hdrF 1 51 0 0 (toLE 4 0 ++ zeros 36)) 51 0 0 (toLE 4 0 ++ zeros 36))
      (sess.holds writing) ∧ (sess.holds writing).xfer = some writing ∧ writing.write = true ∧ writing.checking = false ∧ 0 =
      writing.done ∧ writing.done + List.length (zeros 36) = writing.total ∧ bitAt (hdrF 1 51 0 0 (toLE 4 0 ++ zeros 36)).flags
      0 = true ∧ writing.left = false) ∧
    (Admitted (up.as (sess.holds writing)) (Req.mk (hdrF 0 51 0 0 (toLE 4 4 ++ zeros 12)) 51 0 0 (toLE 4 4 ++ zeros 12))
      (sess.holds writing) ∧ (sess.holds writing).xfer = some writing ∧ writing.write = true ∧ writing.checking = false ∧ 4 ≠
      writing.done) ∧
    (Admitted (up.as (sess.holds writing)) (Req.mk (hdrF 0 51 0 0 (toLE 4 0 ++ zeros 37)) 51 0 0 (toLE 4 0 ++ zeros 37))
      (sess.holds writing) ∧ (sess.holds writing).xfer = some writing ∧ writing.write = true ∧ writing.checking = false ∧ 0 =
      writing.done ∧ (writing.total < writing.done + List.length (zeros 37) ∨ bitAt (hdrF 0 51 0 0 (toLE 4 0 ++ zeros 37)).flags
      0 = true ∧ writing.done + List.length (zeros 37) ≠ writing.total)) ∧
    (Admitted (up.as (sess.holds writing)) (Req.mk (hdrF 1 51 0 0 (toLE 4 0 ++ zeros 35)) 51 0 0 (toLE 4 0 ++ zeros 35))
      (sess.holds writing) ∧ (sess.holds writing).xfer = some writing ∧ writing.write = true ∧ writing.checking = false ∧ 0 =
      writing.done ∧ (writing.total < writing.done + List.length (zeros 35) ∨ bitAt (hdrF 1 51 0 0 (toLE 4 0 ++ zeros 35)).flags
      0 = true ∧ writing.done + List.length (zeros 35) ≠ writing.total)) ∧
    (Admitted (up.as (sess.holds overtaken)) (Req.mk (hdrF 1 51 0 0 (toLE 4 0 ++ zeros 36)) 51 0 0 (toLE 4 0 ++ zeros 36))
      (sess.holds overtaken) ∧ (sess.holds overtaken).xfer = some overtaken ∧ overtaken.write = true ∧ overtaken.checking =
      false ∧ 0 = overtaken.done ∧ overtaken.done + List.length (zeros 36) = overtaken.total ∧ bitAt (hdrF 1 51 0 0 (toLE 4 0 ++
      zeros 36)).flags 0 = true ∧ overtaken.left = true) ∧
    (Admitted (up.as (sess.holds writing)) (Req.mk (hdr 52 0 0 []) 52 0 0 []) (sess.holds writing) ∧ (sess.holds writing).xfer =
      some writing ∧ writing.checking = false) ∧
    (Admitted up (Req.mk (hdr 52 0 0 []) 52 0 0 []) sess ∧ sess.xfer = none) ∧
    ((up.as (sess.holds writing)).session 1 = some (sess.holds writing) ∧ (sess.holds writing).xfer = some writing ∧
      writing.checking = false) := by
  and_intros <;> first | exact admitted | decide +kernel

theorem witness_ContentChecksDecideDomainWrites :
    ((up.as (sess.holds lensLate)).checkingIn 1 = some (sess.holds lensLate, lensLate, card 0x2404 0) ∧ lensLate.left = true) ∧
    ((up.as (sess.holds lensShort)).checkingIn 1 = some (sess.holds lensShort, lensShort, card 0x2404 0) ∧ lensShort.left =
      false ∧ (up.as (sess.holds lensShort)).contentRefused (sess.holds lensShort) lensShort.idx lensShort.sub (card 0x2404 0)
      lensShort.content = some abContent) ∧
    ((up.as (sess.holds lens)).checkingIn 1 = some (sess.holds lens, lens, card 0x2404 0) ∧ lens.left = false ∧ (up.as
      (sess.holds lens)).contentRefused (sess.holds lens) lens.idx lens.sub (card 0x2404 0) lens.content = none ∧ (card 0x2404
      0).acc ≠ Access.safe ∧ ¬lens.idx ∈ [0x1040, 0x1801, 0x1803, 0x1810, 0x1820] ∧ (¬(0x2E20 ≤ lens.idx ∧ lens.idx ≤ 0x2E2F))) ∧
    ((idle.as (commissioner.holds safeWriting)).checkingIn 1 = some (commissioner.holds safeWriting, safeWriting, card 0xA100 0)
      ∧ safeWriting.left = false ∧ (idle.as (commissioner.holds safeWriting)).contentRefused (commissioner.holds safeWriting)
      safeWriting.idx safeWriting.sub (card 0xA100 0) safeWriting.content = none ∧ (card 0xA100 0).acc = Access.safe ∧
      ¬safeWriting.idx ∈ [0x1040, 0x1801, 0x1803, 0x1810, 0x1820]) ∧
    (((keyed up).as (sess.holds newKey)).checkingIn 1 = some (sess.holds newKey, newKey, card 0x1810 1) ∧ newKey.left = false ∧
      ((keyed up).as (sess.holds newKey)).contentRefused (sess.holds newKey) newKey.idx newKey.sub (card 0x1810 1)
      newKey.content = none ∧ newKey.idx = 0x1810 ∧ ((keyed up).as (sess.holds newKey)).sec.keys.length = 8 ∧ 1 ≤ newKey.sub ∧
      newKey.sub ≤ 8) ∧
    ((up.as (sess.holds challenge)).checkingIn 1 = some (sess.holds challenge, challenge, card 0x1820 0) ∧ challenge.left =
      false ∧ (up.as (sess.holds challenge)).contentRefused (sess.holds challenge) challenge.idx challenge.sub (card 0x1820 0)
      challenge.content = none ∧ challenge.idx = 0x1820 ∧ (up.as (sess.holds challenge)).power.mramOk = true) ∧
    ((up.as (sess.holds authorisation)).checkingIn 1 = some (sess.holds authorisation, authorisation, card 0x1803 0) ∧
      authorisation.left = false ∧ authorisation.idx = 0x1803 ∧ (card 0x1803 0).lengthOk (List.length authorisation.content) =
      true) := by
  and_intros <;> first | decide +kernel | rfl

theorem witness_StartStopAndClear :
    (Fn.timeBase.exists = true ∧ (up.put Fn.timeBase FnState.stopped).Shaped ∧ Admitted (up.put Fn.timeBase FnState.stopped)
      (writeReq (hdr 33 Fn.timeBase.base 2 (toLE 1 1)) Fn.timeBase.base 2 (toLE 1 1)) sess ∧ 1 ≤ sess.role ∧ (up.put Fn.timeBase
      FnState.stopped).available Fn.timeBase.base true = true ∧ (up.put Fn.timeBase FnState.stopped).fnSt Fn.timeBase =
      FnState.stopped ∧ (up.put Fn.timeBase FnState.stopped).computeAsleep Fn.timeBase = false ∧ (∀ (g : Fn), g ∈ (up.put
      Fn.timeBase FnState.stopped).prereqs Fn.timeBase → (up.put Fn.timeBase FnState.stopped).fnSt g = FnState.running)) ∧
    ((Fn.feedback 15).exists = true ∧ (up.put (Fn.feedback 15) FnState.stopped).Shaped ∧ Admitted (up.put (Fn.feedback 15)
      FnState.stopped) (writeReq (hdr 33 (Fn.feedback 15).base 2 (toLE 1 1)) (Fn.feedback 15).base 2 (toLE 1 1)) sess ∧ 1 ≤
      sess.role ∧ (up.put (Fn.feedback 15) FnState.stopped).available (Fn.feedback 15).base true = true ∧ (up.put (Fn.feedback
      15) FnState.stopped).fnSt (Fn.feedback 15) = FnState.stopped ∧ (up.put (Fn.feedback 15) FnState.stopped).computeAsleep
      (Fn.feedback 15) = false ∧ (∀ (g : Fn), g ∈ (up.put (Fn.feedback 15) FnState.stopped).prereqs (Fn.feedback 15) → (up.put
      (Fn.feedback 15) FnState.stopped).fnSt g = FnState.running)) ∧
    ((Fn.ring 3).exists = true ∧ (up.put (Fn.ring 3) FnState.stopped).Shaped ∧ Admitted (up.put (Fn.ring 3) FnState.stopped)
      (writeReq (hdr 33 (Fn.ring 3).base 2 (toLE 1 1)) (Fn.ring 3).base 2 (toLE 1 1)) sess ∧ 1 ≤ sess.role ∧ (up.put (Fn.ring 3)
      FnState.stopped).available (Fn.ring 3).base true = true ∧ (up.put (Fn.ring 3) FnState.stopped).fnSt (Fn.ring 3) =
      FnState.stopped ∧ (up.put (Fn.ring 3) FnState.stopped).computeAsleep (Fn.ring 3) = false ∧ (∀ (g : Fn), g ∈ (up.put
      (Fn.ring 3) FnState.stopped).prereqs (Fn.ring 3) → (up.put (Fn.ring 3) FnState.stopped).fnSt g = FnState.running)) ∧
    ((Fn.joint 95).exists = true ∧ (up.put (Fn.joint 95) FnState.stopped).Shaped ∧ Admitted (up.put (Fn.joint 95)
      FnState.stopped) (writeReq (hdr 33 (Fn.joint 95).base 2 (toLE 1 1)) (Fn.joint 95).base 2 (toLE 1 1)) sess ∧ 1 ≤ sess.role
      ∧ (up.put (Fn.joint 95) FnState.stopped).available (Fn.joint 95).base true = true ∧ (up.put (Fn.joint 95)
      FnState.stopped).fnSt (Fn.joint 95) = FnState.stopped ∧ (up.put (Fn.joint 95) FnState.stopped).computeAsleep (Fn.joint 95)
      = false ∧ (∀ (g : Fn), g ∈ (up.put (Fn.joint 95) FnState.stopped).prereqs (Fn.joint 95) → (up.put (Fn.joint 95)
      FnState.stopped).fnSt g = FnState.running)) ∧
    (Fn.safety.exists = true ∧ (up.put Fn.safety FnState.stopped).Shaped ∧ Admitted (up.put Fn.safety FnState.stopped) (writeReq
      (hdr 33 Fn.safety.base 2 (toLE 1 1)) Fn.safety.base 2 (toLE 1 1)) sess ∧ 1 ≤ sess.role ∧ (up.put Fn.safety
      FnState.stopped).available Fn.safety.base true = true ∧ (up.put Fn.safety FnState.stopped).fnSt Fn.safety =
      FnState.stopped ∧ (up.put Fn.safety FnState.stopped).computeAsleep Fn.safety = false ∧ (∀ (g : Fn), g ∈ (up.put Fn.safety
      FnState.stopped).prereqs Fn.safety → (up.put Fn.safety FnState.stopped).fnSt g = FnState.running)) ∧
    ((Fn.hostPort 1).exists = true ∧ up.Shaped ∧ 1 ≤ sess.role ∧ up.available (Fn.hostPort 1).base true = true ∧ Admitted up
      (writeReq (hdr 33 (Fn.hostPort 1).base 2 (toLE 1 2)) (Fn.hostPort 1).base 2 (toLE 1 2)) sess ∧ up.isActive (Fn.hostPort 1)
      = true ∧ (∀ (g : Fn), g ∈ up.dependents (Fn.hostPort 1) → up.isActive g = false)) ∧
    ((Fn.feedback 15).exists = true ∧ up.Shaped ∧ 1 ≤ sess.role ∧ up.available (Fn.feedback 15).base true = true ∧ Admitted up
      (writeReq (hdr 33 (Fn.feedback 15).base 2 (toLE 1 2)) (Fn.feedback 15).base 2 (toLE 1 2)) sess ∧ up.isActive (Fn.feedback
      15) = true ∧ (∀ (g : Fn), g ∈ up.dependents (Fn.feedback 15) → up.isActive g = false)) ∧
    ((Fn.pwm 7).exists = true ∧ (up.put (Fn.pwm 7) FnState.fault).Shaped ∧ 1 ≤ sess.role ∧ (up.put (Fn.pwm 7)
      FnState.fault).available (Fn.pwm 7).base true = true ∧ Admitted (up.put (Fn.pwm 7) FnState.fault) (writeReq (hdr 33
      (Fn.pwm 7).base 2 (toLE 1 3)) (Fn.pwm 7).base 2 (toLE 1 3)) sess ∧ (up.put (Fn.pwm 7) FnState.fault).fnSt (Fn.pwm 7) =
      FnState.fault ∧ (up.put (Fn.pwm 7) FnState.fault).causePresent (Fn.pwm 7) = false) ∧
    (Fn.timeBase.exists = true ∧ (up.put Fn.timeBase FnState.fault).Shaped ∧ 1 ≤ sess.role ∧ (up.put Fn.timeBase
      FnState.fault).available Fn.timeBase.base true = true ∧ Admitted (up.put Fn.timeBase FnState.fault) (writeReq (hdr 33
      Fn.timeBase.base 2 (toLE 1 3)) Fn.timeBase.base 2 (toLE 1 3)) sess ∧ (up.put Fn.timeBase FnState.fault).fnSt Fn.timeBase =
      FnState.fault ∧ (up.put Fn.timeBase FnState.fault).causePresent Fn.timeBase = false) ∧
    ((Fn.joint 0).exists = true ∧ (up.put (Fn.joint 0) FnState.fault).Shaped ∧ 1 ≤ sess.role ∧ (up.put (Fn.joint 0)
      FnState.fault).available (Fn.joint 0).base true = true ∧ Admitted (up.put (Fn.joint 0) FnState.fault) (writeReq (hdr 33
      (Fn.joint 0).base 2 (toLE 1 3)) (Fn.joint 0).base 2 (toLE 1 3)) sess ∧ (up.put (Fn.joint 0) FnState.fault).fnSt (Fn.joint
      0) = FnState.fault ∧ (up.put (Fn.joint 0) FnState.fault).causePresent (Fn.joint 0) = false) := by
  and_intros <;> first | exact shaped | exact admitted | decide +kernel

theorem witness_CommandsAreRefusedInTheWrongState :
    (Fn.timeBase.exists = true ∧ 1 ≤ sess.role ∧ up.available Fn.timeBase.base true = true ∧ Admitted up (writeReq (hdr 33
      Fn.timeBase.base 2 (toLE 1 1)) Fn.timeBase.base 2 (toLE 1 1)) sess ∧ (up.fnSt Fn.timeBase ≠ FnState.stopped ∨
      up.computeAsleep Fn.timeBase = true)) ∧
    (Fn.planner.exists = true ∧ 1 ≤ sess.role ∧ idle.available Fn.planner.base true = true ∧ Admitted idle (writeReq (hdr 33
      Fn.planner.base 2 (toLE 1 1)) Fn.planner.base 2 (toLE 1 1)) sess ∧ idle.fnSt Fn.planner = FnState.stopped ∧
      idle.computeAsleep Fn.planner = false ∧ (∃ (g : Fn), g ∈ idle.prereqs Fn.planner ∧ idle.fnSt g ≠ FnState.running)) ∧
    (Fn.planner.exists = true ∧ 1 ≤ sess.role ∧ idle.available Fn.planner.base true = true ∧ Admitted idle (writeReq (hdr 33
      Fn.planner.base 2 (toLE 1 2)) Fn.planner.base 2 (toLE 1 2)) sess ∧ idle.isActive Fn.planner = false) ∧
    (Fn.waystation.exists = true ∧ 1 ≤ sess.role ∧ up.available Fn.waystation.base true = true ∧ Admitted up (writeReq (hdr 33
      Fn.waystation.base 2 (toLE 1 2)) Fn.waystation.base 2 (toLE 1 2)) sess ∧ up.isActive Fn.waystation = true ∧ (∃ (g : Fn), g
      ∈ up.dependents Fn.waystation ∧ up.isActive g = true)) ∧
    (Fn.waystation.exists = true ∧ 1 ≤ sess.role ∧ up.available Fn.waystation.base true = true ∧ Admitted up (writeReq (hdr 33
      Fn.waystation.base 2 (toLE 1 3)) Fn.waystation.base 2 (toLE 1 3)) sess ∧ (up.fnSt Fn.waystation ≠ FnState.fault ∨
      up.causePresent Fn.waystation = true)) := by
  and_intros <;> first | exact admitted | decide +kernel

theorem witness_FunctionsReachTheirStatesAndFaultsSpread :
    ((up.put Fn.timeBase FnState.starting).Shaped ∧ Fn.timeBase.exists = true ∧ (up.put Fn.timeBase FnState.starting).fnSt
      Fn.timeBase = FnState.starting ∧ ownStart Fn.timeBase = false ∧ (up.put Fn.timeBase FnState.starting).staysStarting
      Fn.timeBase = false ∧ (up.put Fn.timeBase FnState.starting).startReady Fn.timeBase = true) ∧
    ((up.put (Fn.feedback 15) FnState.starting).Shaped ∧ (Fn.feedback 15).exists = true ∧ (up.put (Fn.feedback 15)
      FnState.starting).fnSt (Fn.feedback 15) = FnState.starting ∧ ownStart (Fn.feedback 15) = false ∧ (up.put (Fn.feedback 15)
      FnState.starting).staysStarting (Fn.feedback 15) = false ∧ (up.put (Fn.feedback 15) FnState.starting).startReady
      (Fn.feedback 15) = true) ∧
    ((up.put (Fn.axis 0) FnState.starting).Shaped ∧ (Fn.axis 0).exists = true ∧ (up.put (Fn.axis 0) FnState.starting).fnSt
      (Fn.axis 0) = FnState.starting ∧ ownStart (Fn.axis 0) = false ∧ (up.put (Fn.axis 0) FnState.starting).staysStarting
      (Fn.axis 0) = false ∧ (up.put (Fn.axis 0) FnState.starting).startReady (Fn.axis 0) = true) ∧
    ((up.put (Fn.ring 3) FnState.starting).Shaped ∧ (Fn.ring 3).exists = true ∧ (up.put (Fn.ring 3) FnState.starting).fnSt
      (Fn.ring 3) = FnState.starting ∧ (up.put (Fn.ring 3) FnState.starting).staysStarting (Fn.ring 3) = false) ∧
    ((up.put Fn.planner FnState.starting).Shaped ∧ Fn.planner.exists = true ∧ (up.put Fn.planner FnState.starting).fnSt
      Fn.planner = FnState.starting ∧ (up.put Fn.planner FnState.starting).staysStarting Fn.planner = false) ∧
    ((up.put (Fn.feedback 15) FnState.stopping).Shaped ∧ (Fn.feedback 15).exists = true ∧ (up.put (Fn.feedback 15)
      FnState.stopping).fnSt (Fn.feedback 15) = FnState.stopping ∧ (up.put (Fn.feedback 15) FnState.stopping).stopDone
      (Fn.feedback 15) = true) ∧
    ((up.put (Fn.axis 15) FnState.stopping).Shaped ∧ (Fn.axis 15).exists = true ∧ (up.put (Fn.axis 15) FnState.stopping).fnSt
      (Fn.axis 15) = FnState.stopping ∧ (up.put (Fn.axis 15) FnState.stopping).stopDone (Fn.axis 15) = true) ∧
    ((up.put Fn.voxel FnState.stopping).Shaped ∧ Fn.voxel.exists = true ∧ (up.put Fn.voxel FnState.stopping).fnSt Fn.voxel =
      FnState.stopping ∧ (up.put Fn.voxel FnState.stopping).stopDone Fn.voxel = true) := by
  and_intros <;> first | exact shaped | decide +kernel

theorem witness_StoppedOnlyConfiguration :
    (Admitted up (writeReq (hdr 33 0x3001 0 (toLE 4 50000)) 0x3001 0 (toLE 4 50000)) sess ∧ lookup 0x3001 0 = Lookup.found (card
      0x3001 0) ∧ (card 0x3001 0).acc = Access.rws ∧ (card 0x3001 0).owner = some (Fn.ring 0) ∧ (card 0x3001 0).ty.isDomain =
      false ∧ List.length (toLE 4 50000) = (card 0x3001 0).ty.size ∧ up.available 0x3001 true = true ∧ up.mayWrite sess 0x3001
      (card 0x3001 0) = true ∧ Fn.ofBase 0x3001 = none ∧ up.fnSt (Fn.ring 0) ≠ FnState.stopped) := by
  and_intros <;> first | exact admitted | decide +kernel | rfl

theorem witness_ResetPowerStoreAndRestore :
    (Granted up (hdr 33 0x1021 0 (toLE 1 1)) 0x1021 0 (toLE 1 1) sess ∧ (hdr 33 0x1021 0 (toLE 1 1)).src.port < 2 ∧ up.inReset =
      false ∧ up.power.cm2Short = []) ∧
    (Granted up (hdr 33 0x1021 0 (toLE 1 2)) 0x1021 0 (toLE 1 2) sess ∧ (hdr 33 0x1021 0 (toLE 1 2)).src.port < 2 ∧ up.inReset =
      false ∧ up.power.cm2Short = []) ∧
    Granted up (hdr 33 0x1022 0 (toLE 1 0)) 0x1022 0 (toLE 1 0) sess ∧
    Granted (up.powered computeOff) (hdr 33 0x1022 0 (toLE 1 0)) 0x1022 0 (toLE 1 0) sess ∧
    Granted idle (hdr 33 0x1022 0 (toLE 1 1)) 0x1022 0 (toLE 1 1) sess ∧
    Granted idle (hdr 33 0x1022 0 (toLE 1 2)) 0x1022 0 (toLE 1 2) sess ∧
    (Granted idle (hdr 33 0x1022 0 (toLE 1 3)) 0x1022 0 (toLE 1 3) sess ∧ (hdr 33 0x1022 0 (toLE 1 3)).src.port < 2 ∧
      idle.power.mode ≠ 3) ∧
    (2 ≤ (canHdr 33 0x1021 0 (toLE 1 1)).src.port ∧ (Instr.mainResetRequest (canHdr 33 0x1021 0 (toLE 1 1)), 0x1021, 1) ∈
      [(Instr.mainResetRequest (canHdr 33 0x1021 0 (toLE 1 1)), 0x1021, 1), (Instr.deviceResetRequest (canHdr 33 0x1021 0 (toLE
      1 1)), 0x1021, 2), (Instr.powerModeMainOff (canHdr 33 0x1021 0 (toLE 1 1)), 0x1022, 3)] ∧ Granted busSide (canHdr 33
      0x1021 0 (toLE 1 1)) 0x1021 0 (toLE 1 1) canSess ∧ busSide.power.mode ≠ 3) ∧
    (2 ≤ (canHdr 33 0x1021 0 (toLE 1 2)).src.port ∧ (Instr.deviceResetRequest (canHdr 33 0x1021 0 (toLE 1 2)), 0x1021, 2) ∈
      [(Instr.mainResetRequest (canHdr 33 0x1021 0 (toLE 1 2)), 0x1021, 1), (Instr.deviceResetRequest (canHdr 33 0x1021 0 (toLE
      1 2)), 0x1021, 2), (Instr.powerModeMainOff (canHdr 33 0x1021 0 (toLE 1 2)), 0x1022, 3)] ∧ Granted busSide (canHdr 33
      0x1021 0 (toLE 1 2)) 0x1021 0 (toLE 1 2) canSess ∧ busSide.power.mode ≠ 3) ∧
    (2 ≤ (canHdr 33 0x1022 0 (toLE 1 3)).src.port ∧ (Instr.powerModeMainOff (canHdr 33 0x1022 0 (toLE 1 3)), 0x1022, 3) ∈
      [(Instr.mainResetRequest (canHdr 33 0x1022 0 (toLE 1 3)), 0x1021, 1), (Instr.deviceResetRequest (canHdr 33 0x1022 0 (toLE
      1 3)), 0x1021, 2), (Instr.powerModeMainOff (canHdr 33 0x1022 0 (toLE 1 3)), 0x1022, 3)] ∧ Granted idleBus (canHdr 33
      0x1022 0 (toLE 1 3)) 0x1022 0 (toLE 1 3) canSess ∧ idleBus.power.mode ≠ 3) ∧
    (Admitted up (writeReq (hdr 33 0x1022 0 (toLE 1 1)) 0x1022 0 (toLE 1 1)) sess ∧ 2 ≤ sess.role ∧ up.available 0x1022 true =
      true ∧ 1 ≠ up.power.mode ∧ (((1 = 1 ∨ 1 = 2) ∧ ∃ (f : Fn), f ∈ [Fn.voxel, Fn.separation, Fn.front, Fn.solver, Fn.interp] ∧
      up.fnSt f ≠ FnState.stopped) ∨ 1 = 3 ∧ ((∃ (n : Nat), n < 4 ∧ up.fnSt (Fn.ring n) ≠ FnState.stopped) ∨ up.saf.soA ≠ 0#8 ∨
      up.saf.soB ≠ 0#8))) ∧
    (Admitted up (writeReq (hdr 33 0x1022 0 (toLE 1 2)) 0x1022 0 (toLE 1 2)) sess ∧ 2 ≤ sess.role ∧ up.available 0x1022 true =
      true ∧ 2 ≠ up.power.mode ∧ (((2 = 1 ∨ 2 = 2) ∧ ∃ (f : Fn), f ∈ [Fn.voxel, Fn.separation, Fn.front, Fn.solver, Fn.interp] ∧
      up.fnSt f ≠ FnState.stopped) ∨ 2 = 3 ∧ ((∃ (n : Nat), n < 4 ∧ up.fnSt (Fn.ring n) ≠ FnState.stopped) ∨ up.saf.soA ≠ 0#8 ∨
      up.saf.soB ≠ 0#8))) ∧
    (Admitted up (writeReq (hdr 33 0x1022 0 (toLE 1 3)) 0x1022 0 (toLE 1 3)) sess ∧ 2 ≤ sess.role ∧ up.available 0x1022 true =
      true ∧ 3 ≠ up.power.mode ∧ (((3 = 1 ∨ 3 = 2) ∧ ∃ (f : Fn), f ∈ [Fn.voxel, Fn.separation, Fn.front, Fn.solver, Fn.interp] ∧
      up.fnSt f ≠ FnState.stopped) ∨ 3 = 3 ∧ ((∃ (n : Nat), n < 4 ∧ up.fnSt (Fn.ring n) ≠ FnState.stopped) ∨ up.saf.soA ≠ 0#8 ∨
      up.saf.soB ≠ 0#8))) ∧
    Granted up (hdr 33 0x1010 1 (toLE 4 1380930643)) 0x1010 1 (toLE 4 1380930643) sess ∧
    (Admitted storing (writeReq (hdr 33 0x1010 1 (toLE 4 1380930643)) 0x1010 1 (toLE 4 1380930643)) sess ∧ 2 ≤ sess.role ∧
      storing.available 0x1010 true = true ∧ storing.dict.storing.isSome = true) ∧
    storing.dict.storing = some [] ∧
    Granted up (hdr 33 0x1011 1 (toLE 4 1397114180)) 0x1011 1 (toLE 4 1397114180) sess := by
  and_intros <;>
    first
    | exact canGranted rfl rfl (by decide +kernel) (by decide +kernel)
    | exact granted
    | exact admitted
    | decide +kernel

theorem witness_CycleStartSendsOneCaravan :
    (acting.Shaped ∧ acting.sendsOn (↑0 : Nat) ∧ (acting.ring (↑0 : Nat)).takeover = false ∧ (∀ (g : GlobalCmd), (acting.ring
      (↑0 : Nat)).command = some g → g.target ≠ acting.nextCycle (↑0 : Nat)) ∧ (acting.loopBack (↑0 : Nat) = true → inRange 1 2
      (acting.portLoop (↑0 : Nat) true) = true ∨ inRange 1 2 (acting.portLoop (↑0 : Nat) false) = true)) ∧
    ((withRing due).Shaped ∧ (withRing due).sendsOn (↑0 : Nat) ∧ ((withRing due).ring (↑0 : Nat)).takeover = false ∧ (∀ (g :
      GlobalCmd), ((withRing due).ring (↑0 : Nat)).command = some g → g.target ≠ (withRing due).nextCycle (↑0 : Nat)) ∧
      ((withRing due).loopBack (↑0 : Nat) = true → inRange 1 2 ((withRing due).portLoop (↑0 : Nat) true) = true ∨ inRange 1 2
      ((withRing due).portLoop (↑0 : Nat) false) = true)) ∧
    (starting.Shaped ∧ starting.sendsOn (↑0 : Nat) ∧ (starting.ring (↑0 : Nat)).takeover = false ∧ (∀ (g : GlobalCmd),
      (starting.ring (↑0 : Nat)).command = some g → g.target ≠ starting.nextCycle (↑0 : Nat)) ∧ (starting.loopBack (↑0 : Nat) =
      true → inRange 1 2 (starting.portLoop (↑0 : Nat) true) = true ∨ inRange 1 2 (starting.portLoop (↑0 : Nat) false) = true)) ∧
    ((looped 1).Shaped ∧ (looped 1).sendsOn (↑0 : Nat) ∧ ((looped 1).ring (↑0 : Nat)).takeover = false ∧ (∀ (g : GlobalCmd),
      ((looped 1).ring (↑0 : Nat)).command = some g → g.target ≠ (looped 1).nextCycle (↑0 : Nat)) ∧ ((looped 1).loopBack (↑0 :
      Nat) = true → inRange 1 2 ((looped 1).portLoop (↑0 : Nat) true) = true ∨ inRange 1 2 ((looped 1).portLoop (↑0 : Nat)
      false) = true)) ∧
    ((looped 3).Shaped ∧ (looped 3).sendsOn (↑0 : Nat) ∧ ((looped 3).ring (↑0 : Nat)).takeover = false ∧ ((looped 3).ring (↑0 :
      Nat)).command = none ∧ (looped 3).loopBack (↑0 : Nat) = true ∧ inRange 1 2 ((looped 3).portLoop (↑0 : Nat) true) = false ∧
      inRange 1 2 ((looped 3).portLoop (↑0 : Nat) false) = false) ∧
    ((withRing unfolds).Shaped ∧ (withRing unfolds).sendsOn (↑0 : Nat) ∧ ((withRing unfolds).ring (↑0 : Nat)).takeover = false ∧
      ((withRing unfolds).ring (↑0 : Nat)).command = some (GlobalCmd.mk 4 0 0 0 0) ∧ (GlobalCmd.mk 4 0 0 0 0).target = (withRing
      unfolds).nextCycle (↑0 : Nat) ∧ (GlobalCmd.mk 4 0 0 0 0).cmd = 4 ∧ (∀ (k0 : Caravan), ((withRing unfolds).ring (↑0 :
      Nat)).caravan = some k0 → (k0.retE || k0.retW) = true ∧ k0.trailer = true)) := by
  and_intros <;> first | unfold State.sendsOn; decide | exact shaped | decide +kernel

theorem witness_ReturnedHeadsJudgeTheRing :
    ((withRing called).Shaped ∧ (withRing called).masters (↑0 : Nat) = true ∧ ((withRing called).ring (↑0 : Nat)).caravan = some
      sent ∧ (withRing called).loopBack (↑0 : Nat) = false ∧ (headValid head = true ∧ (withRing called).headExpected (↑0 : Nat)
      sent head = true) ∧ (withRing called).roleEast false = ((withRing called).ring (↑0 : Nat)).takePort ∧ ((withRing
      called).roleEast false = true → sent.folded = true) ∧ (sent.kind = 3 → (withRing called).isRunning (Fn.ring (↑0 : Nat)) =
      false)) ∧
    ((withRing calledFolded).Shaped ∧ (withRing calledFolded).masters (↑0 : Nat) = true ∧ ((withRing calledFolded).ring (↑0 :
      Nat)).caravan = some sentF ∧ (withRing calledFolded).loopBack (↑0 : Nat) = false ∧ (headValid headF = true ∧ (withRing
      calledFolded).headExpected (↑0 : Nat) sentF headF = true) ∧ (withRing calledFolded).roleEast true = ((withRing
      calledFolded).ring (↑0 : Nat)).takePort ∧ ((withRing calledFolded).roleEast true = true → sentF.folded = true) ∧
      (sentF.kind = 3 → (withRing calledFolded).isRunning (Fn.ring (↑0 : Nat)) = false)) ∧
    (((withRing measures).put (Fn.ring 0) FnState.starting).Shaped ∧ ((withRing measures).put (Fn.ring 0)
      FnState.starting).masters (↑0 : Nat) = true ∧ (((withRing measures).put (Fn.ring 0) FnState.starting).ring (↑0 :
      Nat)).caravan = some measuredN ∧ ((withRing measures).put (Fn.ring 0) FnState.starting).loopBack (↑0 : Nat) = false ∧
      (headValid headM = true ∧ ((withRing measures).put (Fn.ring 0) FnState.starting).headExpected (↑0 : Nat) measuredN headM =
      true) ∧ ((withRing measures).put (Fn.ring 0) FnState.starting).roleEast false = (((withRing measures).put (Fn.ring 0)
      FnState.starting).ring (↑0 : Nat)).takePort ∧ (((withRing measures).put (Fn.ring 0) FnState.starting).roleEast false =
      true → measuredN.folded = true) ∧ (measuredN.kind = 3 → ((withRing measures).put (Fn.ring 0) FnState.starting).isRunning
      (Fn.ring (↑0 : Nat)) = false)) ∧
    (measuring.Shaped ∧ measuring.masters (↑0 : Nat) = true ∧ (measuring.ring (↑0 : Nat)).caravan = some measuredN ∧
      measuring.loopBack (↑0 : Nat) = false ∧ (headValid headM = true ∧ measuring.headExpected (↑0 : Nat) measuredN headM =
      true) ∧ measuring.roleEast false = (measuring.ring (↑0 : Nat)).takePort ∧ (measuring.roleEast false = true →
      measuredN.folded = true) ∧ measuredN.kind = 3 ∧ measuring.isRunning (Fn.ring (↑0 : Nat)) = true) ∧
    ((withRing called).Shaped ∧ (withRing called).masters (↑0 : Nat) = true ∧ ((withRing called).ring (↑0 : Nat)).caravan = some
      sent ∧ (withRing called).loopBack (↑0 : Nat) = false ∧ headValid headOld = true ∧ (withRing called).headExpected (↑0 :
      Nat) sent headOld = false) ∧
    ((withRing called).Shaped ∧ (withRing called).masters (↑0 : Nat) = true ∧ ((withRing called).ring (↑0 : Nat)).caravan = some
      sent ∧ (withRing called).loopBack (↑0 : Nat) = false ∧ (headValid head = true ∧ (withRing called).headExpected (↑0 : Nat)
      sent head = true) ∧ (withRing called).roleEast true = true ∧ sent.folded = false ∧ sent.retE = false ∧ (¬(sent.kind = 3 ∧
      sent.retW = true))) ∧
    ((withRing measures2).Shaped ∧ (withRing measures2).masters (↑0 : Nat) = true ∧ ((withRing measures2).ring (↑0 :
      Nat)).caravan = some measured ∧ (withRing measures2).loopBack (↑0 : Nat) = false ∧ (headValid headM = true ∧ (withRing
      measures2).headExpected (↑0 : Nat) measured headM = true) ∧ (withRing measures2).roleEast true = true ∧ measured.folded =
      false ∧ measured.kind = 3 ∧ measured.retW = true) ∧
    ((withRing called).Shaped ∧ (withRing called).masters (↑0 : Nat) = true ∧ ((withRing called).ring (↑0 : Nat)).caravan = some
      sent ∧ (withRing called).loopBack (↑0 : Nat) = false ∧ headValid noOctets = false ∧ nth ((withRing called).ring (↑0 :
      Nat)).errors 0 0 < 4294967295) := by
  and_intros <;> first | exact shaped | decide +kernel

theorem witness_ReturnedPanniersAndTrailers :
    (carries.Shaped ∧ carries.isRunning (Fn.ring (↑0 : Nat)) = true ∧ (carries.ring (↑0 : Nat)).tracking.on = false ∧
      (carries.ring (↑0 : Nat)).caravan = some sent ∧ sent.kind = 1 ∧ sent.discarded = false ∧ 0 < carries.ringEntries (↑0 :
      Nat) ∧ 0 < 128 ∧ (carries.ring (↑0 : Nat)).entries[0]? = some entry ∧ List.length (zeros 16) ≤ 256) ∧
    ((withRing called).Shaped ∧ (withRing called).masters (↑0 : Nat) = true ∧ ((withRing called).ring (↑0 : Nat)).caravan = some
      sent ∧ trailerValid (trailerOctets 0 0 0) = true) ∧
    ((withRing barred).Shaped ∧ (withRing barred).masters (↑0 : Nat) = true ∧ ((withRing barred).ring (↑0 : Nat)).caravan = some
      sent ∧ trailerValid (trailerOctets 7 0 0) = true ∧ ((withRing barred).ring (↑0 : Nat)).barrier ≠ 0 ∧ u16At (trailerOctets
      7 0 0) 4 = ((withRing barred).ring (↑0 : Nat)).barrier ∧ u16At (trailerOctets 7 0 0) 6 = ((withRing barred).ringAddrs (↑0
      : Nat)).length) ∧
    ((withRing barred).Shaped ∧ (withRing barred).masters (↑0 : Nat) = true ∧ ((withRing barred).ring (↑0 : Nat)).caravan = some
      sent ∧ trailerValid (trailerOctets 8 0 0) = true ∧ (¬(((withRing barred).ring (↑0 : Nat)).barrier ≠ 0 ∧ u16At
      (trailerOctets 8 0 0) 4 = ((withRing barred).ring (↑0 : Nat)).barrier ∧ u16At (trailerOctets 8 0 0) 6 = ((withRing
      barred).ringAddrs (↑0 : Nat)).length))) ∧
    ((withRing called).Shaped ∧ (withRing called).masters (↑0 : Nat) = true ∧ ((withRing called).ring (↑0 : Nat)).caravan = some
      sent ∧ trailerValid noOctets = false ∧ nth ((withRing called).ring (↑0 : Nat)).errors 3 0 < 4294967295) ∧
    (((withRing counting).put (Fn.ring 0) FnState.starting).Shaped ∧ ((withRing counting).put (Fn.ring 0)
      FnState.starting).masters (↑0 : Nat) = true ∧ (((withRing counting).put (Fn.ring 0) FnState.starting).ring (↑0 :
      Nat)).caravan = some sent ∧ ((withRing counting).put (Fn.ring 0) FnState.starting).isRunning (Fn.ring (↑0 : Nat)) = false
      ∧ ((withRing counting).put (Fn.ring 0) FnState.starting).loopBack (↑0 : Nat) = false ∧ (((withRing counting).put (Fn.ring
      0) FnState.starting).ring (↑0 : Nat)).step = 1) := by
  and_intros <;> first | exact shaped | decide +kernel

theorem witness_RingLossAndTrackingUnits :
    ((withRing silentRing).Shaped ∧ 4 ≤ ((withRing silentRing).ring (↑0 : Nat)).lost ∧ (withRing silentRing).isActive (Fn.ring
      (↑0 : Nat)) = true ∧ (withRing silentRing).loopBack (↑0 : Nat) = false) ∧
    (acting.ring (↑3 : Nat)).lost < 4 ∧
    acting.Shaped ∧
    ((withRing tracks).Shaped ∧ (withRing tracks).isActive (Fn.ring (↑0 : Nat)) = true ∧ ((withRing tracks).ring (↑0 :
      Nat)).tracking.on = true ∧ (headValid noOctets && headKnown noOctets) = false) ∧
    ((withRing tracks).Shaped ∧ (withRing tracks).isActive (Fn.ring (↑0 : Nat)) = true ∧ ((withRing tracks).ring (↑0 :
      Nat)).tracking.on = true ∧ (headValid head && headKnown head) = true ∧ true = true) ∧
    ((withRing tracks).Shaped ∧ (withRing tracks).isActive (Fn.ring (↑0 : Nat)) = true ∧ ((withRing tracks).ring (↑0 :
      Nat)).tracking.on = true ∧ (headValid head && headKnown head) = true ∧ false = false) := by
  and_intros <;> first | exact shaped | decide +kernel

theorem witness_CourierAndGlobalCommands :
    (asking.masters (↑0 : Nat) = true ∧ asking.isActive (Fn.ring (↑0 : Nat)) = true ∧ (asking.ring (↑0 : Nat)).cycle = some 5 ∧
      (!false && courierValid noOctets) = false) ∧
    (asking.masters (↑0 : Nat) = true ∧ asking.isActive (Fn.ring (↑0 : Nat)) = true ∧ (asking.ring (↑0 : Nat)).cycle = some 5 ∧
      (!false && courierValid answer) = true ∧ 1 ≤ u8At answer 1 ∧ u8At answer 1 ≤ 32 ∧ (10 * ((↑0 : Int) - ((↑(cycleStart
      (asking.period (↑0 : Nat)) (asking.gapCycle (↑0 : Nat) 5 0)) : Int) - asking.thetaNs)) - (↑(asking.gamma10 (↑0 : Nat)
      (u8At answer 1)) : Int) - (↑((asking.ring (↑0 : Nat)).ringDelay / 100) : Int) > 400 ∨ 10 * ((↑0 : Int) - ((↑(cycleStart
      (asking.period (↑0 : Nat)) (asking.gapCycle (↑0 : Nat) 5 0)) : Int) - asking.thetaNs)) - (↑(asking.gamma10 (↑0 : Nat)
      (u8At answer 1)) : Int) - (↑((asking.ring (↑0 : Nat)).ringDelay / 100) : Int) < -400) ∧ (∀ (k : Caravan), (asking.ring (↑0
      : Nat)).caravan = some k → k.cycle ≠ asking.gapCycle (↑0 : Nat) 5 0 + 1)) ∧
    (askingLate.masters (↑0 : Nat) = true ∧ askingLate.isActive (Fn.ring (↑0 : Nat)) = true ∧ (askingLate.ring (↑0 : Nat)).cycle
      = some 5 ∧ (!false && courierValid answer) = true ∧ 1 ≤ u8At answer 1 ∧ u8At answer 1 ≤ 32 ∧ (10 * ((↑0 : Int) -
      ((↑(cycleStart (askingLate.period (↑0 : Nat)) (askingLate.gapCycle (↑0 : Nat) 5 0)) : Int) - askingLate.thetaNs)) -
      (↑(askingLate.gamma10 (↑0 : Nat) (u8At answer 1)) : Int) - (↑((askingLate.ring (↑0 : Nat)).ringDelay / 100) : Int) > 400 ∨
      10 * ((↑0 : Int) - ((↑(cycleStart (askingLate.period (↑0 : Nat)) (askingLate.gapCycle (↑0 : Nat) 5 0)) : Int) -
      askingLate.thetaNs)) - (↑(askingLate.gamma10 (↑0 : Nat) (u8At answer 1)) : Int) - (↑((askingLate.ring (↑0 :
      Nat)).ringDelay / 100) : Int) < -400) ∧ (askingLate.ring (↑0 : Nat)).caravan = some sentNow ∧ sentNow.cycle =
      askingLate.gapCycle (↑0 : Nat) 5 0 + 1 ∧ 40 ≤ List.length sentNow.octets ∧ 10 * (↑0 : Int) < 10 * ((↑(cycleStart
      (askingLate.period (↑0 : Nat)) sentNow.cycle) : Int) - askingLate.thetaNs) + (↑(wireTime (List.length sentNow.octets -
      40)) : Int)) ∧
    (asking.masters (↑0 : Nat) = true ∧ asking.isActive (Fn.ring (↑0 : Nat)) = true ∧ (asking.ring (↑0 : Nat)).cycle = some 5 ∧
      (!false && courierValid answer) = true ∧ -400 ≤ 10 * ((↑answerTime : Int) - ((↑(cycleStart (asking.period (↑0 : Nat))
      (asking.gapCycle (↑0 : Nat) 5 answerTime)) : Int) - asking.thetaNs)) - (↑(asking.gamma10 (↑0 : Nat) (u8At answer 1)) :
      Int) - (↑((asking.ring (↑0 : Nat)).ringDelay / 100) : Int) ∧ 10 * ((↑answerTime : Int) - ((↑(cycleStart (asking.period (↑0
      : Nat)) (asking.gapCycle (↑0 : Nat) 5 answerTime)) : Int) - asking.thetaNs)) - (↑(asking.gamma10 (↑0 : Nat) (u8At answer
      1)) : Int) - (↑((asking.ring (↑0 : Nat)).ringDelay / 100) : Int) ≤ 400 ∧ u8At answer 3 = 2 ∧ u8At answer 2 = 0 ∧
      (List.find? (fun (y : SvcOut) => y.req.dest == u8At answer 1 && y.msg == u16At answer 6) (asking.ring (↑0 : Nat)).svcOut =
      some asked) ∧ (asked.req.op ≠ 1 ∨ u8At answer 9 ≠ 4 ∧ u8At answer 9 ≠ 5) ∧ 2 ≤ u16At answer 4) ∧
    (List.find? (fun (x : SvcOut) => x.req.dest == 32) (acting.ring (↑0 : Nat)).svcOut = none) ∧
    ((List.find? (fun (x : SvcOut) => x.req.dest == 3) ((withRing (asks asked)).ring (↑0 : Nat)).svcOut = some asked) ∧
      ((withRing (asks asked)).ring (↑0 : Nat)).cycle = some 5 ∧ 5 < asked.sentAt + 8) ∧
    ((List.find? (fun (x : SvcOut) => x.req.dest == 3) ((withRing (asks17 asked)).ring (↑0 : Nat)).svcOut = some asked) ∧
      ((withRing (asks17 asked)).ring (↑0 : Nat)).cycle = some 17 ∧ asked.sentAt + 8 ≤ 17 ∧ asked.due = false ∧ asked.resends <
      3) ∧
    ((List.find? (fun (x : SvcOut) => x.req.dest == 3) ((withRing (asks17 lastAsked)).ring (↑0 : Nat)).svcOut = some lastAsked)
      ∧ ((withRing (asks17 lastAsked)).ring (↑0 : Nat)).cycle = some 17 ∧ lastAsked.sentAt + 8 ≤ 17 ∧ lastAsked.due = false ∧ 3
      ≤ lastAsked.resends) ∧
    ((Instr.snapshot 0 9 0 (hdr 33 0x3040 0 (globalCommand 1 9 0)), 1) ∈ [(Instr.snapshot 0 9 0 (hdr 33 0x3040 0 (globalCommand
      1 9 0)), 1), (Instr.outputReset 0 9 0 (hdr 33 0x3040 0 (globalCommand 1 9 0)), 2), (Instr.mode 0 9 0 (hdr 33 0x3040 0
      (globalCommand 1 9 0)), 3)] ∧ 9 < 256 ∧ 0 < 2 ^ 48 ∧ Granted acting (hdr 33 0x3040 0 (globalCommand 1 9 0)) (0x3040 + 512
      * (↑0 : Nat)) 0 (globalCommand 1 9 0) sess) ∧
    ((Instr.outputReset 0 9 0 (hdr 33 0x3040 0 (globalCommand 2 9 0)), 2) ∈ [(Instr.snapshot 0 9 0 (hdr 33 0x3040 0
      (globalCommand 2 9 0)), 1), (Instr.outputReset 0 9 0 (hdr 33 0x3040 0 (globalCommand 2 9 0)), 2), (Instr.mode 0 9 0 (hdr
      33 0x3040 0 (globalCommand 2 9 0)), 3)] ∧ 9 < 256 ∧ 0 < 2 ^ 48 ∧ Granted acting (hdr 33 0x3040 0 (globalCommand 2 9 0))
      (0x3040 + 512 * (↑0 : Nat)) 0 (globalCommand 2 9 0) sess) ∧
    ((Instr.mode 0 9 0 (hdr 33 0x3040 0 (globalCommand 3 9 0)), 3) ∈ [(Instr.snapshot 0 9 0 (hdr 33 0x3040 0 (globalCommand 3 9
      0)), 1), (Instr.outputReset 0 9 0 (hdr 33 0x3040 0 (globalCommand 3 9 0)), 2), (Instr.mode 0 9 0 (hdr 33 0x3040 0
      (globalCommand 3 9 0)), 3)] ∧ 9 < 256 ∧ 0 < 2 ^ 48 ∧ Granted acting (hdr 33 0x3040 0 (globalCommand 3 9 0)) (0x3040 + 512
      * (↑0 : Nat)) 0 (globalCommand 3 9 0) sess) ∧
    Granted (withRing foldedRing) (hdr 33 0x3048 0 (toLE 1 1)) (0x3048 + 512 * (↑0 : Nat)) 0 (toLE 1 1) sess ∧
    (7 < 65536 ∧ Granted acting (hdr 33 0x3042 0 (toLE 2 7)) (0x3042 + 512 * (↑0 : Nat)) 0 (toLE 2 7) sess) ∧
    (inRange 1 3 1 = true ∧ 9 < 256 ∧ 0 < 2 ^ 48 ∧ Admitted (withRing unfolds) (writeReq (hdr 33 0x3040 0 (globalCommand 1 9 0))
      (0x3040 + 512 * (↑0 : Nat)) 0 (globalCommand 1 9 0)) sess ∧ 1 ≤ sess.role ∧ (withRing unfolds).available (0x3040 + 512 *
      (↑0 : Nat)) true = true ∧ (((withRing unfolds).ring (↑0 : Nat)).command.isSome = true ∨ (withRing unfolds).fnSt (Fn.ring
      (↑0 : Nat)) ≠ FnState.running)) ∧
    (inRange 1 3 1 = true ∧ 9 < 256 ∧ 10 < 2 ^ 48 ∧ Admitted (withRing inCycle9) (writeReq (hdr 33 0x3040 0 (globalCommand 1 9
      10)) (0x3040 + 512 * (↑0 : Nat)) 0 (globalCommand 1 9 10)) sess ∧ 1 ≤ sess.role ∧ (withRing inCycle9).available (0x3040 +
      512 * (↑0 : Nat)) true = true ∧ ((withRing inCycle9).ring (↑0 : Nat)).command = none ∧ (withRing inCycle9).fnSt (Fn.ring
      (↑0 : Nat)) = FnState.running ∧ commandTarget (((withRing inCycle9).arrived (hdr 33 0x3040 0 (globalCommand 1 9
      10))).cycleAhead (↑0 : Nat)) 10 < ((withRing inCycle9).arrived (hdr 33 0x3040 0 (globalCommand 1 9 10))).cycleAhead (↑0 :
      Nat) + 2) := by
  and_intros <;>
    first
    | exact none_of rfl
    | exact .head _
    | exact .tail _ (.head _)
    | exact .tail _ (.tail _ (.head _))
    | exact granted
    | exact admitted
    | decide +kernel

theorem witness_ServoFollowsItsSamplesAndWrites :
    ((up.time.mode ≠ 1 ∨ up.fnSt Fn.timeBase ≠ FnState.running ∨ up.time.disc = 0)) ∧
    ((up.timed (servo 1 500000 0 true)).time.mode = 1 ∧ (up.timed (servo 1 500000 0 true)).fnSt Fn.timeBase = FnState.running ∧
      1 ≤ (up.timed (servo 1 500000 0 true)).time.disc ∧ (up.timed (servo 1 500000 0 true)).time.disc ≤ 3 ∧ (((up.timed (servo 1
      500000 0 true)).time.advance 0).accepted && decide (((65536 * if (2 * roundEven (↑((up.timed (servo 1 500000 0
      true)).time.advance 0).fine : Int) (2 ^ 49)).toNat % 1000000000 ≤ 500000000 then (↑((2 * roundEven (↑((up.timed (servo 1
      500000 0 true)).time.advance 0).fine : Int) (2 ^ 49)).toNat % 1000000000) : Int) else (↑((2 * roundEven (↑((up.timed
      (servo 1 500000 0 true)).time.advance 0).fine : Int) (2 ^ 49)).toNat % 1000000000) : Int) - 1000000000) - ((up.timed
      (servo 1 500000 0 true)).time.advance 0).thetaLast).natAbs > 65536 * (up.timed (servo 1 500000 0 true)).cfg 0x3E06 1) &&
      decide (((up.timed (servo 1 500000 0 true)).time.advance 0).discards < 4)) = true) ∧
    ((up.timed (servo 1 500000 0 false)).time.mode = 1 ∧ (up.timed (servo 1 500000 0 false)).fnSt Fn.timeBase = FnState.running
      ∧ 1 ≤ (up.timed (servo 1 500000 0 false)).time.disc ∧ (up.timed (servo 1 500000 0 false)).time.disc ≤ 3 ∧ (((up.timed
      (servo 1 500000 0 false)).time.advance 0).accepted && decide (((65536 * if (2 * roundEven (↑((up.timed (servo 1 500000 0
      false)).time.advance 0).fine : Int) (2 ^ 49)).toNat % 1000000000 ≤ 500000000 then (↑((2 * roundEven (↑((up.timed (servo 1
      500000 0 false)).time.advance 0).fine : Int) (2 ^ 49)).toNat % 1000000000) : Int) else (↑((2 * roundEven (↑((up.timed
      (servo 1 500000 0 false)).time.advance 0).fine : Int) (2 ^ 49)).toNat % 1000000000) : Int) - 1000000000) - ((up.timed
      (servo 1 500000 0 false)).time.advance 0).thetaLast).natAbs > 65536 * (up.timed (servo 1 500000 0 false)).cfg 0x3E06 1) &&
      decide (((up.timed (servo 1 500000 0 false)).time.advance 0).discards < 4)) = false ∧ (decide (((up.timed (servo 1 500000
      0 false)).time.advance 0).disc ≠ 2) && decide ((65536 * if (2 * roundEven (↑((up.timed (servo 1 500000 0
      false)).time.advance 0).fine : Int) (2 ^ 49)).toNat % 1000000000 ≤ 500000000 then (↑((2 * roundEven (↑((up.timed (servo 1
      500000 0 false)).time.advance 0).fine : Int) (2 ^ 49)).toNat % 1000000000) : Int) else (↑((2 * roundEven (↑((up.timed
      (servo 1 500000 0 false)).time.advance 0).fine : Int) (2 ^ 49)).toNat % 1000000000) : Int) - 1000000000).natAbs > 65536 *
      (up.timed (servo 1 500000 0 false)).cfg 0x3E06 2)) = true) ∧
    ((up.timed (servo 2 50 0 true)).time.mode = 1 ∧ (up.timed (servo 2 50 0 true)).fnSt Fn.timeBase = FnState.running ∧ 1 ≤
      (up.timed (servo 2 50 0 true)).time.disc ∧ (up.timed (servo 2 50 0 true)).time.disc ≤ 3 ∧ (((up.timed (servo 2 50 0
      true)).time.advance 0).accepted && decide (((65536 * if (2 * roundEven (↑((up.timed (servo 2 50 0 true)).time.advance
      0).fine : Int) (2 ^ 49)).toNat % 1000000000 ≤ 500000000 then (↑((2 * roundEven (↑((up.timed (servo 2 50 0
      true)).time.advance 0).fine : Int) (2 ^ 49)).toNat % 1000000000) : Int) else (↑((2 * roundEven (↑((up.timed (servo 2 50 0
      true)).time.advance 0).fine : Int) (2 ^ 49)).toNat % 1000000000) : Int) - 1000000000) - ((up.timed (servo 2 50 0
      true)).time.advance 0).thetaLast).natAbs > 65536 * (up.timed (servo 2 50 0 true)).cfg 0x3E06 1) && decide (((up.timed
      (servo 2 50 0 true)).time.advance 0).discards < 4)) = false ∧ (decide (((up.timed (servo 2 50 0 true)).time.advance
      0).disc ≠ 2) && decide ((65536 * if (2 * roundEven (↑((up.timed (servo 2 50 0 true)).time.advance 0).fine : Int) (2 ^
      49)).toNat % 1000000000 ≤ 500000000 then (↑((2 * roundEven (↑((up.timed (servo 2 50 0 true)).time.advance 0).fine : Int)
      (2 ^ 49)).toNat % 1000000000) : Int) else (↑((2 * roundEven (↑((up.timed (servo 2 50 0 true)).time.advance 0).fine : Int)
      (2 ^ 49)).toNat % 1000000000) : Int) - 1000000000).natAbs > 65536 * (up.timed (servo 2 50 0 true)).cfg 0x3E06 2)) = false) ∧
    ((up.timed (servo 3 999999900 0 true)).time.mode = 1 ∧ (up.timed (servo 3 999999900 0 true)).fnSt Fn.timeBase =
      FnState.running ∧ 1 ≤ (up.timed (servo 3 999999900 0 true)).time.disc ∧ (up.timed (servo 3 999999900 0 true)).time.disc ≤
      3 ∧ (((up.timed (servo 3 999999900 0 true)).time.advance 0).accepted && decide (((65536 * if (2 * roundEven (↑((up.timed
      (servo 3 999999900 0 true)).time.advance 0).fine : Int) (2 ^ 49)).toNat % 1000000000 ≤ 500000000 then (↑((2 * roundEven
      (↑((up.timed (servo 3 999999900 0 true)).time.advance 0).fine : Int) (2 ^ 49)).toNat % 1000000000) : Int) else (↑((2 *
      roundEven (↑((up.timed (servo 3 999999900 0 true)).time.advance 0).fine : Int) (2 ^ 49)).toNat % 1000000000) : Int) -
      1000000000) - ((up.timed (servo 3 999999900 0 true)).time.advance 0).thetaLast).natAbs > 65536 * (up.timed (servo 3
      999999900 0 true)).cfg 0x3E06 1) && decide (((up.timed (servo 3 999999900 0 true)).time.advance 0).discards < 4)) = false
      ∧ (decide (((up.timed (servo 3 999999900 0 true)).time.advance 0).disc ≠ 2) && decide ((65536 * if (2 * roundEven
      (↑((up.timed (servo 3 999999900 0 true)).time.advance 0).fine : Int) (2 ^ 49)).toNat % 1000000000 ≤ 500000000 then (↑((2 *
      roundEven (↑((up.timed (servo 3 999999900 0 true)).time.advance 0).fine : Int) (2 ^ 49)).toNat % 1000000000) : Int) else
      (↑((2 * roundEven (↑((up.timed (servo 3 999999900 0 true)).time.advance 0).fine : Int) (2 ^ 49)).toNat % 1000000000) :
      Int) - 1000000000).natAbs > 65536 * (up.timed (servo 3 999999900 0 true)).cfg 0x3E06 2)) = false) ∧
    ((up.timed (servo 2 0 0 true)).fnSt Fn.timeBase = FnState.running ∧ ((up.timed (servo 2 0 0 true)).time.disc = 1 ∨ (up.timed
      (servo 2 0 0 true)).time.disc = 2)) ∧
    ((up.fnSt Fn.timeBase ≠ FnState.running ∨ up.time.disc ≠ 1 ∧ up.time.disc ≠ 2)) ∧
    ((up.timed ptpTime2).Shaped ∧ 2 ≤ (up.timed ptpTime2).time.mode ∧ (up.timed ptpTime2).time.mode ≤ 3 ∧ (up.timed
      ptpTime2).time.announced = true ∧ (up.timed ptpTime2).fnSt Fn.timeBase = FnState.running ∧ ((up.timed ptpTime2).time.disc
      = 1 ∨ (up.timed ptpTime2).time.disc = 2)) ∧
    ((up.time.mode < 2 ∨ up.time.announced = false)) ∧
    (5 < 2 ^ 64 ∧ 6 < 2 ^ 32 ∧ Granted up (hdr 33 0x3E02 0 (time96 5 6)) 0x3E02 0 (time96 5 6) sess) ∧
    (562949953421312 < 2 ^ 64 ∧ Granted up (hdr 33 0x3E03 2 (toLE 8 562949953421312)) 0x3E03 2 (toLE 8 562949953421312) sess) ∧
    (Admitted (up.timed ptpTime2) (writeReq (hdr 33 0x3E02 0 (time96 5 6)) 0x3E02 0 (time96 5 6)) sess ∧ 1 ≤ sess.role ∧
      (up.timed ptpTime2).available 0x3E02 true = true ∧ (up.timed ptpTime2).isActive Fn.timeBase = true ∧ (up.timed
      ptpTime2).time.mode ≠ 0) ∧
    (Admitted (up.timed ptpTime2) (writeReq (hdr 33 0x3E03 2 (toLE 8 7)) 0x3E03 2 (toLE 8 7)) sess ∧ 1 ≤ sess.role ∧ (up.timed
      ptpTime2).available 0x3E03 true = true ∧ (up.timed ptpTime2).isActive Fn.timeBase = true ∧ (up.timed ptpTime2).time.mode ≠
      0) := by
  and_intros <;> first | exact shaped | exact granted | exact admitted | decide +kernel

theorem witness_ReadyItemsAreDispatchedInOrder :
    (1 ≤ (↑2 : Nat) ∧ (posted 113).Shaped ∧ (posted 113).isRunning Fn.waystation = true ∧ (posted 113).consumes (consumerOf (↑2
      : Nat)) = true ∧ firstReady (posted 113) (consumerOf (↑2 : Nat)) (ready 113) info113 ∧ (consumerOf (↑2 : Nat)).places.fst
      ≤ 56 ∧ 56 < (consumerOf (↑2 : Nat)).places.fst + (consumerOf (↑2 : Nat)).places.snd ∧ nth (posted 113).way.positions 56
      none = none ∧ (∀ (i : Nat), (consumerOf (↑2 : Nat)).places.fst ≤ i → i < 56 → nth (posted 113).way.positions i none ≠
      none)) ∧
    (1 ≤ (↑7 : Nat) ∧ (posted 120).Shaped ∧ (posted 120).isRunning Fn.waystation = true ∧ (posted 120).consumes (consumerOf (↑7
      : Nat)) = true ∧ firstReady (posted 120) (consumerOf (↑7 : Nat)) (ready 120) info120 ∧ (consumerOf (↑7 : Nat)).places.fst
      ≤ 110 ∧ 110 < (consumerOf (↑7 : Nat)).places.fst + (consumerOf (↑7 : Nat)).places.snd ∧ nth (posted 120).way.positions 110
      none = none ∧ (∀ (i : Nat), (consumerOf (↑7 : Nat)).places.fst ≤ i → i < 110 → nth (posted 120).way.positions i none ≠
      none)) ∧
    ((posted 130).Shaped ∧ (posted 130).isRunning Fn.waystation = true ∧ (posted 130).isRunning Fn.loopEngines = true ∧
      firstReady (posted 130) Consumer.loopEngine (ready 130) info130 ∧ 0 < 16 ∧ ((posted 130).engine 0).idle = true ∧
      info130.priority ≤ 6 ∧ (∀ (i : Nat), i < 0 → ((posted 130).engine i).idle = false)) ∧
    ((posted 131).Shaped ∧ (posted 131).isRunning Fn.waystation = true ∧ (posted 131).isRunning Fn.loopEngines = true ∧
      firstReady (posted 131) Consumer.loopEngine (ready 131) info131 ∧ 0 < 16 ∧ ((posted 131).engine 0).idle = true ∧
      info131.priority = 7 ∧ ((posted 131).engine 0).urgent = none ∧ (∀ (i : Nat), i < 0 → (((posted 131).engine i).idle &&
      ((posted 131).engine i).urgent.isNone) = false)) ∧
    ((∀ (q : Queued), q ∈ up.way.queue → q.ready = none)) :=
  ⟨⟨by decide +kernel, shaped, by decide +kernel, by decide +kernel, first 5 rfl (by decide +kernel) rfl rfl,
      by decide +kernel, by decide +kernel, by decide +kernel, fun i a b => absurd b (Nat.not_lt.mpr a)⟩,
    ⟨by decide +kernel, shaped, by decide +kernel, by decide +kernel, first 5 rfl (by decide +kernel) rfl rfl,
      by decide +kernel, by decide +kernel, by decide +kernel, fun i a b => absurd b (Nat.not_lt.mpr a)⟩,
    ⟨shaped, by decide +kernel, by decide +kernel, first 5 rfl (by decide +kernel) rfl rfl, by decide +kernel,
      by decide +kernel, by decide +kernel, by decide +kernel⟩,
    ⟨shaped, by decide +kernel, by decide +kernel, first 5 rfl (by decide +kernel) rfl rfl, by decide +kernel,
      by decide +kernel, by decide +kernel, by decide +kernel, by decide +kernel⟩,
    by decide +kernel⟩

theorem witness_CompletionsFreePositionsAndCountGates :
    ((serving 60 (itemOf 113) (wayOf [] [])).Shaped ∧ 48 ≤ (↑60 : Nat) ∧ nth (serving 60 (itemOf 113) (wayOf []
      [])).way.positions (↑60 : Nat) none = some (itemOf 113) ∧ (List.find? (fun (x : Nat × Item × Bool) => x.fst == (↑60 :
      Nat)) (serving 60 (itemOf 113) (wayOf [] [])).way.finished = none) ∧ (serving 60 (itemOf 113) (wayOf [] [])).isRunning
      Fn.waystation = true ∧ (serving 60 (itemOf 113) (wayOf [] [])).way.gatesOf (itemOf 113).flow = []) ∧
    ((serving 50 (itemOf 112) Waystation.initial).Shaped ∧ 48 ≤ (↑50 : Nat) ∧ nth (serving 50 (itemOf 112)
      Waystation.initial).way.positions (↑50 : Nat) none = some (itemOf 112) ∧ (List.find? (fun (x : Nat × Item × Bool) => x.fst
      == (↑50 : Nat)) (serving 50 (itemOf 112) Waystation.initial).way.finished = none) ∧ (serving 50 (itemOf 112)
      Waystation.initial).isRunning Fn.waystation = true ∧ (serving 50 (itemOf 112) Waystation.initial).way.gatesOf (itemOf
      112).flow = []) ∧
    ((serving 50 (itemOf 112) (wayOf [] [gate 2 none])).Shaped ∧ 48 ≤ (↑50 : Nat) ∧ nth (serving 50 (itemOf 112) (wayOf [] [gate
      2 none])).way.positions (↑50 : Nat) none = some (itemOf 112) ∧ (List.find? (fun (x : Nat × Item × Bool) => x.fst == (↑50 :
      Nat)) (serving 50 (itemOf 112) (wayOf [] [gate 2 none])).way.finished = none) ∧ (serving 50 (itemOf 112) (wayOf [] [gate 2
      none])).isRunning Fn.waystation = true ∧ (serving 50 (itemOf 112) (wayOf [] [gate 2 none])).way.gatesOf (itemOf 112).flow
      = [0] ∧ (serving 50 (itemOf 112) (wayOf [] [gate 2 none])).way.gates[0]? = some (gate 2 none) ∧ 1 < (gate 2 none).count) ∧
    ((serving 50 (itemOf 112) (wayOf [] [gate 1 none])).Shaped ∧ 48 ≤ (↑50 : Nat) ∧ nth (serving 50 (itemOf 112) (wayOf [] [gate
      1 none])).way.positions (↑50 : Nat) none = some (itemOf 112) ∧ (List.find? (fun (x : Nat × Item × Bool) => x.fst == (↑50 :
      Nat)) (serving 50 (itemOf 112) (wayOf [] [gate 1 none])).way.finished = none) ∧ (serving 50 (itemOf 112) (wayOf [] [gate 1
      none])).isRunning Fn.waystation = true ∧ (serving 50 (itemOf 112) (wayOf [] [gate 1 none])).way.gatesOf (itemOf 112).flow
      = [0] ∧ (serving 50 (itemOf 112) (wayOf [] [gate 1 none])).way.gates[0]? = some (gate 1 none) ∧ (gate 1 none).count ≤ 1 ∧
      (gate 1 none).held = none ∧ ((serving 50 (itemOf 112) (wayOf [] [gate 1 none])).setPos (↑50 : Nat) none).way.hasRoom
      (u16At ((serving 50 (itemOf 112) (wayOf [] [gate 1 none])).way.gateEntry 0) 0) = true ∧ 0 < 1024) ∧
    ((serving 50 (itemOf 112) (wayOf crowded [gate 1 none])).Shaped ∧ 48 ≤ (↑50 : Nat) ∧ nth (serving 50 (itemOf 112) (wayOf
      crowded [gate 1 none])).way.positions (↑50 : Nat) none = some (itemOf 112) ∧ (List.find? (fun (x : Nat × Item × Bool) =>
      x.fst == (↑50 : Nat)) (serving 50 (itemOf 112) (wayOf crowded [gate 1 none])).way.finished = none) ∧ (serving 50 (itemOf
      112) (wayOf crowded [gate 1 none])).isRunning Fn.waystation = true ∧ (serving 50 (itemOf 112) (wayOf crowded [gate 1
      none])).way.gatesOf (itemOf 112).flow = [0] ∧ (serving 50 (itemOf 112) (wayOf crowded [gate 1 none])).way.gates[0]? = some
      (gate 1 none) ∧ (gate 1 none).count ≤ 1 ∧ (gate 1 none).held = none ∧ ((serving 50 (itemOf 112) (wayOf crowded [gate 1
      none])).setPos (↑50 : Nat) none).way.hasRoom (u16At ((serving 50 (itemOf 112) (wayOf crowded [gate 1 none])).way.gateEntry
      0) 0) = false) ∧
    ((serving 50 (itemOf 112) (wayOf [] [gate 1 (some (itemOf 130))])).Shaped ∧ 48 ≤ (↑50 : Nat) ∧ nth (serving 50 (itemOf 112)
      (wayOf [] [gate 1 (some (itemOf 130))])).way.positions (↑50 : Nat) none = some (itemOf 112) ∧ (List.find? (fun (x : Nat ×
      Item × Bool) => x.fst == (↑50 : Nat)) (serving 50 (itemOf 112) (wayOf [] [gate 1 (some (itemOf 130))])).way.finished =
      none) ∧ (serving 50 (itemOf 112) (wayOf [] [gate 1 (some (itemOf 130))])).isRunning Fn.waystation = true ∧ (serving 50
      (itemOf 112) (wayOf [] [gate 1 (some (itemOf 130))])).way.gatesOf (itemOf 112).flow = [0] ∧ (serving 50 (itemOf 112)
      (wayOf [] [gate 1 (some (itemOf 130))])).way.gates[0]? = some (gate 1 (some (itemOf 130))) ∧ (gate 1 (some (itemOf
      130))).count ≤ 1 ∧ (gate 1 (some (itemOf 130))).held = some (itemOf 130)) ∧
    ((List.find? (fun (x : Nat × Item × Bool) => x.fst == (↑1 : Nat)) (finishing (1, itemOf 130, true)).way.finished = some ((↑1
      : Nat), itemOf 130, true)) ∧ (finishing (1, itemOf 130, true)).isRunning Fn.waystation = true ∧ (finishing (1, itemOf 130,
      true)).way.gatesOf (itemOf 130).flow = []) ∧
    ((List.find? (fun (x : Nat × Item × Bool) => x.fst == (↑1 : Nat)) (finishing (1, itemOf 130, false)).way.finished = some
      ((↑1 : Nat), itemOf 130, false)) ∧ (finishing (1, itemOf 130, false)).isRunning Fn.waystation = true ∧ (finishing (1,
      itemOf 130, false)).way.gatesOf (itemOf 130).flow = []) ∧
    (up.Shaped ∧ nth up.way.positions (↑111 : Nat) none = none ∧ (List.find? (fun (x : Nat × Item × Bool) => x.fst == (↑111 :
      Nat)) up.way.finished = none) ∧ up.isActive Fn.waystation = true) := by
  and_intros <;> first | exact shaped | decide +kernel

theorem witness_HeldDelayedAndEventItems :
    ((holding (itemOf 130) []).isRunning Fn.waystation = true ∧ (holding (itemOf 130) []).way.nextHeld = some (itemOf 130)) ∧
    ((∀ (i : Item), i ∈ (holding (itemOf 130) crowded).way.held → (holding (itemOf 130) crowded).way.hasRoom i.flow = false)) ∧
    ((gated (gate 1 (some (itemOf 130)))).isRunning Fn.waystation = true ∧ (gated (gate 1 (some (itemOf 130)))).way.gates[(↑0 :
      Nat)]? = some (gate 1 (some (itemOf 130))) ∧ (gate 1 (some (itemOf 130))).held = some (itemOf 130) ∧ (gated (gate 1 (some
      (itemOf 130)))).way.hasRoom (itemOf 130).flow = true) ∧
    ((∀ (x : Gate), (gated (gate 1 none)).way.gates[(↑0 : Nat)]? = some x → x.held = none)) ∧
    (delaying.isRunning Fn.waystation = true ∧ delaying.time.ticking = true ∧ delaying.time.pendStep = none ∧ 0 < wayTick
      delaying.way.table (↑1 : Nat)) ∧
    ((gated (gate 1 none)).isRunning Fn.waystation = true ∧ (gated (gate 1 none)).way.gates[(↑0 : Nat)]? = some (gate 1 none) ∧
      (gate 1 none).wait = some 0) ∧
    ((∀ (x : Gate), up.way.gates[(↑1023 : Nat)]? = some x → x.wait ≠ some 0)) ∧
    (511 < 512 ∧ Granted up (hdr 33 0x2022 0 (toLE 2 511)) 0x2022 0 (toLE 2 511) sess) ∧
    (511 < 512 ∧ (hdr 33 0x2021 0 (toLE 2 511)).src.port < 2 ∧ up.time.pendStep = none ∧ (∀ (i : Nat), i ∈ (up.port (hdr 33
      0x2021 0 (toLE 2 511)).src.port).counts → i + 2 < 2 ^ 32) ∧ Granted up (hdr 33 0x2021 0 (toLE 2 511)) 0x2021 0 (toLE 2
      511) sess) ∧
    (63 < 2 ^ 8 ∧ (hdr 33 0x2031 0 (toLE 1 63)).src.port < 2 ∧ up.time.pendStep = none ∧ (∀ (i : Nat), i ∈ (up.port (hdr 33
      0x2031 0 (toLE 1 63)).src.port).counts → i + 2 < 2 ^ 32) ∧ Granted up (hdr 33 0x2031 0 (toLE 1 63)) 0x2031 0 (toLE 1 63)
      sess) := by
  and_intros <;> first | exact some_of _ rfl rfl | exact none_of rfl | exact granted | decide +kernel

theorem witness_AluRoundingAndLogic :
    Issues (engine [0x82000000] bank) 0 (work bank) (LeOp.alu 1 false 0 none none) ∧
    Issues (engine [0x85800000] bank) 0 (work bank) (LeOp.alu 2 true 4 none none) ∧
    Issues (engine [0x86800000] bank) 0 (work bank) (LeOp.alu 3 false 4 none none) ∧
    Issues (engine [0x89800000] bank) 0 (work bank) (LeOp.alu 4 true 4 none none) ∧
    Issues (engine [0x8C000000] bank) 0 (work bank) (LeOp.alu 6 false 0 none none) ∧
    Issues (engine [0x8F000000] bank) 0 (work bank) (LeOp.alu 7 true 0 none none) ∧
    Issues (engine [0x90FAD5A0] bank) 0 (work bank) (LeOp.alu 8 false 7 (some (ParMove.mk true 1 1 2)) (some (ParMove.mk false 2
      3 1))) ∧
    Issues (engine [0x93E00000] bank) 0 (work bank) (LeOp.alu 9 true 7 none none) ∧
    Issues (engine [0x94E00000] bank) 0 (work bank) (LeOp.alu 10 false 7 none none) ∧
    Issues (engine [0x97E00000] bank) 0 (work bank) (LeOp.alu 11 true 7 none none) ∧
    Issues (engine [0xA0000000] bank) 0 (work bank) (LeOp.alu 16 false 0 none none) ∧
    Issues (engine [0xA3000000] bank) 0 (work bank) (LeOp.alu 17 true 0 none none) ∧
    Issues (engine [0xA4800000] bank) 0 (work bank) (LeOp.alu 18 false 4 none none) ∧
    Issues (engine [0xA7800000] bank) 0 (work bank) (LeOp.alu 19 true 4 none none) ∧
    Issues (engine [0xAE000000] bank) 0 (work bank) (LeOp.alu 23 false 0 none none) ∧
    Issues (engine [0x8A800000] bank) 0 (work bank) (LeOp.alu 5 false 4 none none) ∧
    Issues (engine [0x9E000000] bank) 0 (work bank) (LeOp.alu 15 false 0 none none) ∧
    Issues (engine [0x51800001] bank) 0 (work bank) (LeOp.shift false true 1) ∧
    Issues (engine [0x52800037] bank) 0 (work bank) (LeOp.shift true true 55) ∧
    Issues (engine [0x77C00000] bank) 0 (work bank) (LeOp.ftap false true 3 7) ∧
    Issues (engine [0x98E00000] bank) 0 (work bank) (LeOp.alu 12 false 7 none none) ∧
    Issues (engine [0x9AE00000] bank) 0 (work bank) (LeOp.alu 13 false 7 none none) ∧
    Issues (engine [0x9C000000] bank) 0 (work bank) (LeOp.alu 14 false 0 none none) ∧
    Issues (engine [0xA9800000] bank) 0 (work bank) (LeOp.alu 20 true 4 none none) ∧
    Issues (engine [0xAB800000] bank) 0 (work bank) (LeOp.alu 21 true 4 none none) ∧
    Issues (engine [0xAD800000] bank) 0 (work bank) (LeOp.alu 22 true 4 none none) := by
  and_intros <;> exact issues

theorem witness_MovesLoadAndStore :
    Issues (engine [0x2080FFFF] bank) 0 (work bank) (LeOp.imm 4 16777215 false) ∧
    Issues (engine [0x2D000000, 0x00FFFFFF] bank) 0 (work bank) (LeOp.imm 40 16777215 true) ∧
    Issues (engine [0x30503FFF] bank) 0 (work bank) (LeOp.abs false false 5 0x3FFF) ∧
    Issues (engine [0x404F8000] bank) 0 (work bank) (LeOp.ind false false 4 7 3) ∧
    Issues (engine [0x44410000] bank) 0 (work bank) (LeOp.ind false true 4 0 2) ∧
    Issues (engine [0x38503FFF] bank) 0 (work bank) (LeOp.abs true false 5 0x3FFF) ∧
    Issues (engine [0x484F8000] bank) 0 (work bank) (LeOp.ind true false 4 7 3) ∧
    Issues (engine [0x4C410000] bank) 0 (work bank) (LeOp.ind true true 4 0 2) ∧
    Issues (engine [0x34403000] bank) 0 (work bank) (LeOp.abs false true 4 0x3000) ∧
    Issues (engine [0x34403BFF] bank) 0 (work bank) (LeOp.abs false true 4 0x3BFF) ∧
    Issues (engine [0x34403C90] bank) 0 (work bank) (LeOp.abs false true 4 0x3C90) ∧
    Issues (engine [0x34403D0F] bank) 0 (work bank) (LeOp.abs false true 4 0x3D0F) ∧
    Issues (engine [0x34402FFF] bank) 0 (work bank) (LeOp.abs false true 4 0x2FFF) ∧
    Issues (engine [0x34403D10] bank) 0 (work bank) (LeOp.abs false true 4 0x3D10) ∧
    Issues (engine [0x3C403BFF] bank) 0 (work bank) (LeOp.abs true true 4 0x3BFF) ∧
    Issues (engine [0x3C403C00] bank) 0 (work bank) (LeOp.abs true true 4 0x3C00) ∧
    Issues (engine [0x3C403FBF] bank) 0 (work bank) (LeOp.abs true true 4 0x3FBF) ∧
    Issues (engine [0x3C403FC0] bank) 0 (work bank) (LeOp.abs true true 4 0x3FC0) ∧
    Issues (engine [0x3C403FFF] bank) 0 (work bank) (LeOp.abs true true 4 0x3FFF) ∧
    Issues (engine [0x50129000] bank) 0 (work bank) (LeOp.mov 4 41) ∧
    Issues (engine [0x801E17E0] bank) 0 (work bank) (LeOp.alu 0 false 0 (some (ParMove.mk true 3 0 0)) (some (ParMove.mk false 3
      3 3))) ∧
    Issues (engine [0x531C3FFF] bank) 0 (work bank) (LeOp.addp 7 0x3FFF) ∧
    Issues (engine [0x6217F000] bank) 0 (work bank) (LeOp.get 5 true 7 3 0) ∧
    Issues (engine [0x62140DFF] bank) 0 (work bank) (LeOp.get 5 false 0 0 3583) ∧
    16777215 < 2 ^ 24 ∧
    fitsQ23 bank.aMv.toInt = true ∧
    fitsQ23 overflown.aMv.toInt = false ∧
    Issues (engine [0x4C410000] mvAddr) 0 (work mvAddr) (LeOp.ind true true 4 0 2) := by
  and_intros <;> first | exact issues | decide +kernel

theorem witness_ControlFlowOfTheEngines :
    Issues (engine [0x00000000] bank) 0 (work bank) LeOp.nop ∧
    Issues (engine [0x00000000] lastSlot) 0 (work lastSlot) LeOp.nop ∧
    Issues (engine [0x00000000] firstSlot) 0 (work firstSlot) LeOp.nop ∧
    (Issues (engine [0x14401FFF] bank) 0 (work bank) (LeOp.branch false 17 0x1FFF) ∧ (work bank).regs.rep ≤ 1) ∧
    (Issues (engine [0x14401FFF] deep) 0 (work deep) (LeOp.branch false 17 0x1FFF) ∧ (work deep).regs.rep ≤ 1) ∧
    (Issues (engine [0x18001FFF] bank) 0 (work bank) (LeOp.branch true 0 0x1FFF) ∧ (work bank).regs.rep ≤ 1 ∧ (¬(condHolds 0
      (work bank).regs.srV.toNat = true ∧ true = true ∧ 8 ≤ (work bank).regs.rets.length))) ∧
    (Issues (engine [0x18000000] deep) 0 (work deep) (LeOp.branch true 0 0) ∧ (work deep).regs.rep ≤ 1 ∧ condHolds 0 (work
      deep).regs.srV.toNat = true ∧ true = true ∧ 8 ≤ (work deep).regs.rets.length) ∧
    (Issues (engine [0x02000000] called1) 0 (work called1) LeOp.rts ∧ (work called1).regs.rep ≤ 1 ∧ (work called1).regs.rets =
      [5]) ∧
    (Issues (engine [0x02000000] bank) 0 (work bank) LeOp.rts ∧ (work bank).regs.rep ≤ 1 ∧ (work bank).regs.rets = []) ∧
    (Issues (engine [0x03000000] bank) 0 (work bank) (LeOp.rep 0) ∧ (work bank).regs.rep ≤ 1) ∧
    (Issues (engine [0x03000001] bank) 0 (work bank) (LeOp.rep 1) ∧ (work bank).regs.rep ≤ 1) ∧
    (Issues (engine [0x03000FFF] bank) 0 (work bank) (LeOp.rep 4095) ∧ (work bank).regs.rep ≤ 1) ∧
    (Issues (engine [0x0401FFFF, 0x00000000] bank) 0 (work bank) (LeOp.loop 32 4095) ∧ (work bank).regs.rep ≤ 1 ∧ (work
      bank).regs.slots = 0 ∧ lastOf (engine [0x0401FFFF, 0x00000000] bank).le.prog 32 (((work bank).regs.pc + 1) % 0x2000) ≠
      (work bank).regs.pc ∧ (work bank).regs.loops.length < 4) ∧
    (Issues (engine [0x04000001, 0x00000000] bank) 0 (work bank) (LeOp.loop 1 1) ∧ (work bank).regs.rep ≤ 1 ∧ (work
      bank).regs.slots = 0 ∧ lastOf (engine [0x04000001, 0x00000000] bank).le.prog 1 (((work bank).regs.pc + 1) % 0x2000) ≠
      (work bank).regs.pc ∧ (work bank).regs.loops.length < 4) ∧
    (Issues (engine [0x04000001, 0x00000000] nested) 0 (work nested) (LeOp.loop 1 1) ∧ (work nested).regs.rep ≤ 1 ∧ (work
      nested).regs.slots = 0 ∧ lastOf (engine [0x04000001, 0x00000000] nested).le.prog 1 (((work nested).regs.pc + 1) % 0x2000)
      ≠ (work nested).regs.pc ∧ 4 ≤ (work nested).regs.loops.length) ∧
    (Issues (engine [0x05000000] nested) 0 (work nested) LeOp.lexit ∧ (work nested).regs.rep ≤ 1 ∧ (work nested).regs.slots = 0
      ∧ (work nested).regs.loops = [outer, outer, outer, outer] ∧ outer.last ≠ (work nested).regs.pc) ∧
    (Issues (engine [0x05000000] bank) 0 (work bank) LeOp.lexit ∧ (work bank).regs.rep ≤ 1 ∧ (work bank).regs.slots = 0 ∧ (work
      bank).regs.loops = []) ∧
    ((engine [0x7FFFFFFF] bank).Shaped ∧ ((engine [0x7FFFFFFF] bank).engine (↑0 : Nat)).cur = some (work bank) ∧ (engine
      [0x7FFFFFFF] bank).leActive = true ∧ ((engine [0x7FFFFFFF] bank).engine (↑0 : Nat)).halted = false ∧ (work bank).filled =
      true ∧ (work bank).regs.cycles < (engine [0x7FFFFFFF] bank).le.limit ∧ vendorLaw (work bank).law = false ∧ fetchLe (engine
      [0x7FFFFFFF] bank).le.prog (work bank).regs.pc = none) ∧
    ((engine [0x00000000] spent).Shaped ∧ ((engine [0x00000000] spent).engine (↑0 : Nat)).cur = some (work spent) ∧ (engine
      [0x00000000] spent).leActive = true ∧ ((engine [0x00000000] spent).engine (↑0 : Nat)).halted = false ∧ ((engine
      [0x00000000] spent).overLimit (work spent) = true ∨ (engine [0x00000000] spent).le.limit ≤ (work spent).regs.cycles)) ∧
    ((∀ (z : Exec), ((engine [0x00000000] bank).engine (↑0 : Nat)).cur = some z → (engine [0x00000000] bank).overLimit z = false
      ∧ z.regs.cycles < (engine [0x00000000] bank).le.limit)) ∧
    ((underLaw 16 usable0).Shaped ∧ ((underLaw 16 usable0).engine (↑0 : Nat)).cur = some (lawWork usable0) ∧ (underLaw 16
      usable0).leActive = true ∧ ((underLaw 16 usable0).engine (↑0 : Nat)).halted = false ∧ ((underLaw 16 usable0).overLimit
      (lawWork usable0) = true ∨ (underLaw 16 usable0).le.limit ≤ (lawWork usable0).regs.cycles)) ∧
    (Issuing (engine [0x30503000] bank) 0 (work bank) (LeOp.abs false false 5 0x3000) ∧ (work bank).unwritten (false, 0x3000)) ∧
    (Issuing (engine [0x38503FBF] bank) 0 (work bank) (LeOp.abs true false 5 0x3FBF) ∧ (work bank).unwritten (true, 0x3FBF)) := by
  and_intros <;>
    first
    | exact some_of _ rfl (by decide +kernel)
    | unfold Exec.unwritten; decide +kernel
    | exact issues
    | exact shaped
    | exact issuing
    | decide +kernel

theorem witness_BoardPostBreakpointAndDebug :
    (Issues (engine [0x63100000] bank) 0 (work bank) (LeOp.pub 4 false 0 0 0) ∧ (engine [0x63100000] bank).le.pubs.length = 4) ∧
    (Issues (engine [0x631007FF] bank) 0 (work bank) (LeOp.pub 4 false 0 0 2047) ∧ (engine [0x631007FF] bank).le.pubs.length =
      4) ∧
    (Issues (engine [0x631007FF] bank) 0 (work bank) (LeOp.pub 4 false 0 0 2047) ∧ (engine [0x631007FF] bank).le.pubs.length = 4
      ∧ (if false = true then (nth (work bank).regs.pV 0 0#14).toNat % 0x1000 else 2047) < 2048) ∧
    (Issues (engine [0x63100800] bank) 0 (work bank) (LeOp.pub 4 false 0 0 2048) ∧ (engine [0x63100800] bank).le.pubs.length = 4
      ∧ 2048 ≤ if false = true then (nth (work bank).regs.pV 0 0#14).toNat % 0x1000 else 2048) ∧
    (Issues (engine [0x6313E000] mvAddr) 0 (work mvAddr) (LeOp.pub 4 true 7 2 0) ∧ (engine [0x6313E000] mvAddr).le.pubs.length =
      4 ∧ 2048 ≤ if true = true then (nth (work mvAddr).regs.pV 7 0#14).toNat % 0x1000 else 0) ∧
    (0 < 32 ∧ Issues (engine [0x61000000] bank) 0 (work bank) (LeOp.evr 0)) ∧
    (31 < 32 ∧ Issues (engine [0x6100001F] bank) 0 (work bank) (LeOp.evr 31)) ∧
    Issues (engine [0x6020BE00] bank) 0 (work bank) (LeOp.post 130 3 7) ∧
    Issues (engine [0x60FFC000] bank) 0 (work bank) (LeOp.post 1023 0 0) ∧
    (Issues (engine [0x06000000] bank) 0 (work bank) LeOp.bkpt ∧ (engine [0x06000000] bank).cfg 0x2407 0 ≠ 1) ∧
    (Issues (debugged (engine [0x06000000] bank)) 0 (work bank) LeOp.bkpt ∧ (debugged (engine [0x06000000] bank)).cfg 0x2407 0 =
      1 ∧ (work bank).regs.slots ≠ 2 ∧ (work bank).regs.rep ≤ 1) ∧
    (Issues (debugged (engine [0x06000000] firstSlot)) 0 (work firstSlot) LeOp.bkpt ∧ (debugged (engine [0x06000000]
      firstSlot)).cfg 0x2407 0 = 1 ∧ (work firstSlot).regs.slots = 2) ∧
    (Issues (engine [0x00000000] lastSlot) 0 (work lastSlot) LeOp.nop ∧ (work lastSlot).regs.slots = 1 ∧ (work
      lastSlot).regs.rep ≤ 1) ∧
    (up.Shaped ∧ up.fnSt Fn.loopEngines ≠ FnState.fault) ∧
    (0 < 256 ∧ Granted idle (hdr 33 0x2407 0 (toLE 1 0)) 0x2407 0 (toLE 1 0) sess) ∧
    (1 < 256 ∧ Granted idle (hdr 33 0x2407 0 (toLE 1 1)) 0x2407 0 (toLE 1 1) sess) := by
  and_intros <;> first | exact issues | exact shaped | exact granted | decide +kernel

theorem witness_ItemsEndAndAreWrittenBack :
    (Issues (engine [0x01000000] bank) 0 (work bank) (LeOp.done 0 false) ∧ ((work bank).law = 255 → (work bank).item.flow < 96)
      ∧ 0 ≤ 64 ∧ nth (engine [0x01000000] bank).way.positions (3 * (↑0 : Nat) + if ((engine [0x01000000] bank).engine (↑0 :
      Nat)).inUrgent = true then 2 else 1) none = some (work bank).item) ∧
    (Issues (engine [0x01001001] bank) 0 (work bank) (LeOp.done 64 true) ∧ ((work bank).law = 255 → (work bank).item.flow < 96)
      ∧ 64 ≤ 64 ∧ nth (engine [0x01001001] bank).way.positions (3 * (↑0 : Nat) + if ((engine [0x01001001] bank).engine (↑0 :
      Nat)).inUrgent = true then 2 else 1) none = some (work bank).item) ∧
    ((underLaw 4000 missing).Shaped ∧ ((underLaw 4000 missing).engine (↑0 : Nat)).cur = some (lawWork missing) ∧ (underLaw 4000
      missing).leActive = true ∧ ((underLaw 4000 missing).engine (↑0 : Nat)).halted = false ∧ (lawWork missing).filled = true ∧
      (lawWork missing).regs.cycles < (underLaw 4000 missing).le.limit ∧ vendorLaw (lawWork missing).law = true ∧ (underLaw 4000
      missing).overLimit (lawWork missing) = false ∧ (lawWork missing).item.flow < 96 ∧ nth (underLaw 4000
      missing).way.positions (3 * (↑0 : Nat) + if ((underLaw 4000 missing).engine (↑0 : Nat)).inUrgent = true then 2 else 1)
      none = some (lawWork missing).item) ∧
    (((underLaw 4000 usable0).put (Fn.joint 0) FnState.stopped).Shaped ∧ (((underLaw 4000 usable0).put (Fn.joint 0)
      FnState.stopped).engine (↑0 : Nat)).cur = some (lawWork usable0) ∧ ((underLaw 4000 usable0).put (Fn.joint 0)
      FnState.stopped).leActive = true ∧ (((underLaw 4000 usable0).put (Fn.joint 0) FnState.stopped).engine (↑0 : Nat)).halted =
      false ∧ (lawWork usable0).filled = true ∧ (lawWork usable0).regs.cycles < ((underLaw 4000 usable0).put (Fn.joint 0)
      FnState.stopped).le.limit ∧ vendorLaw (lawWork usable0).law = true ∧ ((underLaw 4000 usable0).put (Fn.joint 0)
      FnState.stopped).overLimit (lawWork usable0) = false ∧ (lawWork usable0).item.flow < 96 ∧ nth ((underLaw 4000 usable0).put
      (Fn.joint 0) FnState.stopped).way.positions (3 * (↑0 : Nat) + if (((underLaw 4000 usable0).put (Fn.joint 0)
      FnState.stopped).engine (↑0 : Nat)).inUrgent = true then 2 else 1) none = some (lawWork usable0).item) ∧
    (((underLaw 4000 driveFault).put (Fn.joint 0) FnState.stopped).Shaped ∧ (((underLaw 4000 driveFault).put (Fn.joint 0)
      FnState.stopped).engine (↑0 : Nat)).cur = some (lawWork driveFault) ∧ ((underLaw 4000 driveFault).put (Fn.joint 0)
      FnState.stopped).leActive = true ∧ (((underLaw 4000 driveFault).put (Fn.joint 0) FnState.stopped).engine (↑0 :
      Nat)).halted = false ∧ (lawWork driveFault).filled = true ∧ (lawWork driveFault).regs.cycles < ((underLaw 4000
      driveFault).put (Fn.joint 0) FnState.stopped).le.limit ∧ vendorLaw (lawWork driveFault).law = true ∧ ((underLaw 4000
      driveFault).put (Fn.joint 0) FnState.stopped).overLimit (lawWork driveFault) = false ∧ (lawWork driveFault).item.flow < 96
      ∧ nth ((underLaw 4000 driveFault).put (Fn.joint 0) FnState.stopped).way.positions (3 * (↑0 : Nat) + if (((underLaw 4000
      driveFault).put (Fn.joint 0) FnState.stopped).engine (↑0 : Nat)).inUrgent = true then 2 else 1) none = some (lawWork
      driveFault).item) ∧
    ((underLaw 4000 driveFault).Shaped ∧ ((underLaw 4000 driveFault).engine (↑0 : Nat)).cur = some (lawWork driveFault) ∧
      (underLaw 4000 driveFault).leActive = true ∧ ((underLaw 4000 driveFault).engine (↑0 : Nat)).halted = false ∧ (lawWork
      driveFault).filled = true ∧ (lawWork driveFault).regs.cycles < (underLaw 4000 driveFault).le.limit ∧ vendorLaw (lawWork
      driveFault).law = true ∧ (underLaw 4000 driveFault).overLimit (lawWork driveFault) = false ∧ (lawWork
      driveFault).item.flow < 96 ∧ nth (underLaw 4000 driveFault).way.positions (3 * (↑0 : Nat) + if ((underLaw 4000
      driveFault).engine (↑0 : Nat)).inUrgent = true then 2 else 1) none = some (lawWork driveFault).item) ∧
    (writesBack.Shaped ∧ (writesBack.engine (↑0 : Nat)).wbs = [wb] ∧ wb.flow < 1024 ∧ wb.ctxLen ≤ 64 ∧ wb.ctx.length = 64 ∧ (∀
      (v : Nat), v ∈ wb.ctx → v < 2 ^ 24)) ∧
    (up.engine (↑0 : Nat)).wbs = [] ∧
    ((engine [0x00000000] bank).Shaped ∧ ([((engine [0x00000000] bank).engine ((↑1 : Nat) / 3)).slot, ((engine [0x00000000]
      bank).engine ((↑1 : Nat) / 3)).normal, ((engine [0x00000000] bank).engine ((↑1 : Nat) / 3)).urgent].getD ((↑1 : Nat) % 3)
      none) = some (work bank)) ∧
    ((runsAll empties [0]).Shaped ∧ ([((runsAll empties [0]).engine ((↑1 : Nat) / 3)).slot, ((runsAll empties [0]).engine ((↑1 :
      Nat) / 3)).normal, ((runsAll empties [0]).engine ((↑1 : Nat) / 3)).urgent].getD ((↑1 : Nat) % 3) none) = some empty) ∧
    ((runsAll both [0]).Shaped ∧ ((runsAll both [0]).engine (↑0 : Nat)).urgent.isSome = true ∧ ((runsAll both [0]).engine (↑0 :
      Nat)).inUrgent = false ∧ ((runsAll both [0]).engine (↑0 : Nat)).halted = false ∧ (∀ (x : Exec), ((runsAll both [0]).engine
      (↑0 : Nat)).normal = some x → x.regs.boundary = true)) ∧
    (((engine [0x00000000] shut).engine (↑0 : Nat)).normal = some (work shut) ∧ (work shut).regs.boundary = false) := by
  and_intros <;> first | exact issues | exact shaped | decide +kernel | rfl

theorem witness_JointsAndBoardCycles :
    (0 < 96 ∧ 256 < 2 ^ 16 ∧ Granted up (hdr 33 (jointIdx 0 2) 0 (toLE 2 256)) (jointIdx 0 2) 0 (toLE 2 256) sess) ∧
    (0 < 96 ∧ 1103823437824 < 2 ^ 64 ∧ Granted lawReady (hdr 33 (jointIdx 0 11) 0 (toLE 8 1103823437824)) (jointIdx 0 11) 0
      (toLE 8 1103823437824) sess) ∧
    (0 < 96 ∧ 1 ≤ sess.role ∧ Admitted jointStopped (writeReq (hdr 33 (jointIdx 0 2) 0 (toLE 2 256)) (jointIdx 0 2) 0 (toLE 2
      256)) sess ∧ jointStopped.available (jointIdx 0 2) true = true ∧ (jointStopped.fnSt (Fn.joint 0) ≠ FnState.running ∨
      (jointStopped.joint 0).tune.isSome = true)) ∧
    (0 < 96 ∧ 1 ≤ sess.role ∧ Admitted (tunes (tuning 0 false)) (writeReq (hdr 33 (jointIdx 0 2) 0 (toLE 2 256)) (jointIdx 0 2)
      0 (toLE 2 256)) sess ∧ (tunes (tuning 0 false)).available (jointIdx 0 2) true = true ∧ ((tunes (tuning 0 false)).fnSt
      (Fn.joint 0) ≠ FnState.running ∨ ((tunes (tuning 0 false)).joint 0).tune.isSome = true)) ∧
    ((tunes tuneEmpty).Shaped ∧ 0 < 96 ∧ ((tunes tuneEmpty).joint 0).tune = some tuneEmpty ∧ tuneEmpty.length ≤ tuneEmpty.count
      ∧ tuneEmpty.fitting = false) ∧
    ((tunes (tuning 0 false)).Shaped ∧ 0 < 96 ∧ ((tunes (tuning 0 false)).joint 0).tune = some (tuning 0 false) ∧ ((tuning 0
      false).count < (tuning 0 false).length ∨ (tuning 0 false).fitting = true)) ∧
    ((tunes (tuning 0 false)).Shaped ∧ 0 < 96 ∧ ((tunes (tuning 0 false)).joint 0).tune = some (tuning 0 false) ∧ (tuning 0
      false).fitting = false) ∧
    ((tunes (tuning 0 true)).Shaped ∧ 0 < 96 ∧ ((tunes (tuning 0 true)).joint 0).tune = some (tuning 0 true) ∧ (tuning 0
      true).fitting = true) ∧
    Granted up (hdr 33 0x2F05 0 (toLE 1 1)) 0x2F05 0 (toLE 1 1) sess ∧
    (up.Shaped ∧ up.time.ticking = true) ∧
    (booked.Shaped ∧ booked.time.ticking = true) ∧
    State.reset.time.ticking = false := by
  and_intros <;> first | exact granted | exact admitted | exact shaped | decide +kernel

theorem witness_MotionCommandsEnterTheMailbox :
    (Admitted up (postReq (hdr 64 0 0 (commandRecord 4 hold1)) 4 hold1) sess ∧ (Instr.hold hold1 (hdr 64 0 0 (commandRecord 4
      hold1)), 4) ∈ [(Instr.moveJoint hold1 (hdr 64 0 0 (commandRecord 4 hold1)), 1), (Instr.moveLinear hold1 (hdr 64 0 0
      (commandRecord 4 hold1)), 2), (Instr.coopMove hold1 (hdr 64 0 0 (commandRecord 4 hold1)), 3), (Instr.hold hold1 (hdr 64 0
      0 (commandRecord 4 hold1)), 4), (Instr.resume hold1 (hdr 64 0 0 (commandRecord 4 hold1)), 5), (Instr.cancel hold1 (hdr 64
      0 0 (commandRecord 4 hold1)), 6)] ∧ up.available 0x2881 true = true ∧ 1 ≤ sess.role ∧ up.isRunning Fn.planner = true ∧ (∀
      (a : Nat), a ∈ bitsOf 12 hold1.mask → up.isRunning (Fn.arm a) = true) ∧ up.commandOk 4 hold1 = true ∧ (∀ (i : Nat),
      namedIdentity 4 hold1 = some i → up.slotOf i ≠ none) ∧ (∃ (y : MboxSlot), y ∈ up.dict.mbox ∧ y.open = false)) ∧
    (Admitted up (postReq (hdr 64 0 0 (commandRecord 5 hold1)) 5 hold1) sess ∧ (Instr.resume hold1 (hdr 64 0 0 (commandRecord 5
      hold1)), 5) ∈ [(Instr.moveJoint hold1 (hdr 64 0 0 (commandRecord 5 hold1)), 1), (Instr.moveLinear hold1 (hdr 64 0 0
      (commandRecord 5 hold1)), 2), (Instr.coopMove hold1 (hdr 64 0 0 (commandRecord 5 hold1)), 3), (Instr.hold hold1 (hdr 64 0
      0 (commandRecord 5 hold1)), 4), (Instr.resume hold1 (hdr 64 0 0 (commandRecord 5 hold1)), 5), (Instr.cancel hold1 (hdr 64
      0 0 (commandRecord 5 hold1)), 6)] ∧ up.available 0x2881 true = true ∧ 1 ≤ sess.role ∧ up.isRunning Fn.planner = true ∧ (∀
      (a : Nat), a ∈ bitsOf 12 hold1.mask → up.isRunning (Fn.arm a) = true) ∧ up.commandOk 5 hold1 = true ∧ (∀ (i : Nat),
      namedIdentity 5 hold1 = some i → up.slotOf i ≠ none) ∧ (∃ (y : MboxSlot), y ∈ up.dict.mbox ∧ y.open = false)) ∧
    (Admitted aimed (postReq (hdr 64 0 0 (commandRecord 1 move1)) 1 move1) sess ∧ (Instr.moveJoint move1 (hdr 64 0 0
      (commandRecord 1 move1)), 1) ∈ [(Instr.moveJoint move1 (hdr 64 0 0 (commandRecord 1 move1)), 1), (Instr.moveLinear move1
      (hdr 64 0 0 (commandRecord 1 move1)), 2), (Instr.coopMove move1 (hdr 64 0 0 (commandRecord 1 move1)), 3), (Instr.hold
      move1 (hdr 64 0 0 (commandRecord 1 move1)), 4), (Instr.resume move1 (hdr 64 0 0 (commandRecord 1 move1)), 5),
      (Instr.cancel move1 (hdr 64 0 0 (commandRecord 1 move1)), 6)] ∧ aimed.available 0x2881 true = true ∧ 1 ≤ sess.role ∧
      aimed.isRunning Fn.planner = true ∧ (∀ (a : Nat), a ∈ bitsOf 12 move1.mask → aimed.isRunning (Fn.arm a) = true) ∧
      aimed.commandOk 1 move1 = true ∧ (∀ (i : Nat), namedIdentity 1 move1 = some i → aimed.slotOf i ≠ none) ∧ (∃ (y :
      MboxSlot), y ∈ aimed.dict.mbox ∧ y.open = false)) ∧
    (Admitted aimed (postReq (hdr 64 0 0 (commandRecord 2 move1)) 2 move1) sess ∧ (Instr.moveLinear move1 (hdr 64 0 0
      (commandRecord 2 move1)), 2) ∈ [(Instr.moveJoint move1 (hdr 64 0 0 (commandRecord 2 move1)), 1), (Instr.moveLinear move1
      (hdr 64 0 0 (commandRecord 2 move1)), 2), (Instr.coopMove move1 (hdr 64 0 0 (commandRecord 2 move1)), 3), (Instr.hold
      move1 (hdr 64 0 0 (commandRecord 2 move1)), 4), (Instr.resume move1 (hdr 64 0 0 (commandRecord 2 move1)), 5),
      (Instr.cancel move1 (hdr 64 0 0 (commandRecord 2 move1)), 6)] ∧ aimed.available 0x2881 true = true ∧ 1 ≤ sess.role ∧
      aimed.isRunning Fn.planner = true ∧ (∀ (a : Nat), a ∈ bitsOf 12 move1.mask → aimed.isRunning (Fn.arm a) = true) ∧
      aimed.commandOk 2 move1 = true ∧ (∀ (i : Nat), namedIdentity 2 move1 = some i → aimed.slotOf i ≠ none) ∧ (∃ (y :
      MboxSlot), y ∈ aimed.dict.mbox ∧ y.open = false)) ∧
    (Admitted grouped (postReq (hdr 64 0 0 (commandRecord 3 pair1)) 3 pair1) sess ∧ (Instr.coopMove pair1 (hdr 64 0 0
      (commandRecord 3 pair1)), 3) ∈ [(Instr.moveJoint pair1 (hdr 64 0 0 (commandRecord 3 pair1)), 1), (Instr.moveLinear pair1
      (hdr 64 0 0 (commandRecord 3 pair1)), 2), (Instr.coopMove pair1 (hdr 64 0 0 (commandRecord 3 pair1)), 3), (Instr.hold
      pair1 (hdr 64 0 0 (commandRecord 3 pair1)), 4), (Instr.resume pair1 (hdr 64 0 0 (commandRecord 3 pair1)), 5),
      (Instr.cancel pair1 (hdr 64 0 0 (commandRecord 3 pair1)), 6)] ∧ grouped.available 0x2881 true = true ∧ 1 ≤ sess.role ∧
      grouped.isRunning Fn.planner = true ∧ (∀ (a : Nat), a ∈ bitsOf 12 pair1.mask → grouped.isRunning (Fn.arm a) = true) ∧
      grouped.commandOk 3 pair1 = true ∧ (∀ (i : Nat), namedIdentity 3 pair1 = some i → grouped.slotOf i ≠ none) ∧ (∃ (y :
      MboxSlot), y ∈ grouped.dict.mbox ∧ y.open = false)) ∧
    (Admitted aimedSlots (postReq (hdr 64 0 0 (commandRecord 6 cancel1)) 6 cancel1) sess ∧ (Instr.cancel cancel1 (hdr 64 0 0
      (commandRecord 6 cancel1)), 6) ∈ [(Instr.moveJoint cancel1 (hdr 64 0 0 (commandRecord 6 cancel1)), 1), (Instr.moveLinear
      cancel1 (hdr 64 0 0 (commandRecord 6 cancel1)), 2), (Instr.coopMove cancel1 (hdr 64 0 0 (commandRecord 6 cancel1)), 3),
      (Instr.hold cancel1 (hdr 64 0 0 (commandRecord 6 cancel1)), 4), (Instr.resume cancel1 (hdr 64 0 0 (commandRecord 6
      cancel1)), 5), (Instr.cancel cancel1 (hdr 64 0 0 (commandRecord 6 cancel1)), 6)] ∧ aimedSlots.available 0x2881 true = true
      ∧ 1 ≤ sess.role ∧ aimedSlots.isRunning Fn.planner = true ∧ (∀ (a : Nat), a ∈ bitsOf 12 cancel1.mask → aimedSlots.isRunning
      (Fn.arm a) = true) ∧ aimedSlots.commandOk 6 cancel1 = true ∧ (∀ (i : Nat), namedIdentity 6 cancel1 = some i →
      aimedSlots.slotOf i ≠ none) ∧ (∃ (y : MboxSlot), y ∈ aimedSlots.dict.mbox ∧ y.open = false)) ∧
    (Admitted (slotted 1) (postReq (hdr 64 0 0 (commandRecord 4 hold1)) 4 hold1) sess ∧ (Instr.hold hold1 (hdr 64 0 0
      (commandRecord 4 hold1)), 4) ∈ [(Instr.moveJoint hold1 (hdr 64 0 0 (commandRecord 4 hold1)), 1), (Instr.moveLinear hold1
      (hdr 64 0 0 (commandRecord 4 hold1)), 2), (Instr.coopMove hold1 (hdr 64 0 0 (commandRecord 4 hold1)), 3), (Instr.hold
      hold1 (hdr 64 0 0 (commandRecord 4 hold1)), 4), (Instr.resume hold1 (hdr 64 0 0 (commandRecord 4 hold1)), 5),
      (Instr.cancel hold1 (hdr 64 0 0 (commandRecord 4 hold1)), 6)] ∧ (slotted 1).available 0x2881 true = true ∧ 1 ≤ sess.role ∧
      (slotted 1).isRunning Fn.planner = true ∧ (∀ (a : Nat), a ∈ bitsOf 12 hold1.mask → (slotted 1).isRunning (Fn.arm a) =
      true) ∧ (slotted 1).commandOk 4 hold1 = true ∧ (∀ (i : Nat), namedIdentity 4 hold1 = some i → (slotted 1).slotOf i ≠ none)
      ∧ (∀ (y : MboxSlot), y ∈ (slotted 1).dict.mbox → y.open = true)) ∧
    (Admitted armDown (postReq (hdr 64 0 0 (commandRecord 4 hold1)) 4 hold1) sess ∧ (Instr.hold hold1 (hdr 64 0 0 (commandRecord
      4 hold1)), 4) ∈ [(Instr.moveJoint hold1 (hdr 64 0 0 (commandRecord 4 hold1)), 1), (Instr.moveLinear hold1 (hdr 64 0 0
      (commandRecord 4 hold1)), 2), (Instr.coopMove hold1 (hdr 64 0 0 (commandRecord 4 hold1)), 3), (Instr.hold hold1 (hdr 64 0
      0 (commandRecord 4 hold1)), 4), (Instr.resume hold1 (hdr 64 0 0 (commandRecord 4 hold1)), 5), (Instr.cancel hold1 (hdr 64
      0 0 (commandRecord 4 hold1)), 6)] ∧ armDown.available 0x2881 true = true ∧ 1 ≤ sess.role ∧ (armDown.isRunning Fn.planner =
      false ∨ ∃ (a : Nat), a ∈ bitsOf 12 hold1.mask ∧ armDown.isRunning (Fn.arm a) = false)) ∧
    (1 ≤ 1 ∧ Granted up (hdr 33 0x2841 6 (toLE 1 1)) 0x2841 ((↑5 : Nat) + 1) (toLE 1 1) sess) := by
  and_intros <;>
    first
    | exact .head _
    | exact .tail _ (.head _)
    | exact .tail _ (.tail _ (.head _))
    | exact .tail _ (.tail _ (.tail _ (.head _)))
    | exact .tail _ (.tail _ (.tail _ (.tail _ (.head _))))
    | exact .tail _ (.tail _ (.tail _ (.tail _ (.tail _ (.head _)))))
    | exact admitted
    | exact granted
    | decide +kernel

theorem witness_PlanningBoundariesTakeEffect :
    (up.Shaped ∧ up.time.ticking = true ∧ up.boardCycle % up.planRatio = 0 ∧ up.plan.boundary ≠ some (up.boardCycle /
      up.planRatio)) ∧
    ((State.reset.time.ticking = false ∨ State.reset.boardCycle % State.reset.planRatio ≠ 0 ∨ State.reset.plan.boundary = some
      (State.reset.boardCycle / State.reset.planRatio))) ∧
    (waitsHold.Shaped ∧ waitsHold.time.ticking = true ∧ waitsHold.boardCycle % waitsHold.planRatio = 0 ∧ waitsHold.plan.boundary
      ≠ some (waitsHold.boardCycle / waitsHold.planRatio)) ∧
    (waitsResume.Shaped ∧ waitsResume.time.ticking = true ∧ waitsResume.boardCycle % waitsResume.planRatio = 0 ∧
      waitsResume.plan.boundary ≠ some (waitsResume.boardCycle / waitsResume.planRatio)) ∧
    ((waitsCancel 1).Shaped ∧ (waitsCancel 1).time.ticking = true ∧ (waitsCancel 1).boardCycle % (waitsCancel 1).planRatio = 0 ∧
      (waitsCancel 1).plan.boundary ≠ some ((waitsCancel 1).boardCycle / (waitsCancel 1).planRatio)) ∧
    (atSpeed.Shaped ∧ atSpeed.time.ticking = true ∧ atSpeed.boardCycle % atSpeed.planRatio = 0 ∧ atSpeed.plan.boundary ≠ some
      (atSpeed.boardCycle / atSpeed.planRatio)) := by
  and_intros <;> first | exact shaped | decide +kernel

theorem witness_SolvesAndSegments :
    (fronts.Shaped ∧ fronts.plan.latched = some latch0 ∧ (fronts.problem (↑0 : Nat)).due = true ∧ (fronts.problem (↑0 :
      Nat)).asm = none ∧ fronts.isRunning Fn.front = true ∧ ((fronts.serving Consumer.front fun (i : Item) => i.flow == 112 &&
      i.tag == latch0.tag) = some posed)) ∧
    (((up.problem (↑0 : Nat)).due = false ∨ (up.problem (↑0 : Nat)).asm ≠ none ∨ up.isRunning Fn.front = false ∨ ∀ (l :
      Latched), up.plan.latched = some l → (up.serving Consumer.front fun (i : Item) => i.flow == 112 && i.tag == l.tag) =
      none)) ∧
    ((solves assembled (serves 56 113 (toLE 2 0))).Shaped ∧ ((solves assembled (serves 56 113 (toLE 2 0))).problem (↑0 :
      Nat)).asm = some asm0 ∧ ((solves assembled (serves 56 113 (toLE 2 0))).problem (↑0 : Nat)).due = true ∧ (solves assembled
      (serves 56 113 (toLE 2 0))).isRunning Fn.solver = true ∧ (Instr.solveEnd 0 = Instr.solveEnd 0 ∧ noLate = none ∧ ((solves
      assembled (serves 56 113 (toLE 2 0))).serving Consumer.solver fun (i : Item) => i.flow == 113 && u16At i.payload 0 == (↑0
      : Nat)).isSome = true ∨ ∃ (n : Nat), Instr.solveEnd 0 = Instr.solverDeadline 0 n ∧ noLate = some n)) ∧
    ((solves assembled Waystation.initial).Shaped ∧ ((solves assembled Waystation.initial).problem (↑0 : Nat)).asm = some asm0 ∧
      ((solves assembled Waystation.initial).problem (↑0 : Nat)).due = true ∧ (solves assembled Waystation.initial).isRunning
      Fn.solver = true ∧ (Instr.solverDeadline 0 7 = Instr.solveEnd 0 ∧ some 7 = none ∧ ((solves assembled
      Waystation.initial).serving Consumer.solver fun (i : Item) => i.flow == 113 && u16At i.payload 0 == (↑0 : Nat)).isSome =
      true ∨ ∃ (n : Nat), Instr.solverDeadline 0 7 = Instr.solverDeadline 0 n ∧ some 7 = some n)) ∧
    ((solves toSolve Waystation.initial).Shaped ∧ ((solves toSolve Waystation.initial).problem (↑0 : Nat)).asm = none ∧ ((solves
      toSolve Waystation.initial).problem (↑0 : Nat)).due = true ∧ (solves toSolve Waystation.initial).isRunning Fn.solver =
      true ∧ (solves toSolve Waystation.initial).plan.latched = some latch0) ∧
    (up.problem (↑0 : Nat)).due = false ∧
    (interpolates.Shaped ∧ interpolates.plan.latched = some latch0 ∧ interpolates.isRunning Fn.interp = true ∧
      interpolates.plan.solving = false ∧ ((interpolates.serving Consumer.interp fun (i : Item) => i.flow == 114).isSome =
      true)) ∧
    ((up.isRunning Fn.interp = false ∨ up.plan.solving = true ∨ up.plan.latched = none ∨ (up.serving Consumer.interp fun (i :
      Item) => i.flow == 114) = none)) := by
  and_intros <;> first | exact .inl ⟨rfl, rfl, by decide +kernel⟩ | exact .inr ⟨7, rfl, rfl⟩ | exact shaped | decide +kernel

theorem witness_PointPacketsAreStagedOrCounted :
    (portDown.Shaped ∧ (portDown.isRunning (Fn.hostPort (↑0 : Nat)) = false ∨ (portDown.port (↑0 : Nat)).link = false)) ∧
    (sensed.Shaped ∧ sensed.isRunning (Fn.hostPort (↑0 : Nat)) = true ∧ (sensed.port (↑0 : Nat)).link = true ∧
      sensed.pointPacketOk (↑0 : Nat) false addr 7000 (packet 1 1 0) = false) ∧
    (sensed.Shaped ∧ sensed.isRunning (Fn.hostPort (↑0 : Nat)) = true ∧ (sensed.port (↑0 : Nat)).link = true ∧
      sensed.pointPacketOk (↑0 : Nat) false addr 7000 (packet 0 121 0) = false) ∧
    ((sensed.put Fn.voxel FnState.stopped).Shaped ∧ (sensed.put Fn.voxel FnState.stopped).isRunning (Fn.hostPort (↑0 : Nat)) =
      true ∧ ((sensed.put Fn.voxel FnState.stopped).port (↑0 : Nat)).link = true ∧ (sensed.put Fn.voxel
      FnState.stopped).isRunning Fn.voxel = false) ∧
    (flooded.Shaped ∧ flooded.isRunning (Fn.hostPort (↑0 : Nat)) = true ∧ (flooded.port (↑0 : Nat)).link = true ∧
      flooded.pointPacketOk (↑0 : Nat) false addr 7000 (packet 0 1 0) = true ∧ (¬((flooded.port (↑0 : Nat)).ms ≠
      (flooded.advanceTo 1000).msNow ∨ wordAt (flooded.port (↑0 : Nat)).ingress (3 + u8At (packet 0 1 0) 2) < 2048))) ∧
    (sensed.Shaped ∧ sensed.isRunning (Fn.hostPort (↑0 : Nat)) = true ∧ (sensed.port (↑0 : Nat)).link = true ∧
      sensed.pointPacketOk (↑0 : Nat) false addr 7000 (packet 0 120 0) = true ∧ sensed.isRunning Fn.voxel = true ∧ ((sensed.port
      (↑0 : Nat)).ms ≠ (sensed.advanceTo 1000).msNow ∨ wordAt (sensed.port (↑0 : Nat)).ingress (3 + u8At (packet 0 120 0) 2) <
      2048)) ∧
    (sensed.Shaped ∧ sensed.isRunning (Fn.hostPort (↑0 : Nat)) = true ∧ (sensed.port (↑0 : Nat)).link = true ∧
      sensed.pointPacketOk (↑0 : Nat) false addr 7000 (packet 0 100 0) = true ∧ sensed.isRunning Fn.voxel = true ∧ ((sensed.port
      (↑0 : Nat)).ms ≠ (sensed.advanceTo 1000).msNow ∨ wordAt (sensed.port (↑0 : Nat)).ingress (3 + u8At (packet 0 100 0) 2) <
      2048)) ∧
    (sensed.Shaped ∧ sensed.isRunning (Fn.hostPort (↑0 : Nat)) = true ∧ (sensed.port (↑0 : Nat)).link = true ∧
      sensed.pointPacketOk (↑0 : Nat) false addr 7000 (packet 0 1 0) = true ∧ sensed.isRunning Fn.voxel = true ∧ ((sensed.port
      (↑0 : Nat)).ms ≠ (sensed.advanceTo 1000).msNow ∨ wordAt (sensed.port (↑0 : Nat)).ingress (3 + u8At (packet 0 1 0) 2) <
      2048)) ∧
    (sensedOff.Shaped ∧ sensedOff.isRunning (Fn.hostPort (↑0 : Nat)) = true ∧ (sensedOff.port (↑0 : Nat)).link = true ∧
      sensedOff.pointPacketOk (↑0 : Nat) false addr 7000 (packet 0 1 0) = true ∧ sensedOff.isRunning Fn.voxel = true ∧
      ((sensedOff.port (↑0 : Nat)).ms ≠ (sensedOff.advanceTo 1000).msNow ∨ wordAt (sensedOff.port (↑0 : Nat)).ingress (3 + u8At
      (packet 0 1 0) 2) < 2048)) ∧
    (sensed.Shaped ∧ sensed.isRunning (Fn.hostPort (↑0 : Nat)) = true ∧ (sensed.port (↑0 : Nat)).link = true ∧
      sensed.pointPacketOk (↑0 : Nat) false addr 7000 (packet 0 1 900000) = true ∧ sensed.isRunning Fn.voxel = true ∧
      ((sensed.port (↑0 : Nat)).ms ≠ (sensed.advanceTo 1000).msNow ∨ wordAt (sensed.port (↑0 : Nat)).ingress (3 + u8At (packet 0
      1 900000) 2) < 2048)) ∧
    (sensedLater.Shaped ∧ sensedLater.isRunning (Fn.hostPort (↑0 : Nat)) = true ∧ (sensedLater.port (↑0 : Nat)).link = true ∧
      sensedLater.pointPacketOk (↑0 : Nat) false addr 7000 (packet 0 1 0) = true ∧ sensedLater.isRunning Fn.voxel = true ∧
      ((sensedLater.port (↑0 : Nat)).ms ≠ (sensedLater.advanceTo 1000).msNow ∨ wordAt (sensedLater.port (↑0 : Nat)).ingress (3 +
      u8At (packet 0 1 0) 2) < 2048)) ∧
    (sensed.Shaped ∧ sensed.isRunning (Fn.hostPort (↑0 : Nat)) = true ∧ (sensed.port (↑0 : Nat)).link = true ∧
      sensed.pointPacketOk (↑0 : Nat) false addr 7000 (packet 0 1 0) = true ∧ sensed.isRunning Fn.voxel = true ∧ ((sensed.port
      (↑0 : Nat)).ms ≠ (sensed.advanceTo 1300000).msNow ∨ wordAt (sensed.port (↑0 : Nat)).ingress (3 + u8At (packet 0 1 0) 2) <
      2048)) := by
  and_intros <;> first | exact shaped | decide +kernel

theorem witness_MapWindowsAreUpdated :
    ((up.put Fn.voxel FnState.starting).Shaped ∧ (up.put Fn.voxel FnState.starting).fnSt Fn.voxel = FnState.starting ∧ (up.put
      Fn.voxel FnState.starting).time.ticking = true) ∧
    (up.Shaped ∧ up.fnSt Fn.voxel ≠ FnState.starting) ∧
    (up.isRunning Fn.voxel = true ∧ up.updateBusy = false) ∧
    ((updates.isRunning Fn.voxel = false ∨ updates.updateBusy = true)) ∧
    (updates.per.updating = some window7 ∧ Memory.wordsWf updates.per.map = true ∧ ((updates.serving Consumer.voxel fun (i :
      Item) => i.flow == 115 && i.tag == window7.tag) = some posed115) ∧ List.length posed115.payload = 768) ∧
    ((∀ (u : StageWindow), up.per.updating = some u → (up.serving Consumer.voxel fun (i : Item) => i.flow == 115 && i.tag ==
      u.tag) = none)) := by
  and_intros <;> first | exact shaped | decide +kernel

theorem witness_SeparationResultsCarryTheirFlags :
    (separates.Shaped ∧ separates.per.sep = some window7 ∧ ((separates.serving Consumer.separation fun (i : Item) => i.flow ==
      116 && i.tag == window7.tag) = some posed116)) ∧
    ((separates.put Fn.separation FnState.starting).Shaped ∧ (separates.put Fn.separation FnState.starting).per.sep = some
      window7 ∧ (((separates.put Fn.separation FnState.starting).serving Consumer.separation fun (i : Item) => i.flow == 116 &&
      i.tag == window7.tag) = some posed116)) ∧
    separates.per.sep = some window7 ∧
    ((∀ (w : StageWindow), up.per.sep = some w → (up.serving Consumer.separation fun (i : Item) => i.flow == 116 && i.tag ==
      w.tag) = none)) ∧
    up.per.sep = none := by
  and_intros <;> first | exact shaped | decide +kernel

theorem witness_SafetyCyclesFreezeTheirInputs :
    (up.Shaped ∧ up.time.ticking = true) ∧
    (configured.Shaped ∧ configured.time.ticking = true) ∧
    ((inCycle false).Shaped ∧ (inCycle false).saf.cycle = some 7 ∧ (inCycle false).saf.closed = false) ∧
    State.reset.time.ticking = false ∧
    ((up.saf.cycle = none ∨ up.saf.closed = true)) ∧
    (((inCycle true).saf.cycle = none ∨ (inCycle true).saf.closed = true)) := by
  and_intros <;> first | exact shaped | decide +kernel

theorem witness_ChannelDecisionsFollowTheTable :
    ((inCycle true).Shaped ∧ (inCycle true).saf.cycle = some 7 ∧ (inCycle true).saf.closed = true ∧ (inCycle true).isRunning
      Fn.safety = true ∧ ((inCycle true).saf.channel false).decided ≠ some 7 ∧ (if false = true then (inCycle true).saf.faultB
      else (inCycle true).saf.faultA) = false) ∧
    ((inCycle true).Shaped ∧ (inCycle true).saf.cycle = some 7 ∧ (inCycle true).saf.closed = true ∧ (inCycle true).isRunning
      Fn.safety = true ∧ ((inCycle true).saf.channel true).decided ≠ some 7 ∧ (if true = true then (inCycle true).saf.faultB
      else (inCycle true).saf.faultA) = false) ∧
    faultyA.saf.faultA = true ∧
    faultyB.saf.faultB = true ∧
    ((decided free free).Shaped ∧ (decided free free).saf.cycle = some 7 ∧ (decided free free).isRunning Fn.safety = true ∧
      (decided free free).saf.chA.decided = some 7 ∧ (decided free free).saf.chB.decided = some 7) ∧
    ((decided free inSto).Shaped ∧ (decided free inSto).saf.cycle = some 7 ∧ (decided free inSto).isRunning Fn.safety = true ∧
      (decided free inSto).saf.chA.decided = some 7 ∧ (decided free inSto).saf.chB.decided = some 7 ∧ (∃ (a : Nat), a < 12 ∧ nth
      (decided free inSto).saf.tolerated a false = false ∧ ((decided free inSto).saf.arm false a).st ≠ ((decided free
      inSto).saf.arm true a).st ∧ ((decided free inSto).saf.arm false a).cart = ((decided free inSto).saf.arm true a).cart ∧
      ((decided free inSto).saf.arm false a).zone = ((decided free inSto).saf.arm true a).zone ∧ ((decided free inSto).saf.arm
      false a).ssm = ((decided free inSto).saf.arm true a).ssm)) ∧
    ((disagrees 3).Shaped ∧ (disagrees 3).saf.cycle = some 7 ∧ (disagrees 3).isRunning Fn.safety = true ∧ (disagrees
      3).saf.chA.decided = some 7 ∧ (disagrees 3).saf.chB.decided = some 7 ∧ (∀ (a : Nat), a < 12 → ((disagrees 3).saf.arm false
      a).st = ((disagrees 3).saf.arm true a).st) ∧ (∃ (i : Nat), i < 36 ∧ (disagrees 3).tolerantDiff i = true ∧ u16At
      ((disagrees 3).obj 0xA100 0) 4 ≤ nth (disagrees 3).saf.disagree i 0 + 1)) ∧
    ((degrades inSto).Shaped ∧ (degrades inSto).saf.cycle = some 7 ∧ (degrades inSto).isRunning Fn.safety = true ∧ (degrades
      inSto).saf.chA.decided = some 7 ∧ (degrades inSto).saf.chB.decided = some 7 ∧ (∀ (a : Nat), a < 12 → ((degrades
      inSto).saf.arm false a).st = ((degrades inSto).saf.arm true a).st) ∧ 1 ≤ u16At ((degrades inSto).obj 0xA100 0) 4 ∧ (∀ (i :
      Nat), i < 36 → (degrades inSto).tolerantDiff i = true → nth (degrades inSto).saf.disagree i 0 + 1 < u16At ((degrades
      inSto).obj 0xA100 0) 4) ∧ (degrades inSto).saf.degraded.isSome = true ∧ (∀ (a : Nat), a < 12 → ((degrades inSto).saf.arm
      false a).st = 0)) ∧
    ((degrades free).Shaped ∧ (degrades free).saf.cycle = some 7 ∧ (degrades free).isRunning Fn.safety = true ∧ (degrades
      free).saf.chA.decided = some 7 ∧ (degrades free).saf.chB.decided = some 7 ∧ (∀ (a : Nat), a < 12 → ((degrades
      free).saf.arm false a).st = ((degrades free).saf.arm true a).st) ∧ 1 ≤ u16At ((degrades free).obj 0xA100 0) 4 ∧ (∀ (i :
      Nat), i < 36 → (degrades free).tolerantDiff i = true → nth (degrades free).saf.disagree i 0 + 1 < u16At ((degrades
      free).obj 0xA100 0) 4) ∧ ((degrades free).saf.degraded = none ∨ ∃ (a : Nat), a < 12 ∧ ((degrades free).saf.arm false a).st
      ≠ 0)) ∧
    ((disagrees 2).Shaped ∧ (disagrees 2).saf.cycle = some 7 ∧ (disagrees 2).isRunning Fn.safety = true ∧ (disagrees
      2).saf.chA.decided = some 7 ∧ (disagrees 2).saf.chB.decided = some 7 ∧ (∀ (a : Nat), a < 12 → ((disagrees 2).saf.arm false
      a).st = ((disagrees 2).saf.arm true a).st) ∧ 1 ≤ u16At ((disagrees 2).obj 0xA100 0) 4 ∧ (∀ (i : Nat), i < 36 → (disagrees
      2).tolerantDiff i = true → nth (disagrees 2).saf.disagree i 0 + 1 < u16At ((disagrees 2).obj 0xA100 0) 4) ∧ ((disagrees
      2).saf.degraded = none ∨ ∃ (a : Nat), a < 12 ∧ ((disagrees 2).saf.arm false a).st ≠ 0)) ∧
    idle.isRunning Fn.safety = false ∧
    (up.Shaped ∧ up.isRunning Fn.safety = true) ∧
    (degrades free).saf.degraded = some (1, 0) ∧
    up.saf.degraded = none := by
  and_intros <;> first | exact shaped | decide +kernel

theorem witness_SafetyInputsAndOutputsAreMonitored :
    (configured.Shaped ∧ configured.power.compReset = false) ∧
    (pairHigh.power.compReset = false ∧ pairHigh.filterLen (↑0 : Nat) ≠ none) ∧
    (pairHigh.power.compReset = false ∧ pairHigh.filterLen (↑32 : Nat) ≠ none) ∧
    ((State.reset.power.compReset = true ∨ State.reset.filterLen (↑39 : Nat) = none)) ∧
    ((up.power.compReset = true ∨ up.filterLen (↑31 : Nat) = none)) ∧
    (u8At (differs.safInput (↑0 : Nat)) 0 != 0 && ((differs.normalised differs.saf.io.filt (↑0 : Nat)).fst !=
      (differs.normalised differs.saf.io.filt (↑0 : Nat)).snd || bitAt differs.saf.io.pulseLast (↑0 : Nat) || bitAt
      differs.saf.io.pulseLast (16 + (↑0 : Nat))) && !bitAt differs.saf.io.fault (↑0 : Nat) && decide (u8At (differs.safInput
      (↑0 : Nat)) 1 ≤ nth differs.saf.io.disc (↑0 : Nat) 0 + 1)) = true ∧
    (u8At (configured.safInput (↑0 : Nat)) 0 != 0 && ((configured.normalised configured.saf.io.filt (↑0 : Nat)).fst !=
      (configured.normalised configured.saf.io.filt (↑0 : Nat)).snd || bitAt configured.saf.io.pulseLast (↑0 : Nat) || bitAt
      configured.saf.io.pulseLast (16 + (↑0 : Nat))) && !bitAt configured.saf.io.fault (↑0 : Nat) && decide (u8At
      (configured.safInput (↑0 : Nat)) 1 ≤ nth configured.saf.io.disc (↑0 : Nat) 0 + 1)) = false ∧
    (u8At (configured.safInput (↑15 : Nat)) 0 != 0 && ((configured.normalised configured.saf.io.filt (↑15 : Nat)).fst !=
      (configured.normalised configured.saf.io.filt (↑15 : Nat)).snd || bitAt configured.saf.io.pulseLast (↑15 : Nat) || bitAt
      configured.saf.io.pulseLast (16 + (↑15 : Nat))) && !bitAt configured.saf.io.fault (↑15 : Nat) && decide (u8At
      (configured.safInput (↑15 : Nat)) 1 ≤ nth configured.saf.io.disc (↑15 : Nat) 0 + 1)) = false ∧
    (pairHigh.outOn (↑0 : Nat) = true ∧ u8At (pairHigh.safPair ((↑0 : Nat) / 2)) 0 ≠ 0) ∧
    ((pairHigh.outOn (↑15 : Nat) = false ∨ u8At (pairHigh.safPair ((↑15 : Nat) / 2)) 0 = 0)) ∧
    ((configured.outOn (↑0 : Nat) = false ∨ u8At (configured.safPair ((↑0 : Nat) / 2)) 0 = 0)) ∧
    (pulsing.Shaped ∧ bitAt pulsing.saf.io.pulse (↑0 : Nat) = true) ∧
    (pulsing.Shaped ∧ bitAt pulsing.saf.io.pulse (↑1 : Nat) = false) ∧
    (configured.Shaped ∧ configured.edmOf (↑0 : Nat) = some 0 ∧ u8At (configured.safPair (↑0 : Nat)) 0 = 1 ∧ configured.fnSt
      Fn.safety ≠ FnState.fault ∧ configured.pairOn (↑0 : Nat) = configured.edmHigh 0) ∧
    (pairHigh.Shaped ∧ pairHigh.edmOf (↑0 : Nat) = some 0 ∧ u8At (pairHigh.safPair (↑0 : Nat)) 0 = 1 ∧ pairHigh.fnSt Fn.safety ≠
      FnState.fault ∧ pairHigh.pairOn (↑0 : Nat) ≠ pairHigh.edmHigh 0) ∧
    ((established 1).Shaped ∧ (nth (established 1).saf.bindings (↑0 : Nat) SafBinding.initial).st = 3 ∧ u8At (bindRec
      ((established 1).obj 0xA160 0) (↑0 : Nat)) 0 ≠ 0) ∧
    ((established 2).Shaped ∧ (nth (established 2).saf.bindings (↑0 : Nat) SafBinding.initial).st = 3 ∧ u8At (bindRec
      ((established 2).obj 0xA160 0) (↑0 : Nat)) 0 ≠ 0) ∧
    (up.Shaped ∧ ((nth up.saf.bindings (↑103 : Nat) SafBinding.initial).st ≠ 3 ∨ u8At (bindRec (up.obj 0xA160 0) (↑103 : Nat)) 0
      = 0)) := by
  and_intros <;> first | exact shaped | decide +kernel

theorem witness_ChannelFaultsSwitchEveryOutputOff :
    (up.Shaped ∧ up.fnSt Fn.safety ≠ FnState.fault ∧ up.power.compReset = false ∧ (494999 < 495000 ∨ 505000 < 494999)) ∧
    (up.Shaped ∧ up.fnSt Fn.safety ≠ FnState.fault ∧ up.power.compReset = false ∧ (505001 < 495000 ∨ 505000 < 505001)) ∧
    (up.Shaped ∧ up.fnSt Fn.safety ≠ FnState.fault ∧ up.power.pllLocked = true) ∧
    (up.Shaped ∧ up.fnSt Fn.safety ≠ FnState.fault) ∧
    (safFault.Shaped ∧ safFault.fnSt Fn.safety = FnState.fault ∧ safFault.power.compReset = false) ∧
    (safFault.Shaped ∧ safFault.fnSt Fn.safety = FnState.fault ∧ safFault.power.pllLocked = true) ∧
    (up.Shaped ∧ 495000 ≤ 495000 ∧ 495000 ≤ 505000) ∧
    (up.Shaped ∧ 495000 ≤ 505000 ∧ 505000 ≤ 505000) := by
  and_intros <;> first | exact shaped | decide +kernel

theorem witness_StopRequestsBrakeTestsAndCommissioning :
    (2 < 256 ∧ Granted up (hdr 33 0xA150 12 (toLE 1 2)) 0xA150 ((↑11 : Nat) + 1) (toLE 1 2) sess) ∧
    (4095 < 2 ^ 16 ∧ Granted up (hdr 33 0xA151 0 (toLE 2 4095)) 0xA151 0 (toLE 2 4095) sess) ∧
    (1 < 2 ^ 16 ∧ Admitted stopsFor (writeReq (hdr 33 0xA151 0 (toLE 2 1)) 0xA151 0 (toLE 2 1)) sess ∧ 1 ≤ sess.role ∧
      stopsFor.available 0xA151 true = true ∧ (∃ (a : Nat), a < 12 ∧ bitAt 1 a = true ∧ armFlag (stopsFor.safArm a) 6 = true)) ∧
    (16711681 < 2 ^ 32 ∧ Granted holdsArm (hdr 33 0xA152 0 (toLE 4 16711681)) 0xA152 0 (toLE 4 16711681) sess) ∧
    (slips.Shaped ∧ slips.saf.brake = some slipTest ∧ slipTest.joints = 0 :: noJoints ∧ 0 < 96 ∧ slipTest.arm < 12 ∧
      (slips.saf.faultA = false ∨ slips.saf.faultB = false) ∧ slipTest.phase ≠ 0 ∧ (∀ (n : Nat), n < 8 → slips.edmOf n = none) ∧
      (∃ (q0 : Int), ∃ (q : Int), slipTest.start = some q0 ∧ (nth slips.saf.joints 0 SafPos.initial).pos = some q ∧ u32At
      (slips.safLimit 0) 32 < (q - q0).natAbs)) ∧
    ((tests (testing 0 noJoints)).Shaped ∧ (tests (testing 0 noJoints)).saf.brake = some (testing 0 noJoints) ∧ (testing 0
      noJoints).joints = 0 :: noJoints ∧ 0 < 96 ∧ (testing 0 noJoints).arm < 12 ∧ (testing 0 noJoints).phase = 0) ∧
    ((tests (testing 1 noJoints)).Shaped ∧ (tests (testing 1 noJoints)).saf.brake = some (testing 1 noJoints) ∧ (testing 1
      noJoints).joints = 0 :: noJoints ∧ 0 < 96 ∧ (testing 1 noJoints).arm < 12 ∧ (testing 1 noJoints).phase = 1) ∧
    ((tests (testing 2 noJoints)).Shaped ∧ (tests (testing 2 noJoints)).saf.brake = some (testing 2 noJoints) ∧ (testing 2
      noJoints).joints = 0 :: noJoints ∧ 0 < 96 ∧ (testing 2 noJoints).arm < 12 ∧ (testing 2 noJoints).phase = 2 ∧
      noJoints.head? ≠ some 0) ∧
    ((tests (testing 2 joint1)).Shaped ∧ (tests (testing 2 joint1)).saf.brake = some (testing 2 joint1) ∧ (testing 2
      joint1).joints = 0 :: joint1 ∧ 0 < 96 ∧ (testing 2 joint1).arm < 12 ∧ (testing 2 joint1).phase = 2 ∧ joint1.head? ≠ some
      0) ∧
    up.saf.brake = none ∧
    ((aged 0).Shaped ∧ (aged 0).time.ticking = true ∧ (nth (aged 0).saf.ages (↑95 : Nat) (BrakeAge.mk 0 neverPassed 0
      false)).due = false ∧ u32At ((aged 0).obj 0xA100 0) 8 ≤ neverPassed ∧ (nth (aged 0).saf.ages (↑95 : Nat) (BrakeAge.mk 0
      neverPassed 0 false)).age ≤ u32At ((aged 0).obj 0xA100 0) 8) ∧
    ((aged 0x7080).Shaped ∧ (aged 0x7080).time.ticking = true ∧ (nth (aged 0x7080).saf.ages (↑0 : Nat) (BrakeAge.mk 0
      neverPassed 0 false)).due = false ∧ u32At ((aged 0x7080).obj 0xA100 0) 8 ≤ neverPassed ∧ (nth (aged 0x7080).saf.ages (↑0 :
      Nat) (BrakeAge.mk 0 neverPassed 0 false)).age ≤ u32At ((aged 0x7080).obj 0xA100 0) 8) ∧
    (nth agedOut.saf.ages (↑95 : Nat) (BrakeAge.mk 0 neverPassed 0 false)).due = true ∧
    up.power.mramOk = true ∧
    mramLost.power.mramOk = false ∧
    (2896716519 < 2 ^ 32 ∧ Granted pendingSet (hdr 33 0xA003 0 (toLE 4 2896716519)) 0xA003 0 (toLE 4 2896716519) commissioner) ∧
    Granted pendingSet (hdr 33 0xA004 0 (toLE 1 1)) 0xA004 0 (toLE 1 1) commissioner ∧
    ((committing goodCopy).saf.set.commit = some goodCopy ∧ (true = true ∧ (committing goodCopy).power.mramOk = true ∧
      checkValue goodCopy.store = goodCopy.check)) ∧
    ((committing goodCopy).saf.set.commit = some goodCopy ∧ (¬(false = true ∧ (committing goodCopy).power.mramOk = true ∧
      checkValue goodCopy.store = goodCopy.check))) ∧
    ((committing badCopy).saf.set.commit = some badCopy ∧ (¬(true = true ∧ (committing badCopy).power.mramOk = true ∧ checkValue
      badCopy.store = badCopy.check))) ∧
    up.saf.set.commit = none := by
  and_intros <;>
    first
    | exact ⟨0, 0x7FFFFFFF, rfl, by decide +kernel, by decide +kernel⟩
    | exact granted
    | exact admitted
    | exact shaped
    | decide +kernel

theorem witness_AxesFollowTheirCommands :
    (0 < 2 ^ 32 ∧ (Instr.moveAbs 0 0 (moveH 1 0), 1) ∈ [(Instr.moveAbs 0 0 (moveH 1 0), 1), (Instr.moveRel 0 0 (moveH 1 0), 2)]
      ∧ Granted up (moveH 1 0) (0x7005 + 64 * (↑0 : Nat)) 0 (moveCommand 1 0) sess ∧ up.Shaped) ∧
    (5 < 2 ^ 32 ∧ (Instr.moveAbs 0 5 (moveH 1 5), 1) ∈ [(Instr.moveAbs 0 5 (moveH 1 5), 1), (Instr.moveRel 0 5 (moveH 1 5), 2)]
      ∧ Granted up (moveH 1 5) (0x7005 + 64 * (↑0 : Nat)) 0 (moveCommand 1 5) sess ∧ up.Shaped) ∧
    (4294967295 < 2 ^ 32 ∧ (Instr.moveAbs 0 4294967295 (moveH 1 4294967295), 1) ∈ [(Instr.moveAbs 0 4294967295 (moveH 1
      4294967295), 1), (Instr.moveRel 0 4294967295 (moveH 1 4294967295), 2)] ∧ Granted up (moveH 1 4294967295) (0x7005 + 64 *
      (↑0 : Nat)) 0 (moveCommand 1 4294967295) sess ∧ up.Shaped) ∧
    (5 < 2 ^ 32 ∧ (Instr.moveRel 0 5 (moveH 2 5), 2) ∈ [(Instr.moveAbs 0 5 (moveH 2 5), 1), (Instr.moveRel 0 5 (moveH 2 5), 2)]
      ∧ Granted up (moveH 2 5) (0x7005 + 64 * (↑0 : Nat)) 0 (moveCommand 2 5) sess ∧ up.Shaped) ∧
    (up.Shaped ∧ (Instr.jogPos 0 (moveH 3 0), 3) ∈ [(Instr.jogPos 0 (moveH 3 0), 3), (Instr.jogNeg 0 (moveH 3 0), 4),
      (Instr.axisStop 0 (moveH 3 0), 5), (Instr.home 0 (moveH 3 0), 6), (Instr.halt 0 (moveH 3 0), 7)] ∧ Granted up (moveH 3 0)
      (0x7005 + 64 * (↑0 : Nat)) 0 (moveCommand 3 0) sess ∧ (3 = 3 ∨ 3 = 4)) ∧
    (up.Shaped ∧ (Instr.jogNeg 0 (moveH 4 0), 4) ∈ [(Instr.jogPos 0 (moveH 4 0), 3), (Instr.jogNeg 0 (moveH 4 0), 4),
      (Instr.axisStop 0 (moveH 4 0), 5), (Instr.home 0 (moveH 4 0), 6), (Instr.halt 0 (moveH 4 0), 7)] ∧ Granted up (moveH 4 0)
      (0x7005 + 64 * (↑0 : Nat)) 0 (moveCommand 4 0) sess ∧ (4 = 3 ∨ 4 = 4)) ∧
    (up.Shaped ∧ (Instr.axisStop 0 (moveH 5 0), 5) ∈ [(Instr.jogPos 0 (moveH 5 0), 3), (Instr.jogNeg 0 (moveH 5 0), 4),
      (Instr.axisStop 0 (moveH 5 0), 5), (Instr.home 0 (moveH 5 0), 6), (Instr.halt 0 (moveH 5 0), 7)] ∧ Granted up (moveH 5 0)
      (0x7005 + 64 * (↑0 : Nat)) 0 (moveCommand 5 0) sess ∧ (5 = 5 ∨ 5 = 7) ∧ (up.axis (↑0 : Nat)).move = none) ∧
    (up.Shaped ∧ (Instr.halt 0 (moveH 7 0), 7) ∈ [(Instr.jogPos 0 (moveH 7 0), 3), (Instr.jogNeg 0 (moveH 7 0), 4),
      (Instr.axisStop 0 (moveH 7 0), 5), (Instr.home 0 (moveH 7 0), 6), (Instr.halt 0 (moveH 7 0), 7)] ∧ Granted up (moveH 7 0)
      (0x7005 + 64 * (↑0 : Nat)) 0 (moveCommand 7 0) sess ∧ (7 = 5 ∨ 7 = 7) ∧ (up.axis (↑0 : Nat)).move = none) ∧
    ((moving (moveOf true false five)).Shaped ∧ (Instr.axisStop 0 (moveH 5 0), 5) ∈ [(Instr.jogPos 0 (moveH 5 0), 3),
      (Instr.jogNeg 0 (moveH 5 0), 4), (Instr.axisStop 0 (moveH 5 0), 5), (Instr.home 0 (moveH 5 0), 6), (Instr.halt 0 (moveH 5
      0), 7)] ∧ Granted (moving (moveOf true false five)) (moveH 5 0) (0x7005 + 64 * (↑0 : Nat)) 0 (moveCommand 5 0) sess ∧
      ((moving (moveOf true false five)).axis (↑0 : Nat)).move = some (moveOf true false five) ∧ 5 = 5 ∧ (moveOf true false
      five).begun = true) ∧
    ((moving (moveOf true false five)).Shaped ∧ (Instr.halt 0 (moveH 7 0), 7) ∈ [(Instr.jogPos 0 (moveH 7 0), 3), (Instr.jogNeg
      0 (moveH 7 0), 4), (Instr.axisStop 0 (moveH 7 0), 5), (Instr.home 0 (moveH 7 0), 6), (Instr.halt 0 (moveH 7 0), 7)] ∧
      Granted (moving (moveOf true false five)) (moveH 7 0) (0x7005 + 64 * (↑0 : Nat)) 0 (moveCommand 7 0) sess ∧ ((moving
      (moveOf true false five)).axis (↑0 : Nat)).move = some (moveOf true false five) ∧ (7 = 7 ∨ 7 = 5 ∧ (moveOf true false
      five).begun = false)) ∧
    ((moving (notBegun true)).Shaped ∧ (Instr.axisStop 0 (moveH 5 0), 5) ∈ [(Instr.jogPos 0 (moveH 5 0), 3), (Instr.jogNeg 0
      (moveH 5 0), 4), (Instr.axisStop 0 (moveH 5 0), 5), (Instr.home 0 (moveH 5 0), 6), (Instr.halt 0 (moveH 5 0), 7)] ∧
      Granted (moving (notBegun true)) (moveH 5 0) (0x7005 + 64 * (↑0 : Nat)) 0 (moveCommand 5 0) sess ∧ ((moving (notBegun
      true)).axis (↑0 : Nat)).move = some (notBegun true) ∧ (5 = 7 ∨ 5 = 5 ∧ (notBegun true).begun = false)) ∧
    ((setting 0x7004 1 1 0).Shaped ∧ (Instr.home 0 (moveH 6 0), 6) ∈ [(Instr.jogPos 0 (moveH 6 0), 3), (Instr.jogNeg 0 (moveH 6
      0), 4), (Instr.axisStop 0 (moveH 6 0), 5), (Instr.home 0 (moveH 6 0), 6), (Instr.halt 0 (moveH 6 0), 7)] ∧ Granted
      (setting 0x7004 1 1 0) (moveH 6 0) (0x7005 + 64 * (↑0 : Nat)) 0 (moveCommand 6 0) sess ∧ 6 = 6 ∧ (setting 0x7004 1 1
      0).cfg (0x7004 + 64 * (↑0 : Nat)) 1 = 0) ∧
    (up.Shaped ∧ (Instr.home 0 (moveH 6 0), 6) ∈ [(Instr.jogPos 0 (moveH 6 0), 3), (Instr.jogNeg 0 (moveH 6 0), 4),
      (Instr.axisStop 0 (moveH 6 0), 5), (Instr.home 0 (moveH 6 0), 6), (Instr.halt 0 (moveH 6 0), 7)] ∧ Granted up (moveH 6 0)
      (0x7005 + 64 * (↑0 : Nat)) 0 (moveCommand 6 0) sess ∧ 6 = 6 ∧ up.cfg (0x7004 + 64 * (↑0 : Nat)) 1 ≠ 0) ∧
    ((moving (moveOf true false five)).Shaped ∧ ((moving (moveOf true false five)).axis (↑0 : Nat)).move = some (moveOf true
      false five) ∧ (moveOf true false five).homing = none ∧ (moveOf true false five).readyAt ≤ 1000 * 0 ∧ ((moving (moveOf true
      false five)).axis (↑0 : Nat)).waking = false ∧ (moving (moveOf true false five)).feedbackOf (↑0 : Nat) = none) ∧
    ((moving (moveOf true true five)).Shaped ∧ ((moving (moveOf true true five)).axis (↑0 : Nat)).move = some (moveOf true true
      five) ∧ (moveOf true true five).homing = none ∧ (moveOf true true five).readyAt ≤ 1000 * 0 ∧ ((moving (moveOf true true
      five)).axis (↑0 : Nat)).waking = false ∧ (moving (moveOf true true five)).feedbackOf (↑0 : Nat) = none) ∧
    ((moving (moveOf true false endless)).Shaped ∧ ((moving (moveOf true false endless)).axis (↑0 : Nat)).move = some (moveOf
      true false endless) ∧ (moveOf true false endless).homing = none ∧ (moveOf true false endless).readyAt ≤ 1000 * 0 ∧
      ((moving (moveOf true false endless)).axis (↑0 : Nat)).waking = false ∧ (moving (moveOf true false endless)).feedbackOf
      (↑0 : Nat) = none) ∧
    ((wakes.axis (↑0 : Nat)).move = some (moveOf true false five) ∧ (1000 * 0 < (moveOf true false five).readyAt ∨ (wakes.axis
      (↑0 : Nat)).waking = true)) ∧
    (((moving (up.newMove 0 true five)).axis (↑0 : Nat)).move = some (up.newMove 0 true five) ∧ (1000 * 0 < (up.newMove 0 true
      five).readyAt ∨ ((moving (up.newMove 0 true five)).axis (↑0 : Nat)).waking = true)) ∧
    (up.Shaped ∧ ((if 2 = 0 then true else (up.axis (↑0 : Nat)).limp) = false ∨ (if 2 = 1 then true else (up.axis (↑0 :
      Nat)).limn) = false)) ∧
    ((moving (notBegun true)).Shaped ∧ ((if 0 = 0 then true else ((moving (notBegun true)).axis (↑0 : Nat)).limp) = false ∨ (if
      0 = 1 then true else ((moving (notBegun true)).axis (↑0 : Nat)).limn) = false) ∧ ((moving (notBegun true)).axis (↑0 :
      Nat)).move = some (notBegun true) ∧ (notBegun true).homing = none ∧ true = true ∧ (notBegun true).pos = (0 == 0) ∧ 0 ≠ 2 ∧
      (bitAt ((moving (notBegun true)).axisCfg (↑0 : Nat)) 7 = false ∨ (notBegun true).begun = false)) ∧
    ((moving7 (moveOf false false five)).Shaped ∧ ((if 1 = 0 then true else ((moving7 (moveOf false false five)).axis (↑0 :
      Nat)).limp) = false ∨ (if 1 = 1 then true else ((moving7 (moveOf false false five)).axis (↑0 : Nat)).limn) = false) ∧
      ((moving7 (moveOf false false five)).axis (↑0 : Nat)).move = some (moveOf false false five) ∧ (moveOf false false
      five).homing = none ∧ true = true ∧ (moveOf false false five).pos = (1 == 0) ∧ 1 ≠ 2 ∧ bitAt ((moving7 (moveOf false false
      five)).axisCfg (↑0 : Nat)) 7 = true ∧ (moveOf false false five).begun = true) ∧
    ((moving (moveOf true false five)).Shaped ∧ ((if 1 = 0 then true else ((moving (moveOf true false five)).axis (↑0 :
      Nat)).limp) = false ∨ (if 1 = 1 then true else ((moving (moveOf true false five)).axis (↑0 : Nat)).limn) = false) ∧
      ((moving (moveOf true false five)).axis (↑0 : Nat)).move = some (moveOf true false five) ∧ (moveOf true false five).homing
      = none ∧ (true = false ∨ 1 = 2 ∨ (moveOf true false five).pos ≠ (1 == 0))) ∧
    ((setting 0x7001 0 4 21491720).stageOf (↑0 : Nat) = some 3 ∧ (setting 0x7001 0 4 21491720).isRunning (Fn.axis (↑0 : Nat)) =
      true ∧ field ((setting 0x7001 0 4 21491720).axisCfg (↑0 : Nat)) 31 24 ≠ 0 ∧ (field ((setting 0x7001 0 4 21491720).axisCfg
      (↑0 : Nat)) 23 22 = 1 ∨ field ((setting 0x7001 0 4 21491720).axisCfg (↑0 : Nat)) 23 22 = 2)) ∧
    ((setting 0x7001 0 4 4714504).stageOf (↑0 : Nat) = some 3 ∧ ((setting 0x7001 0 4 4714504).isRunning (Fn.axis (↑0 : Nat)) =
      false ∨ field ((setting 0x7001 0 4 4714504).axisCfg (↑0 : Nat)) 31 24 = 0)) := by
  and_intros <;>
    first
    | exact .head _
    | exact .tail _ (.head _)
    | exact .tail _ (.tail _ (.head _))
    | exact .tail _ (.tail _ (.tail _ (.head _)))
    | exact .tail _ (.tail _ (.tail _ (.tail _ (.head _))))
    | exact granted
    | exact shaped
    | decide +kernel

theorem witness_PwmGroupsReloadAndTrip :
    (firstPeriod.Shaped ∧ (firstPeriod.fnSt (Fn.pwm (↑0 : Nat)) = FnState.starting ∧ (firstPeriod.group (↑0 : Nat)).armed = true
      ∧ firstPeriod.aux.calibrated = true)) ∧
    (up.Shaped ∧ (up.fnSt (Fn.pwm (↑7 : Nat)) = FnState.running ∨ (up.fnSt (Fn.pwm (↑7 : Nat)) = FnState.starting ∧ (up.group
      (↑7 : Nat)).armed = true ∧ up.aux.calibrated = true) ∧ ∀ (b : Nat), b < 8 → bitAt up.aux.tripPol b = bitAt (up.cfg (0x7880
      + b) 0) 16)) ∧
    (firstPeriod.Shaped ∧ (firstPeriod.fnSt (Fn.pwm (↑0 : Nat)) = FnState.running ∨ (firstPeriod.fnSt (Fn.pwm (↑0 : Nat)) =
      FnState.starting ∧ (firstPeriod.group (↑0 : Nat)).armed = true ∧ firstPeriod.aux.calibrated = true) ∧ ∀ (b : Nat), b < 8 →
      bitAt firstPeriod.aux.tripPol b = bitAt (firstPeriod.cfg (0x7880 + b) 0) 16)) ∧
    ((setting 0x7801 0 8 5629499534213185664).Shaped ∧ ((setting 0x7801 0 8 5629499534213185664).fnSt (Fn.pwm (↑0 : Nat)) =
      FnState.running ∨ ((setting 0x7801 0 8 5629499534213185664).fnSt (Fn.pwm (↑0 : Nat)) = FnState.starting ∧ ((setting 0x7801
      0 8 5629499534213185664).group (↑0 : Nat)).armed = true ∧ (setting 0x7801 0 8 5629499534213185664).aux.calibrated = true)
      ∧ ∀ (b : Nat), b < 8 → bitAt (setting 0x7801 0 8 5629499534213185664).aux.tripPol b = bitAt ((setting 0x7801 0 8
      5629499534213185664).cfg (0x7880 + b) 0) 16)) ∧
    (wakesStage.Shaped ∧ (wakesStage.fnSt (Fn.pwm (↑0 : Nat)) = FnState.running ∨ (wakesStage.fnSt (Fn.pwm (↑0 : Nat)) =
      FnState.starting ∧ (wakesStage.group (↑0 : Nat)).armed = true ∧ wakesStage.aux.calibrated = true) ∧ ∀ (b : Nat), b < 8 →
      bitAt wakesStage.aux.tripPol b = bitAt (wakesStage.cfg (0x7880 + b) 0) 16)) ∧
    (idle.Shaped ∧ ¬idle.fnSt (Fn.pwm (↑0 : Nat)) = FnState.running ∧ (¬(idle.fnSt (Fn.pwm (↑0 : Nat)) = FnState.starting ∧
      (idle.group (↑0 : Nat)).armed = true ∧ idle.aux.calibrated = true))) ∧
    (16777215 < 2 ^ 32 ∧ Granted up dutyH (0x7803 + 16 * (↑0 : Nat)) ((↑2 : Nat) + 1) (toLE 4 16777215) sess) ∧
    (16777215 < 2 ^ 32 ∧ Admitted (setting 0x7801 0 8 5629499534213185664) (writeReq dutyH (0x7803 + 16 * (↑0 : Nat)) ((↑2 :
      Nat) + 1) (toLE 4 16777215)) sess ∧ 1 ≤ sess.role ∧ (setting 0x7801 0 8 5629499534213185664).available (0x7803 + 16 * (↑0
      : Nat)) true = true ∧ bitAt ((setting 0x7801 0 8 5629499534213185664).groupCfg (↑0 : Nat)) 7 = true) ∧
    (up.Shaped ∧ bitAt up.aux.trips (↑7 : Nat) = false) ∧
    (tripped.Shaped ∧ bitAt tripped.aux.trips (↑7 : Nat) = true) ∧
    up.power.pllLocked = true ∧
    State.reset.power.pllLocked = false := by
  and_intros <;> first | exact shaped | exact granted | exact admitted | decide +kernel

theorem witness_FeedbackInputsCountAndLatch :
    (idle.Shaped ∧ idle.isRunning (Fn.feedback (↑0 : Nat)) = false) ∧
    (up.Shaped ∧ up.isRunning (Fn.feedback (↑0 : Nat)) = true ∧ field (up.cfg (0x7C01 + 16 * (↑0 : Nat)) 0) 1 0 = 1 ∧ true ≠
      (up.feedback (↑0 : Nat)).a ∧ true ≠ (up.feedback (↑0 : Nat)).b) ∧
    (up.Shaped ∧ up.isRunning (Fn.feedback (↑0 : Nat)) = true ∧ field (up.cfg (0x7C01 + 16 * (↑0 : Nat)) 0) 1 0 = 1 ∧ (true ≠
      (up.feedback (↑0 : Nat)).a ∧ false = (up.feedback (↑0 : Nat)).b ∨ true = (up.feedback (↑0 : Nat)).a ∧ false ≠ (up.feedback
      (↑0 : Nat)).b)) ∧
    (highFeedback.Shaped ∧ highFeedback.isRunning (Fn.feedback (↑0 : Nat)) = true ∧ field (highFeedback.cfg (0x7C01 + 16 * (↑0 :
      Nat)) 0) 1 0 = 1 ∧ (true ≠ (highFeedback.feedback (↑0 : Nat)).a ∧ false = (highFeedback.feedback (↑0 : Nat)).b ∨ true =
      (highFeedback.feedback (↑0 : Nat)).a ∧ false ≠ (highFeedback.feedback (↑0 : Nat)).b)) ∧
    ((setting 0x7C01 0 4 73662466).Shaped ∧ (setting 0x7C01 0 4 73662466).isRunning (Fn.feedback (↑0 : Nat)) = true ∧ field
      ((setting 0x7C01 0 4 73662466).cfg (0x7C01 + 16 * (↑0 : Nat)) 0) 1 0 ≠ 1 ∧ true = true ∧ ((setting 0x7C01 0 4
      73662466).feedback (↑0 : Nat)).a = false) ∧
    (up.Shaped ∧ up.isRunning (Fn.feedback (↑0 : Nat)) = true ∧ (field (up.cfg (0x7C01 + 16 * (↑0 : Nat)) 0) 1 0 ≠ 1 ∧ (false =
      false ∨ (up.feedback (↑0 : Nat)).a = true) ∨ false = (up.feedback (↑0 : Nat)).a ∧ false = (up.feedback (↑0 : Nat)).b)) ∧
    ((setting 0x7C01 0 4 73662466).Shaped ∧ (setting 0x7C01 0 4 73662466).isRunning (Fn.feedback (↑0 : Nat)) = true ∧ (field
      ((setting 0x7C01 0 4 73662466).cfg (0x7C01 + 16 * (↑0 : Nat)) 0) 1 0 = 1 ∧ (true ≠ ((setting 0x7C01 0 4 73662466).feedback
      (↑0 : Nat)).a ∧ true = ((setting 0x7C01 0 4 73662466).feedback (↑0 : Nat)).b ∨ true = ((setting 0x7C01 0 4
      73662466).feedback (↑0 : Nat)).a ∧ true ≠ ((setting 0x7C01 0 4 73662466).feedback (↑0 : Nat)).b) ∨ field ((setting 0x7C01
      0 4 73662466).cfg (0x7C01 + 16 * (↑0 : Nat)) 0) 1 0 ≠ 1 ∧ true = true ∧ ((setting 0x7C01 0 4 73662466).feedback (↑0 :
      Nat)).a = false)) ∧
    (up.Shaped ∧ up.isRunning (Fn.feedback (↑15 : Nat)) = true) ∧
    (idle.Shaped ∧ idle.isRunning (Fn.feedback (↑15 : Nat)) = false) := by
  and_intros <;> first | exact shaped | decide +kernel

theorem witness_CanControllersReceiveAndSend :
    (idle.Shaped ∧ idle.canHears (↑0 : Nat) = false) ∧
    ((canCfgOf 62914560).Shaped ∧ (canCfgOf 62914560).canHears (↑0 : Nat) = true ∧ (canCfgOf 62914560).canCarries (↑0 : Nat)
      frameFd = false) ∧
    ((endpoint up).Shaped ∧ (endpoint up).canTakes (↑0 : Nat) ownFd = true ∧ ((((endpoint up).cfg (canIdx (↑0 : Nat) 16) 1 = 1 ∧
      ownFd.ident % 2 ^ 32 = (endpoint up).cfg (canIdx (↑0 : Nat) 16) 2) ∧ (endpoint up).canMode (↑0 : Nat) = 0 ∧ (endpoint
      up).serves = true) ∧ ((((endpoint up).advanceTo 1000).canFrame (↑0 : Nat) ownFd).carry (Endpoint.mk (2 + (↑0 : Nat)) 0 0)
      (canOctets ownFd) 1000).snd = true) ∧ messageFits (Endpoint.mk (2 + (↑0 : Nat)) 0 0) (canOctets ownFd) = true ∧ u8At
      (canOctets ownFd) 0 ≠ 1) ∧
    (heldCan.Shaped ∧ heldCan.canTakes (↑0 : Nat) own = true ∧ (¬(((heldCan.cfg (canIdx (↑0 : Nat) 16) 1 = 1 ∧ own.ident % 2 ^
      32 = heldCan.cfg (canIdx (↑0 : Nat) 16) 2) ∧ heldCan.canMode (↑0 : Nat) = 0 ∧ heldCan.serves = true) ∧
      (((heldCan.advanceTo 1000).canFrame (↑0 : Nat) own).carry (Endpoint.mk (2 + (↑0 : Nat)) 0 0) (canOctets own) 1000).snd =
      true))) ∧
    ((endpoint crowded118).Shaped ∧ (endpoint crowded118).canTakes (↑0 : Nat) own = true ∧ (¬((((endpoint crowded118).cfg
      (canIdx (↑0 : Nat) 16) 1 = 1 ∧ own.ident % 2 ^ 32 = (endpoint crowded118).cfg (canIdx (↑0 : Nat) 16) 2) ∧ (endpoint
      crowded118).canMode (↑0 : Nat) = 0 ∧ (endpoint crowded118).serves = true) ∧ ((((endpoint crowded118).advanceTo
      1000).canFrame (↑0 : Nat) own).carry (Endpoint.mk (2 + (↑0 : Nat)) 0 0) (canOctets own) 1000).snd = true))) ∧
    ((canCfgOf 62914562).Shaped ∧ (canCfgOf 62914562).canTakes (↑0 : Nat) remote = true ∧ (¬((((canCfgOf 62914562).cfg (canIdx
      (↑0 : Nat) 16) 1 = 1 ∧ remote.ident % 2 ^ 32 = (canCfgOf 62914562).cfg (canIdx (↑0 : Nat) 16) 2) ∧ (canCfgOf
      62914562).canMode (↑0 : Nat) = 0 ∧ (canCfgOf 62914562).serves = true) ∧ ((((canCfgOf 62914562).advanceTo 1000).canFrame
      (↑0 : Nat) remote).carry (Endpoint.mk (2 + (↑0 : Nat)) 0 0) (canOctets remote) 1000).snd = true))) ∧
    (up.Shaped ∧ up.canTakes (↑0 : Nat) frame = true ∧ (¬(((up.cfg (canIdx (↑0 : Nat) 16) 1 = 1 ∧ frame.ident % 2 ^ 32 = up.cfg
      (canIdx (↑0 : Nat) 16) 2) ∧ up.canMode (↑0 : Nat) = 0 ∧ up.serves = true) ∧ (((up.advanceTo 1000).canFrame (↑0 : Nat)
      frame).carry (Endpoint.mk (2 + (↑0 : Nat)) 0 0) (canOctets frame) 1000).snd = true))) ∧
    ((canCfgOf 62914561).Shaped ∧ (canCfgOf 62914561).canTakes (↑0 : Nat) remote = true ∧ (¬((((canCfgOf 62914561).cfg (canIdx
      (↑0 : Nat) 16) 1 = 1 ∧ remote.ident % 2 ^ 32 = (canCfgOf 62914561).cfg (canIdx (↑0 : Nat) 16) 2) ∧ (canCfgOf
      62914561).canMode (↑0 : Nat) = 0 ∧ (canCfgOf 62914561).serves = true) ∧ ((((canCfgOf 62914561).advanceTo 1000).canFrame
      (↑0 : Nat) remote).carry (Endpoint.mk (2 + (↑0 : Nat)) 0 0) (canOctets remote) 1000).snd = true))) ∧
    ((canCfgOf 62914561).Shaped ∧ (canCfgOf 62914561).canTakes (↑0 : Nat) frame = true ∧ (¬((((canCfgOf 62914561).cfg (canIdx
      (↑0 : Nat) 16) 1 = 1 ∧ frame.ident % 2 ^ 32 = (canCfgOf 62914561).cfg (canIdx (↑0 : Nat) 16) 2) ∧ (canCfgOf
      62914561).canMode (↑0 : Nat) = 0 ∧ (canCfgOf 62914561).serves = true) ∧ ((((canCfgOf 62914561).advanceTo 1000).canFrame
      (↑0 : Nat) frame).carry (Endpoint.mk (2 + (↑0 : Nat)) 0 0) (canOctets frame) 1000).snd = true))) ∧
    (0xFFFF < 2 ^ 16 ∧ Granted acting (hdr 33 (canIdx 0 49) 0 (toLE 2 0xFFFF)) (canIdx (↑0 : Nat) 49) 0 (toLE 2 0xFFFF) sess) ∧
    (0xFFFF < 2 ^ 16 ∧ Admitted idle (writeReq (hdr 33 (canIdx 0 49) 0 (toLE 2 0xFFFF)) (canIdx (↑0 : Nat) 49) 0 (toLE 2
      0xFFFF)) sess ∧ 1 ≤ sess.role ∧ idle.available (canIdx (↑0 : Nat) 49) true = true ∧ (idle.pair.acting = false ∨
      idle.isRunning (Fn.can (↑0 : Nat)) = false ∨ idle.canMode (↑0 : Nat) = 1 ∨ idle.canMode (↑0 : Nat) = 2)) ∧
    (1 < 2 ^ 16 ∧ Admitted (canCfgOf 599785472) (writeReq (hdr 33 (canIdx 0 49) 0 (toLE 2 1)) (canIdx (↑0 : Nat) 49) 0 (toLE 2
      1)) sess ∧ 1 ≤ sess.role ∧ (canCfgOf 599785472).available (canIdx (↑0 : Nat) 49) true = true ∧ ((canCfgOf
      599785472).pair.acting = false ∨ (canCfgOf 599785472).isRunning (Fn.can (↑0 : Nat)) = false ∨ (canCfgOf 599785472).canMode
      (↑0 : Nat) = 1 ∨ (canCfgOf 599785472).canMode (↑0 : Nat) = 2)) ∧
    (responding.Shaped ∧ (responding.canOn (↑0 : Nat) = true ∧ responding.canCounts (↑0 : Nat) = true ∧ (responding.can (↑0 :
      Nat)).sending = none) ∧ responding.txWaiting (↑0 : Nat) ≠ []) ∧
    (sending0.Shaped ∧ (¬(sending0.canOn (↑0 : Nat) = true ∧ sending0.canCounts (↑0 : Nat) = true ∧ (sending0.can (↑0 :
      Nat)).sending = none) ∨ sending0.txWaiting (↑0 : Nat) = [])) ∧
    (sending0.Shaped ∧ (sending0.can (↑0 : Nat)).sending = some (0, frame) ∧ (0, frame).fst < 16 ∧ sending0.canMode (↑0 : Nat) <
      3 ∧ sending0.power.resetAsked = none) ∧
    (retransmits.Shaped ∧ (retransmits.can (↑0 : Nat)).sending = some (0, frame) ∧ (0, frame).fst < 16 ∧ retransmits.canMode (↑0
      : Nat) < 3 ∧ retransmits.power.resetAsked = none) ∧
    (resetSent.Shaped ∧ (resetSent.can (↑0 : Nat)).sending = some (16, frame) ∧ (16, frame).fst = 16 ∧ resetSent.canMode (↑0 :
      Nat) < 3 ∧ resetSent.power.resetAsked = some (0x1021, 1, (↑0 : Nat), 1)) ∧
    ((up.can (↑3 : Nat)).sending = none ∧ up.power.resetAsked = none) ∧
    (up.Shaped ∧ up.power.resetAsked = none ∧ up.canHears (↑0 : Nat) = true) ∧
    (idle.Shaped ∧ idle.power.resetAsked = none ∧ idle.canHears (↑0 : Nat) = false) ∧
    ((busOff0 false).Shaped ∧ ((busOff0 false).can (↑0 : Nat)).conf = 2 ∧ ((busOff0 false).can (↑0 : Nat)).awaitSw = false ∧
      (busOff0 false).isRunning (Fn.can (↑0 : Nat)) = true) ∧
    (up.Shaped ∧ ((up.can (↑0 : Nat)).conf ≠ 2 ∨ (up.can (↑0 : Nat)).awaitSw = true ∨ up.isRunning (Fn.can (↑0 : Nat)) = false)) ∧
    ((up.put (Fn.can 0) FnState.starting).Shaped ∧ (up.put (Fn.can 0) FnState.starting).fnSt (Fn.can (↑0 : Nat)) =
      FnState.starting) ∧
    (up.Shaped ∧ up.isRunning (Fn.can (↑0 : Nat)) = true) ∧
    (idle.Shaped ∧ idle.isActive (Fn.can (↑0 : Nat)) = false) ∧
    ((busOff0 true).Shaped ∧ (hdr 33 (canIdx 0 6) 0 (toLE 1 1)).src.port < 2 ∧ Granted (busOff0 true) (hdr 33 (canIdx 0 6) 0
      (toLE 1 1)) (canIdx (↑0 : Nat) 6) 0 (toLE 1 1) sess) ∧
    (up.Shaped ∧ (hdr 33 (canIdx 0 6) 0 (toLE 1 1)).src.port < 2 ∧ Admitted up (writeReq (hdr 33 (canIdx 0 6) 0 (toLE 1 1))
      (canIdx (↑0 : Nat) 6) 0 (toLE 1 1)) sess ∧ 1 ≤ sess.role ∧ up.available (canIdx (↑0 : Nat) 6) true = true ∧ (up.can (↑0 :
      Nat)).awaitSw = false) := by
  and_intros <;> first | exact shaped | exact granted | exact admitted | decide +kernel

theorem witness_HostLinksAndAnswers :
    (linkless.Shaped ∧ (linkless.port (↑0 : Nat)).link = false ∧ (linkless.port (↑0 : Nat)).absent = false ∧ (linkless.port (↑0
      : Nat)).los = false) ∧
    (up.Shaped ∧ ((up.port (↑0 : Nat)).link = true ∨ (up.port (↑0 : Nat)).absent = true ∨ (up.port (↑0 : Nat)).los = true)) ∧
    up.Shaped ∧
    (up.Shaped ∧ up.isRunning (Fn.hostPort (↑0 : Nat)) = true ∧ (up.port (↑0 : Nat)).link = true) ∧
    (linkless.Shaped ∧ (linkless.isRunning (Fn.hostPort (↑0 : Nat)) = false ∨ (linkless.port (↑0 : Nat)).link = false)) ∧
    (loops.Shaped ∧ loops.fnSt (Fn.hostPort (↑0 : Nat)) = FnState.starting ∧ loops.cfg (portIdx (↑0 : Nat) 7) 0 ≠ 0) ∧
    (up.Shaped ∧ (up.fnSt (Fn.hostPort (↑0 : Nat)) ≠ FnState.starting ∨ up.cfg (portIdx (↑0 : Nat) 7) 0 = 0)) ∧
    (addressed.Shaped ∧ (addressed.isRunning (Fn.hostPort (↑0 : Nat)) = true ∧ (addressed.port (↑0 : Nat)).link = true)) ∧
    (linkless.Shaped ∧ (¬(linkless.isRunning (Fn.hostPort (↑0 : Nat)) = true ∧ (linkless.port (↑0 : Nat)).link = true))) ∧
    (addressed.Shaped ∧ (addressed.isRunning (Fn.hostPort (↑0 : Nat)) = true ∧ (addressed.port (↑0 : Nat)).link = true) ∧
      addressed.reaches (↑0 : Nat) (beNat near6) = true) ∧
    (addressed.Shaped ∧ (addressed.isRunning (Fn.hostPort (↑0 : Nat)) = true ∧ (addressed.port (↑0 : Nat)).link = true) ∧
      ((addressed.port (↑0 : Nat)).ms ≠ (addressed.advanceTo 0).msNow ∨ wordAt (addressed.port (↑0 : Nat)).ingress 2 < 4) ∧
      addressed.ownsAddr (↑0 : Nat) true (beNat own6) = true ∧ addressed.reaches (↑0 : Nat) (beNat far6) = false) ∧
    (addressed.Shaped ∧ (addressed.isRunning (Fn.hostPort (↑0 : Nat)) = true ∧ (addressed.port (↑0 : Nat)).link = true) ∧
      addressed.ownsAddr (↑0 : Nat) false (beNat own4) = true ∧ addressed.reaches (↑0 : Nat) (beNat near4) = true) ∧
    (addressed.Shaped ∧ (addressed.isRunning (Fn.hostPort (↑0 : Nat)) = true ∧ (addressed.port (↑0 : Nat)).link = true) ∧
      ((addressed.port (↑0 : Nat)).ms ≠ (addressed.advanceTo 0).msNow ∨ wordAt (addressed.port (↑0 : Nat)).ingress 2 < 4) ∧
      addressed.ownsAddr (↑0 : Nat) false (beNat own4) = true ∧ addressed.reaches (↑0 : Nat) (beNat far4) = false) ∧
    (addressed.Shaped ∧ (addressed.isRunning (Fn.hostPort (↑0 : Nat)) = true ∧ (addressed.port (↑0 : Nat)).link = true) ∧
      addressed.ownsAddr (↑0 : Nat) false (beNat far4) = false) :=
  ⟨⟨shaped, by decide +kernel, by decide +kernel, by decide +kernel⟩,
    ⟨shaped, by decide +kernel⟩,
    shaped,
    ⟨shaped, by decide +kernel, by decide +kernel⟩,
    ⟨shaped, by decide +kernel⟩,
    ⟨shaped, by decide +kernel, by decide +kernel⟩,
    ⟨shaped, by decide +kernel⟩,
    ⟨shaped, by decide +kernel⟩,
    ⟨shaped, by decide +kernel⟩,
    ⟨shaped, by decide +kernel, by decide +kernel⟩,
    ⟨shaped, by decide +kernel, by decide +kernel, owns6, by decide +kernel⟩,
    ⟨shaped, by decide +kernel, by decide +kernel, by decide +kernel⟩,
    ⟨shaped, by decide +kernel, by decide +kernel, by decide +kernel, by decide +kernel⟩,
    ⟨shaped, by decide +kernel, by decide +kernel⟩⟩

theorem witness_PtpInstancesFollowTheirMaster :
    ((floodedClass 1 8 ptpUp).Shaped ∧ (floodedClass 1 8 ptpUp).isRunning (Fn.hostPort (↑0 : Nat)) = true ∧ ((floodedClass 1 8
      ptpUp).port (↑0 : Nat)).link = true ∧ (¬(((floodedClass 1 8 ptpUp).port (↑0 : Nat)).ms ≠ ((floodedClass 1 8
      ptpUp).advanceTo 0).msNow ∨ wordAt ((floodedClass 1 8 ptpUp).port (↑0 : Nat)).ingress 1 < 8))) ∧
    (up.Shaped ∧ up.isRunning (Fn.hostPort (↑0 : Nat)) = true ∧ (up.port (↑0 : Nat)).link = true ∧ ((up.port (↑0 : Nat)).ms ≠
      (up.advanceTo 0).msNow ∨ wordAt (up.port (↑0 : Nat)).ingress 1 < 8) ∧ (¬(up.ptpRuns (↑0 : Nat) = true ∧ (message7 0
      true).domain = up.cfg (portIdx (↑0 : Nat) 6) 1 ∧ (message7 0 true).transport = up.cfg (portIdx (↑0 : Nat) 6) 3))) ∧
    ((ptpOf slave).Shaped ∧ (ptpOf slave).isRunning (Fn.hostPort (↑0 : Nat)) = true ∧ ((ptpOf slave).port (↑0 : Nat)).link =
      true ∧ (((ptpOf slave).port (↑0 : Nat)).ms ≠ ((ptpOf slave).advanceTo 0).msNow ∨ wordAt ((ptpOf slave).port (↑0 :
      Nat)).ingress 1 < 8) ∧ ((ptpOf slave).ptpRuns (↑0 : Nat) = true ∧ (message7 11 false).domain = (ptpOf slave).cfg (portIdx
      (↑0 : Nat) 6) 1 ∧ (message7 11 false).transport = (ptpOf slave).cfg (portIdx (↑0 : Nat) 6) 3) ∧ (message7 11 false).kind =
      11) ∧
    ((ptpOf slave).Shaped ∧ (ptpOf slave).isRunning (Fn.hostPort (↑0 : Nat)) = true ∧ ((ptpOf slave).port (↑0 : Nat)).link =
      true ∧ (((ptpOf slave).port (↑0 : Nat)).ms ≠ ((ptpOf slave).advanceTo 0).msNow ∨ wordAt ((ptpOf slave).port (↑0 :
      Nat)).ingress 1 < 8) ∧ ((ptpOf slave).ptpRuns (↑0 : Nat) = true ∧ (message7 2 false).domain = (ptpOf slave).cfg (portIdx
      (↑0 : Nat) 6) 1 ∧ (message7 2 false).transport = (ptpOf slave).cfg (portIdx (↑0 : Nat) 6) 3) ∧ (message7 2 false).kind ≠
      11) ∧
    ((ptpOf slave).Shaped ∧ (ptpOf slave).isRunning (Fn.hostPort (↑0 : Nat)) = true ∧ ((ptpOf slave).port (↑0 : Nat)).link =
      true ∧ (((ptpOf slave).port (↑0 : Nat)).ms ≠ ((ptpOf slave).advanceTo 0).msNow ∨ wordAt ((ptpOf slave).port (↑0 :
      Nat)).ingress 1 < 8) ∧ ((ptpOf slave).ptpRuns (↑0 : Nat) = true ∧ (message7 0 true).domain = (ptpOf slave).cfg (portIdx
      (↑0 : Nat) 6) 1 ∧ (message7 0 true).transport = (ptpOf slave).cfg (portIdx (↑0 : Nat) 6) 3) ∧ (message7 0 true).kind = 0 ∧
      ((ptpOf slave).port (↑0 : Nat)).ptp.master = some (message7 0 true).src ∧ (message7 0 true).twoStep = true) ∧
    ((ptpOf slave).Shaped ∧ (ptpOf slave).isRunning (Fn.hostPort (↑0 : Nat)) = true ∧ ((ptpOf slave).port (↑0 : Nat)).link =
      true ∧ (((ptpOf slave).port (↑0 : Nat)).ms ≠ ((ptpOf slave).advanceTo 0).msNow ∨ wordAt ((ptpOf slave).port (↑0 :
      Nat)).ingress 1 < 8) ∧ ((ptpOf slave).ptpRuns (↑0 : Nat) = true ∧ (message7 0 false).domain = (ptpOf slave).cfg (portIdx
      (↑0 : Nat) 6) 1 ∧ (message7 0 false).transport = (ptpOf slave).cfg (portIdx (↑0 : Nat) 6) 3) ∧ (message7 0 false).kind = 0
      ∧ ((ptpOf slave).port (↑0 : Nat)).ptp.master = some (message7 0 false).src ∧ (message7 0 false).twoStep = false) ∧
    ((ptpOf slave).Shaped ∧ (ptpOf slave).isRunning (Fn.hostPort (↑0 : Nat)) = true ∧ ((ptpOf slave).port (↑0 : Nat)).link =
      true ∧ (((ptpOf slave).port (↑0 : Nat)).ms ≠ ((ptpOf slave).advanceTo 0).msNow ∨ wordAt ((ptpOf slave).port (↑0 :
      Nat)).ingress 1 < 8) ∧ ((ptpOf slave).ptpRuns (↑0 : Nat) = true ∧ (message7 8 false).domain = (ptpOf slave).cfg (portIdx
      (↑0 : Nat) 6) 1 ∧ (message7 8 false).transport = (ptpOf slave).cfg (portIdx (↑0 : Nat) 6) 3) ∧ (message7 8 false).kind = 8
      ∧ ((ptpOf slave).port (↑0 : Nat)).ptp.sync = some slave.syncHeard ∧ ((ptpOf slave).port (↑0 : Nat)).ptp.master = some
      (message7 8 false).src ∧ slave.syncHeard.fst = (message7 8 false).seq) ∧
    ((ptpOf slave).Shaped ∧ (ptpOf slave).isRunning (Fn.hostPort (↑0 : Nat)) = true ∧ ((ptpOf slave).port (↑0 : Nat)).link =
      true ∧ (((ptpOf slave).port (↑0 : Nat)).ms ≠ ((ptpOf slave).advanceTo 0).msNow ∨ wordAt ((ptpOf slave).port (↑0 :
      Nat)).ingress 1 < 8) ∧ ((ptpOf slave).ptpRuns (↑0 : Nat) = true ∧ (message7 9 false).domain = (ptpOf slave).cfg (portIdx
      (↑0 : Nat) 6) 1 ∧ (message7 9 false).transport = (ptpOf slave).cfg (portIdx (↑0 : Nat) 6) 3) ∧ (message7 9 false).kind = 9
      ∧ (ptpOf slave).cfg (portIdx (↑0 : Nat) 6) 2 = 1 ∧ ((ptpOf slave).port (↑0 : Nat)).ptp.master = some (message7 9
      false).src ∧ (message7 9 false).req = Config.portIdentity (↑0 : Nat) ∧ ((ptpOf slave).port (↑0 : Nat)).ptp.request = some
      slave.requested ∧ ((ptpOf slave).port (↑0 : Nat)).ptp.down = some 100 ∧ slave.requested.fst = (message7 9 false).seq) ∧
    ((ptpOf slave).Shaped ∧ (ptpOf slave).isRunning (Fn.hostPort (↑0 : Nat)) = true ∧ ((ptpOf slave).port (↑0 : Nat)).link =
      true ∧ (((ptpOf slave).port (↑0 : Nat)).ms ≠ ((ptpOf slave).advanceTo 0).msNow ∨ wordAt ((ptpOf slave).port (↑0 :
      Nat)).ingress 1 < 8) ∧ ((ptpOf slave).ptpRuns (↑0 : Nat) = true ∧ (message7 2 false).domain = (ptpOf slave).cfg (portIdx
      (↑0 : Nat) 6) 1 ∧ (message7 2 false).transport = (ptpOf slave).cfg (portIdx (↑0 : Nat) 6) 3) ∧ (message7 2 false).kind =
      2) ∧
    (peer.Shaped ∧ peer.isRunning (Fn.hostPort (↑0 : Nat)) = true ∧ (peer.port (↑0 : Nat)).link = true ∧ ((peer.port (↑0 :
      Nat)).ms ≠ (peer.advanceTo 0).msNow ∨ wordAt (peer.port (↑0 : Nat)).ingress 1 < 8) ∧ (peer.ptpRuns (↑0 : Nat) = true ∧
      (message7 3 false).domain = peer.cfg (portIdx (↑0 : Nat) 6) 1 ∧ (message7 3 false).transport = peer.cfg (portIdx (↑0 :
      Nat) 6) 3) ∧ (message7 3 false).kind = 3 ∧ peer.cfg (portIdx (↑0 : Nat) 6) 2 = 2 ∧ (message7 3 false).twoStep = false ∧
      (message7 3 false).req = Config.portIdentity (↑0 : Nat) ∧ (peer.port (↑0 : Nat)).ptp.request = some slave.requested ∧
      slave.requested.fst = (message7 3 false).seq) ∧
    (peer.Shaped ∧ peer.isRunning (Fn.hostPort (↑0 : Nat)) = true ∧ (peer.port (↑0 : Nat)).link = true ∧ ((peer.port (↑0 :
      Nat)).ms ≠ (peer.advanceTo 0).msNow ∨ wordAt (peer.port (↑0 : Nat)).ingress 1 < 8) ∧ (peer.ptpRuns (↑0 : Nat) = true ∧
      (message7 3 true).domain = peer.cfg (portIdx (↑0 : Nat) 6) 1 ∧ (message7 3 true).transport = peer.cfg (portIdx (↑0 : Nat)
      6) 3) ∧ (message7 3 true).kind = 3 ∧ peer.cfg (portIdx (↑0 : Nat) 6) 2 = 2 ∧ (message7 3 true).twoStep = true ∧ (message7
      3 true).req = Config.portIdentity (↑0 : Nat) ∧ (peer.port (↑0 : Nat)).ptp.request = some slave.requested ∧
      slave.requested.fst = (message7 3 true).seq) ∧
    (peerHeard.Shaped ∧ peerHeard.isRunning (Fn.hostPort (↑0 : Nat)) = true ∧ (peerHeard.port (↑0 : Nat)).link = true ∧
      ((peerHeard.port (↑0 : Nat)).ms ≠ (peerHeard.advanceTo 0).msNow ∨ wordAt (peerHeard.port (↑0 : Nat)).ingress 1 < 8) ∧
      (peerHeard.ptpRuns (↑0 : Nat) = true ∧ (message7 10 false).domain = peerHeard.cfg (portIdx (↑0 : Nat) 6) 1 ∧ (message7 10
      false).transport = peerHeard.cfg (portIdx (↑0 : Nat) 6) 3) ∧ (message7 10 false).kind = 10 ∧ peerHeard.cfg (portIdx (↑0 :
      Nat) 6) 2 = 2 ∧ (message7 10 false).req = Config.portIdentity (↑0 : Nat) ∧ (peerHeard.port (↑0 : Nat)).ptp.request = some
      slave.requested ∧ (peerHeard.port (↑0 : Nat)).ptp.response = some (400, 900, 0) ∧ slave.requested.fst = (message7 10
      false).seq) ∧
    (peer.Shaped ∧ peer.isRunning (Fn.hostPort (↑0 : Nat)) = true ∧ (peer.port (↑0 : Nat)).link = true ∧ ((peer.port (↑0 :
      Nat)).ms ≠ (peer.advanceTo 0).msNow ∨ wordAt (peer.port (↑0 : Nat)).ingress 1 < 8) ∧ (peer.ptpRuns (↑0 : Nat) = true ∧
      (message7 2 false).domain = peer.cfg (portIdx (↑0 : Nat) 6) 1 ∧ (message7 2 false).transport = peer.cfg (portIdx (↑0 :
      Nat) 6) 3) ∧ (message7 2 false).kind = 2) ∧
    ((ptpOf knows).Shaped ∧ (ptpOf knows).isRunning (Fn.hostPort (↑0 : Nat)) = true ∧ ((ptpOf knows).port (↑0 : Nat)).link =
      true ∧ (((ptpOf knows).port (↑0 : Nat)).ms ≠ ((ptpOf knows).advanceTo 0).msNow ∨ wordAt ((ptpOf knows).port (↑0 :
      Nat)).ingress 1 < 8) ∧ ((ptpOf knows).ptpRuns (↑0 : Nat) = true ∧ (message7 0 false).domain = (ptpOf knows).cfg (portIdx
      (↑0 : Nat) 6) 1 ∧ (message7 0 false).transport = (ptpOf knows).cfg (portIdx (↑0 : Nat) 6) 3) ∧ (message7 0 false).kind = 0
      ∧ ((ptpOf knows).port (↑0 : Nat)).ptp.master = some (message7 0 false).src ∧ (message7 0 false).twoStep = false) ∧
    ((ptpOf knows).Shaped ∧ (ptpOf knows).isRunning (Fn.hostPort (↑0 : Nat)) = true ∧ ((ptpOf knows).port (↑0 : Nat)).link =
      true ∧ (((ptpOf knows).port (↑0 : Nat)).ms ≠ ((ptpOf knows).advanceTo 0).msNow ∨ wordAt ((ptpOf knows).port (↑0 :
      Nat)).ingress 1 < 8) ∧ ((ptpOf knows).ptpRuns (↑0 : Nat) = true ∧ (message7 8 false).domain = (ptpOf knows).cfg (portIdx
      (↑0 : Nat) 6) 1 ∧ (message7 8 false).transport = (ptpOf knows).cfg (portIdx (↑0 : Nat) 6) 3) ∧ (message7 8 false).kind = 8
      ∧ ((ptpOf knows).port (↑0 : Nat)).ptp.sync = some slave.syncHeard ∧ ((ptpOf knows).port (↑0 : Nat)).ptp.master = some
      (message7 8 false).src ∧ slave.syncHeard.fst = (message7 8 false).seq) ∧
    ((ptpOf slave).Shaped ∧ (ptpOf slave).isRunning (Fn.hostPort (↑0 : Nat)) = true ∧ ((ptpOf slave).port (↑0 : Nat)).link =
      true ∧ (ptpOf slave).ptpRuns (↑0 : Nat) = true ∧ (ptpOf slave).cfg (portIdx (↑0 : Nat) 6) 2 = 1 ∧ ((ptpOf slave).port (↑0
      : Nat)).ptp.master ≠ none) ∧
    (peer.Shaped ∧ peer.isRunning (Fn.hostPort (↑0 : Nat)) = true ∧ (peer.port (↑0 : Nat)).link = true ∧ peer.ptpRuns (↑0 : Nat)
      = true ∧ peer.cfg (portIdx (↑0 : Nat) 6) 2 = 2) ∧
    (up.Shaped ∧ up.isRunning (Fn.hostPort (↑0 : Nat)) = true ∧ (up.port (↑0 : Nat)).link = true ∧ (up.ptpRuns (↑0 : Nat) =
      false ∨ up.cfg (portIdx (↑0 : Nat) 6) 2 ≠ 1 ∨ (up.port (↑0 : Nat)).ptp.master = none)) ∧
    (up.Shaped ∧ up.isRunning (Fn.hostPort (↑0 : Nat)) = true ∧ (up.port (↑0 : Nat)).link = true ∧ (up.ptpRuns (↑0 : Nat) =
      false ∨ up.cfg (portIdx (↑0 : Nat) 6) 2 ≠ 2)) := by
  and_intros <;> first | exact shaped | decide +kernel | rfl

theorem witness_FabricAccessesAndLocksAreArbitrated :
    ((access 0 true 0 0).req ≤ 4 ∧ up.fab.seqs = [] ∧ up.fab.waits = [] ∧ up.contends (↑0 : Nat) false (access 0 true 0 0) =
      true ∧ 0 < up.tickets (access 0 true 0 0).req ∧ (∀ (m : FabMove), m ∈ up.fab.moves → m.cycle ≤ 3) ∧ Memory.wordsWf
      up.fab.mem = true ∧ (∀ (b : FabBank), b ∈ up.fab.banks → b.lfsr < 2 ^ 32)) ∧
    ((access 0 false 0 0).req ≤ 4 ∧ up.fab.seqs = [] ∧ up.fab.waits = [] ∧ up.contends (↑0 : Nat) false (access 0 false 0 0) =
      true ∧ 0 < up.tickets (access 0 false 0 0).req ∧ (∀ (m : FabMove), m ∈ up.fab.moves → m.cycle ≤ 3) ∧ Memory.wordsWf
      up.fab.mem = true ∧ (∀ (b : FabBank), b ∈ up.fab.banks → b.lfsr < 2 ^ 32)) ∧
    ((access 4 false 262144 2).req ≤ 4 ∧ up.fab.seqs = [] ∧ up.fab.waits = [] ∧ up.contends (↑1 : Nat) false (access 4 false
      262144 2) = true ∧ 0 < up.tickets (access 4 false 262144 2).req ∧ (∀ (m : FabMove), m ∈ up.fab.moves → m.cycle ≤ 3) ∧
      Memory.wordsWf up.fab.mem = true ∧ (∀ (b : FabBank), b ∈ up.fab.banks → b.lfsr < 2 ^ 32)) ∧
    (4 ≤ 4 ∧ 8 ≤ 10 ∧ 10 ≤ 16 ∧ up.fab.seqs = [] ∧ up.fab.waits = [] ∧ 0 < up.tickets 4 ∧ 0 < up.tickets 10 ∧ (∀ (m : FabMove),
      m ∈ up.fab.moves → m.cycle ≤ 3) ∧ 2097152 % 8 = 0 ∧ 2097152 / 262144 = (↑8 : Nat)) ∧
    (1 ≤ 4 ∧ 8 ≤ 15 ∧ 15 ≤ 16 ∧ up.fab.seqs = [] ∧ up.fab.waits = [] ∧ 0 < up.tickets 1 ∧ 0 < up.tickets 15 ∧ (∀ (m : FabMove),
      m ∈ up.fab.moves → m.cycle ≤ 3) ∧ 12582904 % 8 = 0 ∧ 12582904 / 262144 = (↑47 : Nat)) ∧
    ((∀ (x : FabricReq), x ∈ [access 11 true 2097152 0] → (fabric [seqOf 0] noWaits).contends (↑8 : Nat) true x = false)) ∧
    (10 ≤ (↑10 : Nat) ∧ 0x8000 < 196608 ∧ (match up.fab.seqOf (↑10 : Nat) with | some q => q.lines | none => []).contains 0x8000
      = false) ∧
    (10 ≤ (↑11 : Nat) ∧ 0x8000 < 196608 ∧ (match (fabric [seqOf 0] noWaits).fab.seqOf (↑11 : Nat) with
      | some q => q.lines | none => []).contains 0x8000 = false) ∧
    (10 ≤ (↑10 : Nat) ∧ 0x8000 < 196608 ∧ (match (fabric [fullSeq] noWaits).fab.seqOf (↑10 : Nat) with
      | some q => q.lines | none => []).contains 0x8000 = false) ∧
    (10 ≤ (↑10 : Nat) ∧ (fabric [seqOf 0] noWaits).fab.seqs = [seqOf 0] ∧ (seqOf 0).holder = (↑10 : Nat) ∧ (fabric [seqOf 0]
      noWaits).fab.waits = [] ∧ (seqOf 0).lines.contains (lineOf 2097152) = true ∧ regionWriter 2097152 (↑10 : Nat) = true ∧
      2097152 % 8 = 0 ∧ 2097152 / 262144 = (↑8 : Nat) ∧ 0 < (fabric [seqOf 0] noWaits).tickets (↑10 : Nat) ∧ 2097152 < 12582912) ∧
    (10 ≤ (↑10 : Nat) ∧ (fabric [seqOf 0] noWaits).fab.seqOf (↑10 : Nat) = some (seqOf 0) ∧ (∀ (e : Nat × Nat), e ∈ (seqOf
      0).held ++ (fabric [seqOf 0] noWaits).fab.mem → e.snd < 2 ^ 64)) ∧
    up.fab.seqOf (↑16 : Nat) = none ∧
    ((fabric noSeqs [lockWait]).fab.waits = [LineWait.mk (↑10 : Nat) 0x8000 true] ∧ (fabric noSeqs [lockWait]).fab.seqs = [] ∧
      10 ≤ (↑10 : Nat) ∧ 0 < (fabric noSeqs [lockWait]).tickets (↑10 : Nat) ∧ 0x8000 < 196608) ∧
    ((seqOf 0x1000).holder ≤ 16 ∧ (fabric [seqOf 0x1000] [waitFor 11]).fab.seqs = [seqOf 0x1000] ∧ (fabric [seqOf 0x1000]
      [waitFor 11]).fab.waits = [waitFor 11] ∧ (waitFor 11).req ≠ (seqOf 0x1000).holder ∧ (seqOf 0x1000).lines.contains (waitFor
      11).line = true ∧ (fabric [seqOf 0x1000] [waitFor 11]).holdLimit ≤ (seqOf 0x1000).timer + (5000 - (fabric [seqOf 0x1000]
      [waitFor 11]).fab.cycle)) ∧
    ((seqOf 0).holder ≤ 16 ∧ (fabric [seqOf 0] [waitFor 11]).fab.seqs = [seqOf 0] ∧ (fabric [seqOf 0] [waitFor 11]).fab.waits =
      [waitFor 11] ∧ (waitFor 11).req ≠ (seqOf 0).holder ∧ (seqOf 0).lines.contains (waitFor 11).line = true ∧ (seqOf 0).timer +
      (1 - (fabric [seqOf 0] [waitFor 11]).fab.cycle) < (fabric [seqOf 0] [waitFor 11]).holdLimit ∧ (seqOf 0).timer ≤ (fabric
      [seqOf 0] [waitFor 11]).holdLimit) ∧
    (Granted up (hdr 33 0x2E05 0 (toLE 1 15)) 0x2E05 0 (toLE 1 15) sess ∧ 15 < 2 ^ 8) := by
  and_intros <;> first | exact granted | decide +kernel

theorem witness_LedgerAndFirmwareImages :
    (logged.ledger.queue = entry0 :: noEntries ∧ logged.power.mgmtUp = true ∧ logged.power.mramOk = true) ∧
    ((up.ledger.queue = [] ∨ up.power.mgmtUp = false ∨ up.power.mramOk = false)) ∧
    (programs.fw.programming = some (zeros 16) ∧ List.length (zeros 16) ≤ 786432 ∧ programs.fw.slots.length = 2) ∧
    up.fw.programming = none ∧
    ((runsSlot (inSlot 2) (inSlot 3)).fw.running = some 0 ∧ 0 < 2 ∧ (runsSlot (inSlot 2) (inSlot 3)).fw.slots.length = 2 ∧
      Granted (runsSlot (inSlot 2) (inSlot 3)) (fwH 2) 0x1043 0 (toLE 1 2) sess) ∧
    ((runsSlot (inSlot 2) (inSlot 3)).fw.running = some 0 ∧ 0 < 2 ∧ (runsSlot (inSlot 2) (inSlot 3)).fw.slots.length = 2 ∧
      Granted (runsSlot (inSlot 2) (inSlot 3)) (fwH 3) 0x1043 0 (toLE 1 3) sess) ∧
    ((runsSlot (inSlot 3) (inSlot 0)).fw.running = some 0 ∧ 0 < 2 ∧ (runsSlot (inSlot 3) (inSlot 0)).fw.slots.length = 2 ∧ (1,
      Instr.activate (fwH 1)) ∈ [(1, Instr.activate (fwH 1)), (2, Instr.confirm (fwH 1)), (3, Instr.reject (fwH 1))] ∧ (Admitted
      (runsSlot (inSlot 3) (inSlot 0)) ((fun (k : Nat) => writeReq (fwH 1) 0x1043 0 (toLE 1 k)) 1) sess) ∧ (runsSlot (inSlot 3)
      (inSlot 0)).available 0x1043 true = true ∧ 2 ≤ sess.role ∧ (runsSlot (inSlot 3) (inSlot 0)).fwCommandAllowed 1 = false) ∧
    ((runsSlot (inSlot 3) (inSlot 0)).fw.running = some 0 ∧ 0 < 2 ∧ (runsSlot (inSlot 3) (inSlot 0)).fw.slots.length = 2 ∧ (2,
      Instr.confirm (fwH 2)) ∈ [(1, Instr.activate (fwH 2)), (2, Instr.confirm (fwH 2)), (3, Instr.reject (fwH 2))] ∧ (Admitted
      (runsSlot (inSlot 3) (inSlot 0)) ((fun (k : Nat) => writeReq (fwH 2) 0x1043 0 (toLE 1 k)) 2) sess) ∧ (runsSlot (inSlot 3)
      (inSlot 0)).available 0x1043 true = true ∧ 2 ≤ sess.role ∧ (runsSlot (inSlot 3) (inSlot 0)).fwCommandAllowed 2 = false) ∧
    ((runsSlot (inSlot 3) (inSlot 0)).fw.running = some 0 ∧ 0 < 2 ∧ (runsSlot (inSlot 3) (inSlot 0)).fw.slots.length = 2 ∧ (3,
      Instr.reject (fwH 3)) ∈ [(1, Instr.activate (fwH 3)), (2, Instr.confirm (fwH 3)), (3, Instr.reject (fwH 3))] ∧ (Admitted
      (runsSlot (inSlot 3) (inSlot 0)) ((fun (k : Nat) => writeReq (fwH 3) 0x1043 0 (toLE 1 k)) 3) sess) ∧ (runsSlot (inSlot 3)
      (inSlot 0)).available 0x1043 true = true ∧ 2 ≤ sess.role ∧ (runsSlot (inSlot 3) (inSlot 0)).fwCommandAllowed 3 = false) ∧
    (((runsSlot (inSlot 3) (inSlot 0)).as roleless).fw.running = some 0 ∧ 0 < 2 ∧ ((runsSlot (inSlot 3) (inSlot 0)).as
      roleless).fw.slots.length = 2 ∧ (1, Instr.activate (fwH 1)) ∈ [(1, Instr.activate (fwH 1)), (2, Instr.confirm (fwH 1)),
      (3, Instr.reject (fwH 1))] ∧ (Admitted ((runsSlot (inSlot 3) (inSlot 0)).as roleless) ((fun (k : Nat) => writeReq (fwH 1)
      0x1043 0 (toLE 1 k)) 1) roleless) ∧ ((runsSlot (inSlot 3) (inSlot 0)).as roleless).available 0x1043 true = true ∧
      roleless.role < 2) := by
  and_intros <;>
    first
    | exact .head _
    | exact .tail _ (.head _)
    | exact .tail _ (.tail _ (.head _))
    | exact granted
    | exact admitted
    | decide +kernel

theorem witness_TamperAttestationAndLifeCycle :
    (up.power.pwrEn = true ∧ up.power.compReset = false) ∧
    ((State.reset.power.pwrEn = false ∨ State.reset.power.compReset = true)) ∧
    signing.sec.attStatus = 1 ∧
    up.sec.attStatus ≠ 1 ∧
    ((leaving 1).sec.transition = some (1, key) ∧ (leaving 1).inReset = false ∧ (leaving 1).power.mramOk = true) ∧
    ((leaving 2).sec.transition = some (2, key) ∧ (leaving 2).inReset = false ∧ (leaving 2).power.mramOk = true) ∧
    ((leaving 3).sec.transition = some (3, key) ∧ (leaving 3).inReset = false ∧ (leaving 3).power.mramOk = true) ∧
    ((leaving 4).sec.transition = some (4, key) ∧ (leaving 4).inReset = false ∧ (leaving 4).power.mramOk = true) ∧
    (leavingLow.sec.transition = some (2, key) ∧ leavingLow.inReset = false ∧ leavingLow.power.mramOk = false) ∧
    up.sec.transition = none := by
  and_intros <;> decide +kernel

theorem witness_BootTakesASlotAndStartsItsFunctions :
    ((boots (inSlot 0) tried).serves = true ∧ (boots (inSlot 0) tried).fw.running = none ∧ (boots (inSlot 0) tried).fw.hold =
      false ∧ (boots (inSlot 0) tried).fw.progWritten = [] ∧ (boots (inSlot 0) tried).fw.slots.length = 2 ∧ Memory.wf (boots
      (inSlot 0) tried) = true ∧ (∀ (i : Nat), i < 2 → (fun (i : Nat) => ((boots (inSlot 0) tried).fw.slot i).st) i = 2 ∧
      ((boots (inSlot 0) tried).fw.slot i).trials ≠ 0 ∨ ¬(fun (i : Nat) => ((boots (inSlot 0) tried).fw.slot i).st) i ∈ [2, 3,
      4] ∨ ¬(fun (i : Nat) => (boots (inSlot 0) tried).imageVerifies ((boots (inSlot 0) tried).slotImage i) = true) i)) ∧
    ((State.reset.power.mgmtUp = false ∨ State.reset.power.testMode = true ∨ State.reset.fw.running ≠ none ∨ State.reset.fw.hold
      = true)) ∧
    (((runsSlot (inSlot 3) (inSlot 0)).power.mgmtUp = false ∨ (runsSlot (inSlot 3) (inSlot 0)).power.testMode = true ∨ (runsSlot
      (inSlot 3) (inSlot 0)).fw.running ≠ none ∨ (runsSlot (inSlot 3) (inSlot 0)).fw.hold = true)) ∧
    ((testMode.power.mgmtUp = false ∨ testMode.power.testMode = true ∨ testMode.fw.running ≠ none ∨ testMode.fw.hold = true)) ∧
    ((starts [Fn.timeBase] none).fw.autoStart = Fn.timeBase :: noFns ∧ (starts [Fn.timeBase] none).Shaped ∧ (Fn.timeBase =
      Fn.timeBase ∨ ∃ (n : Nat), n < 2 ∧ Fn.timeBase = Fn.hostPort n) ∧ (∀ (g : Fn), (starts [Fn.timeBase] none).fw.autoLast =
      some g → (starts [Fn.timeBase] none).fnSt g ≠ FnState.starting ∨ (starts [Fn.timeBase] none).staysStarting g = true) ∧
      (starts [Fn.timeBase] none).startRefused Fn.timeBase = none) ∧
    ((starts [Fn.hostPort 0] none).fw.autoStart = Fn.hostPort 0 :: noFns ∧ (starts [Fn.hostPort 0] none).Shaped ∧ (Fn.hostPort 0
      = Fn.timeBase ∨ ∃ (n : Nat), n < 2 ∧ Fn.hostPort 0 = Fn.hostPort n) ∧ (∀ (g : Fn), (starts [Fn.hostPort 0]
      none).fw.autoLast = some g → (starts [Fn.hostPort 0] none).fnSt g ≠ FnState.starting ∨ (starts [Fn.hostPort 0]
      none).staysStarting g = true) ∧ (starts [Fn.hostPort 0] none).startRefused (Fn.hostPort 0) ≠ none) ∧
    (((starts [Fn.timeBase] (some Fn.planner)).put Fn.planner FnState.starting).fw.autoStart = Fn.timeBase :: noFns ∧ ((starts
      [Fn.timeBase] (some Fn.planner)).put Fn.planner FnState.starting).Shaped ∧ (Fn.timeBase = Fn.timeBase ∨ ∃ (n : Nat), n < 2
      ∧ Fn.timeBase = Fn.hostPort n) ∧ ((starts [Fn.timeBase] (some Fn.planner)).put Fn.planner FnState.starting).fw.autoLast =
      some Fn.planner ∧ ((starts [Fn.timeBase] (some Fn.planner)).put Fn.planner FnState.starting).fnSt Fn.planner =
      FnState.starting ∧ ((starts [Fn.timeBase] (some Fn.planner)).put Fn.planner FnState.starting).staysStarting Fn.planner =
      false) ∧
    (canBoot.fw.autoStart = Fn.can (↑0 : Nat) :: noFns ∧ canBoot.Shaped ∧ canBoot.startRefused (Fn.can (↑0 : Nat)) = none ∧ (∀
      (g : Fn), canBoot.fw.autoLast = some g → canBoot.fnSt g ≠ FnState.starting ∨ canBoot.staysStarting g = true)) ∧
    up.fw.autoStart = [] := by
  and_intros <;> first | exact .inl rfl | exact none_of rfl | exact .inr ⟨0, by decide, rfl⟩ | exact shaped | decide +kernel

theorem witness_PairedUnitsHandTheRingsOver :
    ((claiming.pair.actvI = false ∧ claiming.pair.actvO = false ∧ claiming.power.mainReset = false ∧ (claiming.pair.armed = true
      ∨ claiming.pair.testRunning = true ∨ claiming.pair.pairSel = false ∧ claiming.isRunning Fn.pairing = false))) ∧
    ((¬(up.pair.actvI = false ∧ up.pair.actvO = false ∧ up.power.mainReset = false ∧ (up.pair.armed = true ∨ up.pair.testRunning
      = true ∨ up.pair.pairSel = false ∧ up.isRunning Fn.pairing = false)))) ∧
    (claimed.pair.actvO = true ∧ claimed.pair.actvI = false ∧ claimed.pair.acting = false) ∧
    (claimedInTest.pair.actvO = true ∧ claimedInTest.pair.actvI = false ∧ claimedInTest.pair.acting = false) ∧
    (¬(up.pair.actvO = true ∧ up.pair.actvI = false ∧ up.pair.acting = false)) ∧
    (releasing.pair.acting = true ∧ releasing.pair.releasePending = true) ∧
    (¬(up.pair.acting = true ∧ up.pair.releasePending = true)) ∧
    (claiming.pair.armed = true ∧ claiming.pair.actvI = false ∧ claiming.pair.acting = false) ∧
    (¬(up.pair.armed = true ∧ up.pair.actvI = false ∧ up.pair.acting = false)) ∧
    (testRuns.pair.testRunning = true ∧ testRuns.pair.acting = false) ∧
    (testFails.pair.testRunning = true ∧ testFails.pair.acting = false) ∧
    ((up.pair.testRunning = false ∨ up.pair.acting = true)) ∧
    (returning.pair.pairSel = false ∧ returning.pair.armed = true ∧ bitAt (returning.cfg 0x1C01 0) 4 = true ∧
      returning.pair.actvI = true) ∧
    (¬(up.pair.pairSel = false ∧ up.pair.armed = true ∧ bitAt (up.cfg 0x1C01 0) 4 = true ∧ up.pair.actvI = true)) ∧
    (clash.Shaped ∧ clash.isRunning Fn.pairing = true ∧ clash.pair.actvO = true ∧ clash.pair.actvI = true) ∧
    ((up.isRunning Fn.pairing = false ∨ up.pair.actvO = false ∨ up.pair.actvI = false)) ∧
    (acting.Shaped ∧ Granted acting measH 0x1C03 0 (toLE 1 1) sess) ∧
    (acting.Shaped ∧ Granted acting switchH 0x1C04 0 (toLE 1 1) sess) ∧
    (up.Shaped ∧ (Admitted up ((fun (idx : Nat) => writeReq measH idx 0 (toLE 1 1)) 0x1C03) sess) ∧ 1 ≤ sess.role ∧ up.available
      0x1C03 true = true ∧ up.pair.acting = false) ∧
    (up.Shaped ∧ (Admitted up ((fun (idx : Nat) => writeReq switchH idx 0 (toLE 1 1)) 0x1C04) sess) ∧ 1 ≤ sess.role ∧
      up.available 0x1C04 true = true ∧ (up.pair.acting = false ∨ up.isRunning Fn.pairing = false ∨ up.pair.actvI = true)) := by
  and_intros <;> first | exact shaped | exact granted | exact admitted | decide +kernel

theorem witness_TestAccessAndFlashProgramming :
    ((Instr.extest 5, 0) ∈ [(Instr.extest 5, 0), (Instr.extestPulse 5, 6), (Instr.extestTrain 5, 7)] ∧ (State.reset.fw.hold =
      true ∨ (∀ (n : Nat), n < 4 → State.reset.isStopped (Fn.ring n) = true ∧ State.reset.isStopped (Fn.can n) = true) ∧ (∀ (n :
      Nat), n < 2 → State.reset.isStopped (Fn.hostPort n) = true) ∧ (∀ (g : Nat), g < 8 → State.reset.isStopped (Fn.pwm g) =
      true) ∧ (∀ (k : Nat), k < 16 → State.reset.isStopped (Fn.axis k) = true) ∧ State.reset.isStopped Fn.safety = true)) ∧
    ((Instr.extest 5, 0) ∈ [(Instr.extest 5, 0), (Instr.extestPulse 5, 6), (Instr.extestTrain 5, 7)] ∧ (¬(up.fw.hold = true ∨ (∀
      (n : Nat), n < 4 → up.isStopped (Fn.ring n) = true ∧ up.isStopped (Fn.can n) = true) ∧ (∀ (n : Nat), n < 2 → up.isStopped
      (Fn.hostPort n) = true) ∧ (∀ (g : Nat), g < 8 → up.isStopped (Fn.pwm g) = true) ∧ (∀ (k : Nat), k < 16 → up.isStopped
      (Fn.axis k) = true) ∧ up.isStopped Fn.safety = true))) ∧
    ((Instr.extestPulse 5, 6) ∈ [(Instr.extest 5, 0), (Instr.extestPulse 5, 6), (Instr.extestTrain 5, 7)] ∧ (State.reset.fw.hold
      = true ∨ (∀ (n : Nat), n < 4 → State.reset.isStopped (Fn.ring n) = true ∧ State.reset.isStopped (Fn.can n) = true) ∧ (∀ (n
      : Nat), n < 2 → State.reset.isStopped (Fn.hostPort n) = true) ∧ (∀ (g : Nat), g < 8 → State.reset.isStopped (Fn.pwm g) =
      true) ∧ (∀ (k : Nat), k < 16 → State.reset.isStopped (Fn.axis k) = true) ∧ State.reset.isStopped Fn.safety = true)) ∧
    ((Instr.extestPulse 5, 6) ∈ [(Instr.extest 5, 0), (Instr.extestPulse 5, 6), (Instr.extestTrain 5, 7)] ∧ (¬(up.fw.hold = true
      ∨ (∀ (n : Nat), n < 4 → up.isStopped (Fn.ring n) = true ∧ up.isStopped (Fn.can n) = true) ∧ (∀ (n : Nat), n < 2 →
      up.isStopped (Fn.hostPort n) = true) ∧ (∀ (g : Nat), g < 8 → up.isStopped (Fn.pwm g) = true) ∧ (∀ (k : Nat), k < 16 →
      up.isStopped (Fn.axis k) = true) ∧ up.isStopped Fn.safety = true))) ∧
    ((Instr.extestTrain 5, 7) ∈ [(Instr.extest 5, 0), (Instr.extestPulse 5, 6), (Instr.extestTrain 5, 7)] ∧ (State.reset.fw.hold
      = true ∨ (∀ (n : Nat), n < 4 → State.reset.isStopped (Fn.ring n) = true ∧ State.reset.isStopped (Fn.can n) = true) ∧ (∀ (n
      : Nat), n < 2 → State.reset.isStopped (Fn.hostPort n) = true) ∧ (∀ (g : Nat), g < 8 → State.reset.isStopped (Fn.pwm g) =
      true) ∧ (∀ (k : Nat), k < 16 → State.reset.isStopped (Fn.axis k) = true) ∧ State.reset.isStopped Fn.safety = true)) ∧
    ((Instr.extestTrain 5, 7) ∈ [(Instr.extest 5, 0), (Instr.extestPulse 5, 6), (Instr.extestTrain 5, 7)] ∧ (¬(up.fw.hold = true
      ∨ (∀ (n : Nat), n < 4 → up.isStopped (Fn.ring n) = true ∧ up.isStopped (Fn.can n) = true) ∧ (∀ (n : Nat), n < 2 →
      up.isStopped (Fn.hostPort n) = true) ∧ (∀ (g : Nat), g < 8 → up.isStopped (Fn.pwm g) = true) ∧ (∀ (k : Nat), k < 16 →
      up.isStopped (Fn.axis k) = true) ∧ up.isStopped Fn.safety = true))) ∧
    ((¬(up.fw.hold = true ∨ (∀ (n : Nat), n < 4 → up.isStopped (Fn.ring n) = true ∧ up.isStopped (Fn.can n) = true) ∧ (∀ (n :
      Nat), n < 2 → up.isStopped (Fn.hostPort n) = true) ∧ (∀ (g : Nat), g < 8 → up.isStopped (Fn.pwm g) = true) ∧ (∀ (k : Nat),
      k < 16 → up.isStopped (Fn.axis k) = true) ∧ up.isStopped Fn.safety = true))) ∧
    ((Instr.clamp, 4) ∈ [(Instr.clamp, 4), (Instr.highz, 5)] ∧ (holdsRom.fw.hold = true ∨ (∀ (n : Nat), n < 4 →
      holdsRom.isStopped (Fn.ring n) = true ∧ holdsRom.isStopped (Fn.can n) = true) ∧ (∀ (n : Nat), n < 2 → holdsRom.isStopped
      (Fn.hostPort n) = true) ∧ (∀ (g : Nat), g < 8 → holdsRom.isStopped (Fn.pwm g) = true) ∧ (∀ (k : Nat), k < 16 →
      holdsRom.isStopped (Fn.axis k) = true) ∧ holdsRom.isStopped Fn.safety = true)) ∧
    ((Instr.clamp, 4) ∈ [(Instr.clamp, 4), (Instr.highz, 5)] ∧ (¬(up.fw.hold = true ∨ (∀ (n : Nat), n < 4 → up.isStopped
      (Fn.ring n) = true ∧ up.isStopped (Fn.can n) = true) ∧ (∀ (n : Nat), n < 2 → up.isStopped (Fn.hostPort n) = true) ∧ (∀ (g
      : Nat), g < 8 → up.isStopped (Fn.pwm g) = true) ∧ (∀ (k : Nat), k < 16 → up.isStopped (Fn.axis k) = true) ∧ up.isStopped
      Fn.safety = true))) ∧
    ((Instr.highz, 5) ∈ [(Instr.clamp, 4), (Instr.highz, 5)] ∧ (holdsRom.fw.hold = true ∨ (∀ (n : Nat), n < 4 →
      holdsRom.isStopped (Fn.ring n) = true ∧ holdsRom.isStopped (Fn.can n) = true) ∧ (∀ (n : Nat), n < 2 → holdsRom.isStopped
      (Fn.hostPort n) = true) ∧ (∀ (g : Nat), g < 8 → holdsRom.isStopped (Fn.pwm g) = true) ∧ (∀ (k : Nat), k < 16 →
      holdsRom.isStopped (Fn.axis k) = true) ∧ holdsRom.isStopped Fn.safety = true)) ∧
    ((Instr.highz, 5) ∈ [(Instr.clamp, 4), (Instr.highz, 5)] ∧ (¬(up.fw.hold = true ∨ (∀ (n : Nat), n < 4 → up.isStopped
      (Fn.ring n) = true ∧ up.isStopped (Fn.can n) = true) ∧ (∀ (n : Nat), n < 2 → up.isStopped (Fn.hostPort n) = true) ∧ (∀ (g
      : Nat), g < 8 → up.isStopped (Fn.pwm g) = true) ∧ (∀ (k : Nat), k < 16 → up.isStopped (Fn.axis k) = true) ∧ up.isStopped
      Fn.safety = true))) ∧
    (4 < 2 ^ 24 ∧ 9 < 2 ^ 32 ∧ Instr.flashSetOffset 4 ∈ [Instr.flashSetOffset 4, Instr.flashWriteWord 9, Instr.flashReadWord,
      Instr.flashEraseSector 4, Instr.flashNoOperation] ∧ (¬(up.tap.ir = 16 ∧ up.fw.hold = true ∧ up.sec.lifeCycle ≠ 4))) ∧
    (4 < 2 ^ 24 ∧ 9 < 2 ^ 32 ∧ Instr.flashWriteWord 9 ∈ [Instr.flashSetOffset 4, Instr.flashWriteWord 9, Instr.flashReadWord,
      Instr.flashEraseSector 4, Instr.flashNoOperation] ∧ (¬(up.tap.ir = 16 ∧ up.fw.hold = true ∧ up.sec.lifeCycle ≠ 4))) ∧
    (4 < 2 ^ 24 ∧ 9 < 2 ^ 32 ∧ Instr.flashReadWord ∈ [Instr.flashSetOffset 4, Instr.flashWriteWord 9, Instr.flashReadWord,
      Instr.flashEraseSector 4, Instr.flashNoOperation] ∧ (¬(up.tap.ir = 16 ∧ up.fw.hold = true ∧ up.sec.lifeCycle ≠ 4))) ∧
    (4 < 2 ^ 24 ∧ 9 < 2 ^ 32 ∧ Instr.flashEraseSector 4 ∈ [Instr.flashSetOffset 4, Instr.flashWriteWord 9, Instr.flashReadWord,
      Instr.flashEraseSector 4, Instr.flashNoOperation] ∧ (¬(up.tap.ir = 16 ∧ up.fw.hold = true ∧ up.sec.lifeCycle ≠ 4))) ∧
    (4 < 2 ^ 24 ∧ 9 < 2 ^ 32 ∧ Instr.flashNoOperation ∈ [Instr.flashSetOffset 4, Instr.flashWriteWord 9, Instr.flashReadWord,
      Instr.flashEraseSector 4, Instr.flashNoOperation] ∧ (¬(up.tap.ir = 16 ∧ up.fw.hold = true ∧ up.sec.lifeCycle ≠ 4))) ∧
    (4 < 2 ^ 24 ∧ 9 < 2 ^ 32 ∧ (flashBusy.tap.ir = 16 ∧ flashBusy.fw.hold = true ∧ flashBusy.sec.lifeCycle ≠ 4) ∧
      (flashBusy.tap.busy = true ∨ ¬(fun (a : Nat) => a % 4 = 0 ∧ a < 2097152) 4)) ∧
    (2097152 < 2 ^ 24 ∧ 9 < 2 ^ 32 ∧ (flash0.tap.ir = 16 ∧ flash0.fw.hold = true ∧ flash0.sec.lifeCycle ≠ 4) ∧ (flash0.tap.busy
      = true ∨ ¬(fun (a : Nat) => a % 4 = 0 ∧ a < 2097152) 2097152)) ∧
    (2 < 2 ^ 24 ∧ 9 < 2 ^ 32 ∧ (flash0.tap.ir = 16 ∧ flash0.fw.hold = true ∧ flash0.sec.lifeCycle ≠ 4) ∧ (flash0.tap.busy = true
      ∨ ¬(fun (a : Nat) => a % 4 = 0 ∧ a < 2097152) 2)) ∧
    (4 < 2 ^ 24 ∧ 9 < 2 ^ 32 ∧ (flashBusy.tap.ir = 16 ∧ flashBusy.fw.hold = true ∧ flashBusy.sec.lifeCycle ≠ 4) ∧
      (flashBusy.tap.busy = true ∨ ¬(fun (a : Nat) => a % 4 = 0 ∧ a < 2097152) flashBusy.tap.offset)) ∧
    (4 < 2 ^ 24 ∧ 9 < 2 ^ 32 ∧ (flashHigh.tap.ir = 16 ∧ flashHigh.fw.hold = true ∧ flashHigh.sec.lifeCycle ≠ 4) ∧
      flashHigh.fw.erased.contains (flashHigh.tap.offset / 0x1000) = false) ∧
    (2097148 < 2 ^ 24 ∧ 9 < 2 ^ 32 ∧ (flash0.tap.ir = 16 ∧ flash0.fw.hold = true ∧ flash0.sec.lifeCycle ≠ 4) ∧ flash0.tap.busy =
      false ∧ ((fun (a : Nat) => a % 4 = 0 ∧ a < 2097152) 2097148)) ∧
    (4 < 2 ^ 24 ∧ 9 < 2 ^ 32 ∧ (flash0.tap.ir = 16 ∧ flash0.fw.hold = true ∧ flash0.sec.lifeCycle ≠ 4) ∧ flash0.tap.busy = false
      ∧ ((fun (a : Nat) => a % 4 = 0 ∧ a < 2097152) flash0.tap.offset)) ∧
    (4 < 2 ^ 24 ∧ 9 < 2 ^ 32 ∧ (flash0.tap.ir = 16 ∧ flash0.fw.hold = true ∧ flash0.sec.lifeCycle ≠ 4) ∧ flash0.tap.busy = false
      ∧ ((fun (a : Nat) => a % 4 = 0 ∧ a < 2097152) flash0.tap.offset) ∧ flash0.fw.erased.contains (flash0.tap.offset / 0x1000)
      = true) ∧
    (4 < 2 ^ 24 ∧ 9 < 2 ^ 32 ∧ (flash0.tap.ir = 16 ∧ flash0.fw.hold = true ∧ flash0.sec.lifeCycle ≠ 4)) := by
  and_intros <;> decide +kernel

/-! ### Witnesses that rest on what `Config.xmssVerifies` answers -/

theorem image_accepted (g : imageSigned image0 = true) :
    receives.contentRefused (sess.holds imaging) 0x1040 0 (card 0x1040 0) image0 = none := by
  unfold State.contentRefused State.checkImage
  rw [g]
  decide +kernel
theorem witness_LedgerAndFirmwareImages_accepted (g : imageSigned image0 = true) :
    receives.checkingIn 1 = some (sess.holds imaging, imaging, card 0x1040 0) ∧ imaging.left = false ∧ imaging.idx = 0x1040 ∧
    receives.contentRefused (sess.holds imaging) imaging.idx imaging.sub (card 0x1040 0) imaging.content = none :=
  ⟨rfl, rfl, rfl, image_accepted g⟩
theorem plant_fw {s t : State} (h : t.plant = s.plant) : t.fw = s.fw :=
  show t.plant.fw = s.plant.fw by rw [h]
theorem plant_sec {s t : State} (h : t.plant = s.plant) : t.sec = s.sec :=
  show t.plant.sec = s.plant.sec by rw [h]
theorem commandAllowed_congr {s t : State} (k : Nat) (h : s.fw = t.fw) (g : s.sec = t.sec) :
    s.fwCommandAllowed k = t.fwCommandAllowed k := by
  unfold State.fwCommandAllowed State.imageVerifies State.imageFloorOk State.slotImage
  rw [h, g]
theorem allowed {s : State} (h : s.fw.running = some 0) (me : (s.fw.slot 0).st = 3) (it : (s.fw.slot 1).st = 1)
    (g : s.imageVerifies (s.slotImage 1) = true) : s.fwCommandAllowed 1 = true := by
  unfold State.fwCommandAllowed Firmware.other
  rw [h]
  simp [me, it, g]
theorem activate_passes (s : State) (x : Session) (e : s.fwCommandAllowed 1 = true)
    (a : s.writeAccess x 0x1043 (card 0x1043 0) = none) (p : s.periodRefused 0x1043 = false) :
    s.writeRefused x 0x1043 0 (toLE 1 1) = none := by
  unfold State.writeRefused
  rw [show lookup 0x1043 0 = .found (card 0x1043 0) from rfl]
  dsimp only
  rw [a]
  dsimp only
  rw [if_neg (by decide)]
  have h : s.stateRefused x 0x1043 0 (leNat (toLE 1 1)) (card 0x1043 0) = none := by
    unfold State.stateRefused
    rw [show Fn.ofBase 0x1043 = none from rfl]
    dsimp only
    rw [p, show (card 0x1043 0).acc = .wo from rfl]
    simp only [show (Access.wo == Access.rws) = false from rfl, Bool.false_and, Bool.or_self, Bool.false_eq_true, if_false]
    unfold State.ownRefused State.deviceRefused
    simp [e, show leNat (toLE 1 1) = 1 from rfl]
  rw [h]
  rfl
theorem served_allowed (s : State) (r : Req) (x : Session) (k : Nat) : (s.served r x).fwCommandAllowed k = s.fwCommandAllowed k :=
  commandAllowed_congr k (show (s.carried r).1.fw = s.fw from plant_fw (State.plant_carried s r))
    (show (s.carried r).1.sec = s.sec from plant_sec (State.plant_carried s r))
theorem witness_LedgerAndFirmwareImages_activate (g : activates.imageVerifies (activates.slotImage 1) = true) :
    activates.fw.running = some 0 ∧ 0 < 2 ∧ activates.fw.slots.length = 2 ∧
    Granted activates (fwH 1) 0x1043 0 (toLE 1 1) sess := by
  refine ⟨rfl, by decide, rfl, admitted, activate_passes _ _ ?_ ?_ ?_⟩
  · rw [served_allowed]
    exact allowed rfl rfl rfl g
  · decide +kernel
  · decide +kernel
theorem flash_wf : Memory.wf (flashOf [0, 1] up) = true := by decide +kernel
theorem flash_wf1 : Memory.wf (flashOf [1] up) = true := by decide +kernel
def bootable (s : State) : Prop :=
  s.serves = true ∧ s.fw.running = none ∧ s.fw.hold = false ∧ s.fw.progWritten = [] ∧ s.fw.slots.length = 2 ∧
  Memory.wf s = true
theorem bootable_of {s : State} (h : Memory.wf s = true)
    (g : (s.serves && s.fw.running.isNone && !s.fw.hold && s.fw.progWritten.isEmpty && s.fw.slots.length == 2) = true) : bootable s := by
  simp only [Bool.and_eq_true, Option.isNone_iff_eq_none, Bool.not_eq_true', List.isEmpty_iff, beq_iff_eq] at g
  obtain ⟨⟨⟨⟨a, b⟩, c⟩, d⟩, e⟩ := g
  exact ⟨a, b, c, d, e, h⟩
def good (s : State) (i : Nat) : Prop := s.imageVerifies (s.slotImage i) = true
def trial : State := bootsFrom [0, 1] (inSlot 2) (inSlot 3)
def confirmed : State := bootsFrom [0, 1] (inSlot 0) (inSlot 3)
def failed : State := bootsFrom [0, 1] tried (inSlot 3)
def previous : State := bootsFrom [0, 1] (inSlot 4) (inSlot 0)
def fallsBack : State := bootsFrom [1] (inSlot 3) (inSlot 4)
theorem witness_BootTakesASlot_verified (g1 : good trial 0) (g2 : good confirmed 1) (g3 : good failed 1) (g4 : good previous 0)
    (g5 : ¬ good fallsBack 0) (g6 : good fallsBack 1) :
    (bootable trial ∧ (trial.fw.slot 0).st = 2 ∧ (trial.fw.slot 0).trials = 0 ∧ good trial 0) ∧
    (bootable confirmed ∧ (confirmed.fw.slot 1).st = 3 ∧ good confirmed 1 ∧
      ∀ j, j < 2 → (confirmed.fw.slot j).st ≠ 2 ∧ (j < 1 → (confirmed.fw.slot j).st ≠ 3)) ∧
    (bootable failed ∧ (failed.fw.slot 0).st = 2 ∧ (failed.fw.slot 0).trials ≠ 0 ∧ (failed.fw.slot 1).st = 3 ∧ good failed 1) ∧
    (bootable previous ∧ (previous.fw.slot 0).st = 4 ∧ good previous 0 ∧
      ∀ j, j < 2 → (previous.fw.slot j).st ≠ 2 ∧ (previous.fw.slot j).st ≠ 3) ∧
    (bootable fallsBack ∧ (fallsBack.fw.slot 0).st = 3 ∧ ¬ good fallsBack 0 ∧ (fallsBack.fw.slot 1).st = 4 ∧ good fallsBack 1) := by
  refine ⟨⟨bootable_of flash_wf rfl, rfl, rfl, g1⟩, ⟨bootable_of flash_wf rfl, rfl, g2, by decide +kernel⟩,
    ⟨bootable_of flash_wf rfl, rfl, by decide +kernel, rfl, g3⟩, ⟨bootable_of flash_wf rfl, rfl, g4, by decide +kernel⟩,
    ⟨bootable_of flash_wf1 rfl, rfl, g5, rfl, g6⟩⟩
/-- A transition from INITIAL to SCRAP, in a session of role 3, with every ring and the safety function STOPPED. -/
def leaveWith (n : Nat) : Octets := [4#8, 0#8, 0#8, 0#8] ++ toLE 4 n ++ zeros 36
def scrapping : Transfer := checking 0x1801 0 (leaveWith Config.serial)
def scraps : State := idle.as (commissioner.holds scrapping)
theorem serial_at (n : Nat) : u32At (leaveWith n) 4 = n % 2 ^ 32 := by
  show leNat (toLE 4 n) = n % 2 ^ 32
  simp [leNat, toLE, BitVec.toNat_ofNat]
  omega
theorem scrap_passes : scraps.contentRefused (commissioner.holds scrapping) 0x1801 0 (card 0x1801 0) scrapping.content = none := by
  unfold State.contentRefused
  rw [if_neg (by decide +kernel), if_neg (by decide), if_pos rfl]
  unfold State.checkTransition
  have h : (u32At scrapping.content 4 != Config.serial % 2 ^ 32) = false := by
    rw [show scrapping.content = leaveWith Config.serial from rfl, serial_at]
    exact bne_self_eq_false _
  rw [h]
  decide +kernel
theorem witness_ContentChecksDecideDomainWrites_transition :
    scraps.checkingIn 1 = some (commissioner.holds scrapping, scrapping, card 0x1801 0) ∧ scrapping.left = false ∧
    scraps.contentRefused (commissioner.holds scrapping) scrapping.idx scrapping.sub (card 0x1801 0) scrapping.content = none ∧
    scrapping.idx = 0x1801 := ⟨rfl, rfl, scrap_passes, rfl⟩

/-! ### Ill-formed commands, one for each check of `wellFormed` -/

/-- A header with every field in its range. -/
def plain : Hdr := ⟨⟨0, 0, 0⟩, 1, 1, 0, 0, 0, 0, zeros 16, 0⟩

def otherHdr : Hdr := { plain with len := 2 ^ 16 }

def move0 : Motion := ⟨0, 1, 0, 0, 0, 0, 0, 0, 0, 0⟩

def read0 : Readings := ⟨.replicate 24 (.replicate 16 0), .replicate 16 (.replicate 16 0)⟩

def frame0 : CanFrame := ⟨0, true, false, false, false, 0, []⟩

def ptp0 : PtpMsg := ⟨0, 0, 0, 0, false, 0, 0, 0, 0, 0, [], 0⟩

def access0 : FabricReq := ⟨0, false, 0, 0, [(0, 0)], 0⟩

/-- Well-formed commands, one for each row with an operand to check. -/
theorem test_wf_accepts_1 : List.all
  [.sensorReadingUpdate read0, .openSession plain 0 (zeros 15) (zeros 16), .close plain, .read plain 0 0, .write plain 0 0 [],
   .segReadInit plain 0 0, .segRead plain 0, .segWriteInit plain 0 0 0, .segWrite plain 0 [], .segAbort plain,
   .domainContentCheckDone 0, .sessionConfirmTimeout 0, .sessionIdleTimeout 0, .segmentTimeout 0, .start .waystation plain,
   .stop .waystation plain, .clear .waystation plain, .startChecksComplete .waystation, .startLimitExpiry .waystation,
   .stopSequenceComplete .waystation, .store plain, .restoreDefaults plain, .mainResetRequest plain, .deviceResetRequest plain,
   .powerModeRun plain, .powerModeDoze plain, .powerModeComputeOff plain, .powerModeMainOff plain, .pannierReturn 0 0 [] 0,
   .nodeServiceTimeout 0 1, .unfoldRequest 0 plain, .snapshot 0 0 0 plain, .outputReset 0 0 0 plain, .mode 0 0 0 plain,
   .barrierRequest 0 0 plain, .regulatorStep 0 0 plain, .incrementWrite 0 plain, .eventRaise 0 plain, .eventClear 0 plain,
   .waystationStatusClear 0 plain, .debugEnableWrite 0 plain, .done 0 0 false, .rep 0 0, .loop 0 1 1, .bra 0 0 0, .bsr 0 0 0,
   .moveImmediate 0 0 0 false, .moveAbsolute 0 false false 0 0, .moveIndirect 0 false false 0 0 0, .move 0 0 0,
   .shln 0 false 1, .shrn 0 false 1, .addp 0 0 0, .post 0 0 0 0, .evr 0 0, .get 0 0 false 0 0 0, .pub 0 0 false 0 0 0,
   .ftap 0 false false 0 4, .pmov 0 none none, .clr 0 false none none, .cpy 0 false 0 none none, .add 0 false 0 none none,
   .sub 0 false 0 none none, .cmp 0 false 0 none none, .neg 0 false none none, .abs 0 false none none,
   .mul 0 false 0 none none, .muln 0 false 0 none none, .mac 0 false 0 none none, .msu 0 false 0 none none,
   .mulr 0 false 0 none none, .madr 0 false 0 none none, .rnd 0 false none none, .tst 0 false none none,
   .asl 0 false none none, .asr 0 false none none, .max 0 false 0 none none, .min 0 false 0 none none,
   .and 0 false 0 none none, .or 0 false 0 none none, .xor 0 false 0 none none, .sat 0 false none none,
   .lawSelectRequest 0 0 plain, .tuneRequest 0 0 plain, .identRunEnd 0, .tuneFitDone 0, .traceTriggerNow plain,
   .moveJoint move0 plain, .moveLinear move0 plain, .coopMove move0 plain, .hold move0 plain, .resume move0 plain,
   .cancel move0 plain, .groupEngage 0 0 plain, .pointPacket 0 false (zeros 4) 0 [] 0, .hostStopRequest 0 0 plain,
   .armAcknowledge 0 plain, .brakeTestRequest 0 plain, .testPulseEnd 0 false 0, .safeObjectWrite 0]
  (fun i => wellFormed i) = true := by decide +kernel

/-- Well-formed commands, one for each row with an operand to check. -/
theorem test_wf_accepts_2 : List.all
  [.safetyConfirm 0 plain, .discardPending plain, .moveAbs 0 0 plain, .moveRel 0 0 plain, .jogPos 0 plain, .jogNeg 0 plain,
   .axisStop 0 plain, .home 0 plain, .halt 0 plain, .switchFilterChange 0 0 false 0, .dutyWrite 0 0 0 plain,
   .canFrameReceived 0 frame0 0, .transmitRequest 0 0 plain, .canTransmissionEnd 0 0 0 false 0, .recoveryRequest 0 plain,
   .arpRequest 0 (zeros 6) (zeros 4) (zeros 4) 0, .neighbourSolicitation 0 (zeros 16) (zeros 16) 0,
   .echoRequest 0 false (zeros 4) (zeros 4) [] 0, .ptpMessage 0 ptp0 0, .bazaarAccess 0 false 0 0 [access0],
   .lockRequest 0 0 0, .lockGrant 0 0, .fabricStatusClear 0 plain, .activate plain, .confirm plain, .reject plain,
   .keySlotWrite 0, .attestationChallenge 0, .transitionRequest 0, .returnAuthorisation 0, .measureRequest plain,
   .switchoverTestRequest plain, .extest 0, .samplePreload 0, .extestPulse 0, .extestTrain 0, .flashSetOffset 0,
   .flashWriteWord 0, .flashEraseSector 0, .safetyIoSample 0 0 0 0, .canReceiveError 0 0 false]
  (fun i => wellFormed i) = true := by decide +kernel

/-- A header with one field that its octets cannot hold (Table 03-9). -/
theorem test_wf_refuses_header_field : List.all
  [.close { plain with version := 2 ^ 8 }, .close { plain with session := 2 ^ 16 }, .close { plain with seq := 2 ^ 32 },
   .close { plain with flags := 2 ^ 8 }, .close { plain with len := 2 ^ 16 }, .close { plain with rsvd := 2 ^ 16 },
   .close { plain with tag := zeros 15 }, .close { plain with src := ⟨6, 0, 0⟩ }, .close { plain with src := ⟨0, 2 ^ 128, 0⟩ },
   .close { plain with src := ⟨0, 0, 2 ^ 16⟩ }]
  (fun i => !wellFormed i) = true := by decide +kernel

/-- Every row that carries a header checks it. -/
theorem test_wf_refuses_header : List.all
  [.openSession otherHdr 0 (zeros 15) (zeros 16), .close otherHdr, .read otherHdr 0 0, .write otherHdr 0 0 [],
   .segReadInit otherHdr 0 0, .segRead otherHdr 0, .segWriteInit otherHdr 0 0 0, .segWrite otherHdr 0 [], .segAbort otherHdr,
   .start .waystation otherHdr, .stop .waystation otherHdr, .clear .waystation otherHdr, .store otherHdr,
   .restoreDefaults otherHdr, .mainResetRequest otherHdr, .deviceResetRequest otherHdr, .powerModeRun otherHdr,
   .powerModeDoze otherHdr, .powerModeComputeOff otherHdr, .powerModeMainOff otherHdr, .unfoldRequest 0 otherHdr,
   .snapshot 0 0 0 otherHdr, .outputReset 0 0 0 otherHdr, .mode 0 0 0 otherHdr, .barrierRequest 0 0 otherHdr,
   .regulatorStep 0 0 otherHdr, .incrementWrite 0 otherHdr, .eventRaise 0 otherHdr, .eventClear 0 otherHdr,
   .waystationStatusClear 0 otherHdr, .debugEnableWrite 0 otherHdr, .lawSelectRequest 0 0 otherHdr, .tuneRequest 0 0 otherHdr,
   .traceTriggerNow otherHdr, .moveJoint move0 otherHdr, .moveLinear move0 otherHdr, .coopMove move0 otherHdr,
   .hold move0 otherHdr, .resume move0 otherHdr, .cancel move0 otherHdr, .groupEngage 0 0 otherHdr,
   .hostStopRequest 0 0 otherHdr, .armAcknowledge 0 otherHdr, .brakeTestRequest 0 otherHdr, .safetyConfirm 0 otherHdr,
   .discardPending otherHdr, .moveAbs 0 0 otherHdr, .moveRel 0 0 otherHdr, .jogPos 0 otherHdr, .jogNeg 0 otherHdr,
   .axisStop 0 otherHdr, .home 0 otherHdr, .halt 0 otherHdr, .dutyWrite 0 0 0 otherHdr, .transmitRequest 0 0 otherHdr,
   .recoveryRequest 0 otherHdr, .fabricStatusClear 0 otherHdr, .activate otherHdr, .confirm otherHdr, .reject otherHdr,
   .measureRequest otherHdr, .switchoverTestRequest otherHdr]
  (fun i => !wellFormed i) = true := by decide +kernel

/-- A motion record with one field that Table 03-23 cannot hold. -/
theorem test_wf_refuses_motion_field : List.all
  [.hold { move0 with rsvd1 := 2 ^ 8 } plain, .hold { move0 with mask := 2 ^ 16 } plain,
   .hold { move0 with ident := 2 ^ 32 } plain, .hold { move0 with target := 2 ^ 16 } plain,
   .hold { move0 with speed := 2 ^ 16 } plain, .hold { move0 with accel := 2 ^ 16 } plain,
   .hold { move0 with blend := 2 ^ 16 } plain, .hold { move0 with start := 2 ^ 64 } plain,
   .hold { move0 with after := 2 ^ 32 } plain, .hold { move0 with rsvd28 := 2 ^ 32 } plain]
  (fun i => !wellFormed i) = true := by decide +kernel

/-- A PTP message with one field out of range. -/
theorem test_wf_refuses_ptp_field : List.all
  [.ptpMessage 0 { ptp0 with kind := 16 } 0, .ptpMessage 0 { ptp0 with domain := 256 } 0,
   .ptpMessage 0 { ptp0 with src := 2 ^ 80 } 0, .ptpMessage 0 { ptp0 with seq := 2 ^ 16 } 0,
   .ptpMessage 0 { ptp0 with sec := 2 ^ 48 } 0, .ptpMessage 0 { ptp0 with ns := 2 ^ 32 } 0,
   .ptpMessage 0 { ptp0 with req := 2 ^ 80 } 0, .ptpMessage 0 { ptp0 with transport := 3 } 0]
  (fun i => !wellFormed i) = true := by decide +kernel

/-- Each other operand just outside its range. -/
theorem test_wf_refuses_operand_1 : List.all
  [.sensorReadingUpdate ⟨[], read0.volts⟩, .sensorReadingUpdate ⟨read0.temps, []⟩,
   .sensorReadingUpdate { read0 with temps := List.replicate 24 [] },
   .sensorReadingUpdate { read0 with volts := List.replicate 16 [0] }, .openSession plain (2 ^ 8) (zeros 15) (zeros 16),
   .openSession plain 0 (zeros 16) (zeros 16), .openSession plain 0 (zeros 15) (zeros 17), .read plain (2 ^ 16) 0,
   .read plain 0 (2 ^ 8), .write plain (2 ^ 16) 0 [], .write plain 0 (2 ^ 8) [], .write plain 0 0 (zeros 1029),
   .segReadInit plain (2 ^ 16) 0, .segReadInit plain 0 (2 ^ 8), .segRead plain (2 ^ 32), .segWriteInit plain (2 ^ 16) 0 0,
   .segWriteInit plain 0 (2 ^ 8) 0, .segWriteInit plain 0 0 (2 ^ 32), .segWrite plain (2 ^ 32) [],
   .segWrite plain 0 (zeros 1025), .domainContentCheckDone (2 ^ 16), .sessionConfirmTimeout (2 ^ 16),
   .sessionIdleTimeout (2 ^ 16), .segmentTimeout (2 ^ 16), .start (.ring 4) plain, .start (.can 4) plain,
   .start (.hostPort 2) plain, .start (.arm 12) plain, .start (.joint 96) plain, .start (.axis 16) plain,
   .start (.pwm 8) plain, .start (.feedback 16) plain, .stop (.ring 4) plain, .clear (.ring 4) plain,
   .startChecksComplete (.ring 4), .startLimitExpiry (.ring 4), .stopSequenceComplete (.ring 4), .pannierReturn 0 128 [] 0,
   .nodeServiceTimeout 0 33, .nodeServiceTimeout 0 0, .snapshot 0 (2 ^ 8) 0 plain, .snapshot 0 0 (2 ^ 48) plain,
   .outputReset 0 (2 ^ 8) 0 plain, .outputReset 0 0 (2 ^ 48) plain, .mode 0 (2 ^ 8) 0 plain, .mode 0 0 (2 ^ 48) plain,
   .barrierRequest 0 (2 ^ 16) plain, .regulatorStep (2 ^ 64) 0 plain, .regulatorStep 0 (2 ^ 32) plain,
   .incrementWrite (2 ^ 64) plain, .eventRaise (2 ^ 16) plain, .eventClear (2 ^ 16) plain,
   .waystationStatusClear (2 ^ 8) plain, .debugEnableWrite (2 ^ 8) plain, .done 0 65 false, .rep 0 (2 ^ 12), .loop 0 33 1,
   .loop 0 0 1, .loop 0 1 4096, .loop 0 1 0, .bra 0 18 0, .bra 0 0 (2 ^ 13), .bsr 0 18 0, .bsr 0 0 (2 ^ 13),
   .moveImmediate 0 0x29 0 false, .moveImmediate 0 0xC 0 false, .moveImmediate 0 0 (2 ^ 24) false,
   .moveAbsolute 0 false false 0x29 0, .moveAbsolute 0 false true 0x2A 0, .moveAbsolute 0 false false 0 (2 ^ 14),
   .moveIndirect 0 false false 0x29 0 0, .moveIndirect 0 false true 0x2A 0 0, .moveIndirect 0 false false 0 (2 ^ 3) 0,
   .moveIndirect 0 false false 0 0 (2 ^ 2), .move 0 0x29 0, .move 0 0xC 0, .move 0 0 0x2A, .move 0 0 0xC, .shln 0 false 56,
   .shln 0 false 0]
  (fun i => !wellFormed i) = true := by decide +kernel

/-- Each other operand just outside its range. -/
theorem test_wf_refuses_operand_2 : List.all
  [.shrn 0 false 56, .shrn 0 false 0, .addp 0 (2 ^ 3) 0, .addp 0 0 (2 ^ 14), .post 0 (2 ^ 10) 0 0, .post 0 0 (2 ^ 2) 0,
   .post 0 0 0 (2 ^ 3), .evr 0 (2 ^ 5), .get 0 0x29 false 0 0 0, .get 0 0xC false 0 0 0, .get 0 0 false (2 ^ 3) 0 0,
   .get 0 0 false 0 (2 ^ 2) 0, .get 0 0 false 0 0 (2 ^ 12), .pub 0 0x2A false 0 0 0, .pub 0 0xC false 0 0 0,
   .pub 0 0 false (2 ^ 3) 0 0, .pub 0 0 false 0 (2 ^ 2) 0, .pub 0 0 false 0 0 (2 ^ 12), .ftap 0 false false 4 4,
   .ftap 0 false false 0 8, .ftap 0 false false 0 3, .pmov 0 (some ⟨false, 4, 0, 0⟩) none,
   .pmov 0 (some ⟨false, 0, 4, 0⟩) none, .pmov 0 (some ⟨true, 0, 0, 4⟩) none, .pmov 0 none (some ⟨false, 4, 0, 0⟩),
   .pmov 0 none (some ⟨false, 0, 4, 0⟩), .pmov 0 none (some ⟨true, 0, 0, 4⟩), .clr 0 false (some ⟨false, 4, 0, 0⟩) none,
   .clr 0 false none (some ⟨false, 4, 0, 0⟩), .cpy 0 false 5 none none, .cpy 0 false 0 (some ⟨false, 4, 0, 0⟩) none,
   .cpy 0 false 0 none (some ⟨false, 4, 0, 0⟩), .add 0 false 5 none none, .add 0 false 0 (some ⟨false, 4, 0, 0⟩) none,
   .add 0 false 0 none (some ⟨false, 4, 0, 0⟩), .sub 0 false 5 none none, .sub 0 false 0 (some ⟨false, 4, 0, 0⟩) none,
   .sub 0 false 0 none (some ⟨false, 4, 0, 0⟩), .cmp 0 false 5 none none, .cmp 0 false 0 (some ⟨false, 4, 0, 0⟩) none,
   .cmp 0 false 0 none (some ⟨false, 4, 0, 0⟩), .neg 0 false (some ⟨false, 4, 0, 0⟩) none,
   .neg 0 false none (some ⟨false, 4, 0, 0⟩), .abs 0 false (some ⟨false, 4, 0, 0⟩) none,
   .abs 0 false none (some ⟨false, 4, 0, 0⟩), .mul 0 false 8 none none, .mul 0 false 0 (some ⟨false, 4, 0, 0⟩) none,
   .mul 0 false 0 none (some ⟨false, 4, 0, 0⟩), .muln 0 false 8 none none, .muln 0 false 0 (some ⟨false, 4, 0, 0⟩) none,
   .muln 0 false 0 none (some ⟨false, 4, 0, 0⟩), .mac 0 false 8 none none, .mac 0 false 0 (some ⟨false, 4, 0, 0⟩) none,
   .mac 0 false 0 none (some ⟨false, 4, 0, 0⟩), .msu 0 false 8 none none, .msu 0 false 0 (some ⟨false, 4, 0, 0⟩) none,
   .msu 0 false 0 none (some ⟨false, 4, 0, 0⟩), .mulr 0 false 8 none none, .mulr 0 false 0 (some ⟨false, 4, 0, 0⟩) none,
   .mulr 0 false 0 none (some ⟨false, 4, 0, 0⟩), .madr 0 false 8 none none, .madr 0 false 0 (some ⟨false, 4, 0, 0⟩) none,
   .madr 0 false 0 none (some ⟨false, 4, 0, 0⟩), .rnd 0 false (some ⟨false, 4, 0, 0⟩) none,
   .rnd 0 false none (some ⟨false, 4, 0, 0⟩), .tst 0 false (some ⟨false, 4, 0, 0⟩) none,
   .tst 0 false none (some ⟨false, 4, 0, 0⟩), .asl 0 false (some ⟨false, 4, 0, 0⟩) none,
   .asl 0 false none (some ⟨false, 4, 0, 0⟩), .asr 0 false (some ⟨false, 4, 0, 0⟩) none,
   .asr 0 false none (some ⟨false, 4, 0, 0⟩), .max 0 false 5 none none, .max 0 false 0 (some ⟨false, 4, 0, 0⟩) none,
   .max 0 false 0 none (some ⟨false, 4, 0, 0⟩), .min 0 false 5 none none, .min 0 false 0 (some ⟨false, 4, 0, 0⟩) none,
   .min 0 false 0 none (some ⟨false, 4, 0, 0⟩), .and 0 false 5 none none, .and 0 false 0 (some ⟨false, 4, 0, 0⟩) none,
   .and 0 false 0 none (some ⟨false, 4, 0, 0⟩)]
  (fun i => !wellFormed i) = true := by decide +kernel

/-- Each other operand just outside its range. -/
theorem test_wf_refuses_operand_3 : List.all
  [.or 0 false 5 none none, .or 0 false 0 (some ⟨false, 4, 0, 0⟩) none, .or 0 false 0 none (some ⟨false, 4, 0, 0⟩),
   .xor 0 false 5 none none, .xor 0 false 0 (some ⟨false, 4, 0, 0⟩) none, .xor 0 false 0 none (some ⟨false, 4, 0, 0⟩),
   .sat 0 false (some ⟨false, 4, 0, 0⟩) none, .sat 0 false none (some ⟨false, 4, 0, 0⟩), .lawSelectRequest 96 0 plain,
   .lawSelectRequest 0 (2 ^ 16) plain, .tuneRequest 96 0 plain, .tuneRequest 0 (2 ^ 64) plain, .identRunEnd 96,
   .tuneFitDone 96, .moveJoint { move0 with mask := 2 ^ 16 } plain, .moveLinear { move0 with mask := 2 ^ 16 } plain,
   .coopMove { move0 with mask := 2 ^ 16 } plain, .hold { move0 with mask := 2 ^ 16 } plain,
   .resume { move0 with mask := 2 ^ 16 } plain, .cancel { move0 with mask := 2 ^ 16 } plain, .groupEngage 0 (2 ^ 8) plain,
   .pointPacket 0 false (zeros 16) 0 [] 0, .pointPacket 0 false (zeros 4) (2 ^ 16) [] 0, .hostStopRequest 0 (2 ^ 8) plain,
   .armAcknowledge (2 ^ 16) plain, .brakeTestRequest (2 ^ 32) plain, .testPulseEnd 0 false (2 ^ 32), .safeObjectWrite (2 ^ 16),
   .safetyConfirm (2 ^ 32) plain, .moveAbs 0 (2 ^ 32) plain, .moveRel 0 (2 ^ 32) plain, .switchFilterChange 0 0 false (2 ^ 32),
   .dutyWrite 0 0 (2 ^ 32) plain, .canFrameReceived 0 { frame0 with ident := 2 ^ 32 } 0,
   .canFrameReceived 0 { frame0 with dlc := 16 } 0, .canFrameReceived 0 { frame0 with data := zeros 65 } 0,
   .transmitRequest 0 (2 ^ 16) plain, .canTransmissionEnd 0 3 0 false 0, .canTransmissionEnd 0 0 8 false 0,
   .arpRequest 0 (zeros 7) (zeros 4) (zeros 4) 0, .arpRequest 0 (zeros 6) (zeros 5) (zeros 4) 0,
   .arpRequest 0 (zeros 6) (zeros 4) (zeros 5) 0, .neighbourSolicitation 0 (zeros 17) (zeros 16) 0,
   .neighbourSolicitation 0 (zeros 16) (zeros 17) 0, .echoRequest 0 false (zeros 16) (zeros 4) [] 0,
   .echoRequest 0 false (zeros 4) (zeros 16) [] 0, .ptpMessage 0 { ptp0 with kind := 16 } 0, .bazaarAccess 0 false 0 0 [],
   .bazaarAccess 0 false 0 0 [{ access0 with req := 17 }], .bazaarAccess 0 false 0 0 [{ access0 with words := [] }],
   .bazaarAccess 0 false 0 0 [{ access0 with ecc := 3 }], .lockRequest 0 0x60000 0, .lockGrant 0x60000 0,
   .fabricStatusClear (2 ^ 8) plain, .keySlotWrite (2 ^ 16), .attestationChallenge (2 ^ 16), .transitionRequest (2 ^ 16),
   .returnAuthorisation (2 ^ 16), .extest (2 ^ 1048), .samplePreload (2 ^ 1048), .extestPulse (2 ^ 1048),
   .extestTrain (2 ^ 1048), .flashSetOffset (2 ^ 24), .flashWriteWord (2 ^ 32), .flashEraseSector (2 ^ 24),
   .safetyIoSample (2 ^ 32) 0 0 0, .safetyIoSample 0 (2 ^ 8) 0 0, .safetyIoSample 0 0 (2 ^ 8) 0, .safetyIoSample 0 0 0 (2 ^ 8),
   .canReceiveError 0 8 false]
  (fun i => !wellFormed i) = true := by decide +kernel

/-! ### Worked examples and tables of the spec -/

/-- spec/00_scope.md, the example under R2: instance blocks. -/
theorem test_instance_blocks :
    [(Fn.joint 37).base, (Fn.arm 5).base, (Fn.ring 2).base, (Fn.axis 11).base] = [0x64A0, 0x5140, 0x3400, 0x72C0] := by decide

/-- spec/03_object_dictionary.md, the example of a READ of 0x1009:00: the request's header. -/
theorem test_read_header : message 1 0x20 0x0003 0x11 0x1009 0 0 0 0 [] =
    [0x01#8, 0x20#8, 0x03#8, 0x00#8, 0x11#8, 0x00#8, 0x00#8, 0x00#8, 0x09#8, 0x10#8, 0#8, 0#8, 0#8, 0#8, 0#8, 0#8] := by decide

/-- The same example: the value read is "B0". -/
theorem test_stepping : State.reset.obj 0x1009 0 = [0x42#8, 0x30#8] := by decide +kernel

/-- spec/04_isadal_ring_protocol.md, the example under R177: the check string "123456789". -/
theorem test_crc32 : withCrc [0x31#8, 0x32#8, 0x33#8, 0x34#8, 0x35#8, 0x36#8, 0x37#8, 0x38#8, 0x39#8] =
    [0x31#8, 0x32#8, 0x33#8, 0x34#8, 0x35#8, 0x36#8, 0x37#8, 0x38#8, 0x39#8, 0x26#8, 0x39#8, 0xF4#8, 0xCB#8] := by decide +kernel

/-- The same file, the example of RING1: the header of node 5's pannier. -/
theorem test_pannier_header : (pannierOctets 5 0 64 0x80 16 (zeros 16)).take 8 =
    [0x05#8, 0x00#8, 0x08#8, 0x00#8, 0x80#8, 0x00#8, 0x00#8, 0x10#8] := by decide +kernel

/-- spec/10_planning_solver.md, the example under R460: 28 cycles of 15 624 ns and 4 of 15 632 ns. -/
theorem test_cycle_starts : cycleStart 15625 32 = 500000 ∧
    ((List.range 32).map fun c => cycleStart 15625 (c + 1) - cycleStart 15625 c).count 15624 = 28 := by decide +kernel

/-- The same example: J3's reference at u = 0.5 (velocities are held in 2⁻¹⁷ count). -/
theorem test_reference : (Segment.mk 0 [1200000 * 65536] [4000 * 65536] [] [1202100 * 65536] [4400 * 65536] [] false).r 0 (1 / 2) =
    0x125381 := by decide +kernel

/-- The range record of the pivot example: D exponent 12, reciprocal exponent 7, PIV_MIN 2⁻⁸, DELTA 0x2000. -/
def pivots : RangeRec :=
  ⟨1, 1, 8, 0, [0, 0, 0, 0, 0, 0, 0, 0, 0, 12, 7, 0, 0, 0, 0], [0, 0, 0, 0, 0, 0x800, 0x2000, 0, 0, 0, 0, 0, 0]⟩

/-- spec/10_planning_solver.md Table 10-14: 1/pivot is 64, 42.666…, 42.666… and 8 with the exponent 7. -/
theorem test_pivots : [0, -0x1000, 0x1000, 0x10000].map (pivot pivots) =
    [(0x2000, 2 ^ 30, true, false), (0x3000, 715827883, true, false), (0x3000, 715827883, true, false),
     (0x10000, 2 ^ 27, false, false)] := by decide +kernel

/-- spec/11_perception_separation.md Table 11-17: index and brick of voxel (260, 150, 70). -/
theorem test_voxel : voxelIndex 260 150 70 = 23033860 ∧ brickOf 23033860 = 42432 := by decide

/-- The same table: ⌊ℓ⌋ from the voxel centre to the forearm capsule, and from the centre of brick (10, 5, 4). -/
theorem test_separation : segDistance [521000, 301000, 141000] [400000, 300000, 150000] [460000, 300000, 150000] = 61668 ∧
    segDistance [168000, 88000, 72000] [400000, 300000, 150000] [460000, 300000, 150000] = 323808 := by decide +kernel

/-- spec/12_safety_functions.md Table 12-7: channel A's gap to the brick's box, channel B's distance to its centre. -/
theorem test_ssm_distances :
    segBox2 [400000, 300000, 150000] [460000, 300000, 150000] [640000, 288000, 128000] [672000, 320000, 160000] = 180000 * 180000 ∧
    floorSqrt (segPoint2 [400000, 300000, 150000] [460000, 300000, 150000] [656000, 304000, 144000]) = 196132 := by decide +kernel

/-- The arm record of that example: T_S 500, T_R 100, C 200, Z_d 100, Z_r 20, v_h 1600. -/
def armA0 : Octets := zeros 12 ++ toLE 2 500 ++ toLE 2 100 ++ toLE 2 200 ++ toLE 2 100 ++ toLE 2 20 ++ zeros 2 ++ toLE 2 1600 ++ zeros 38

/-- The same table: S_p at 1 000 mm/s and at 250 mm/s. -/
theorem test_protective : protective armA0 1000 = 163000 ∧ protective armA0 250 = 136750 := by decide +kernel

/-- spec/17_memory_fabric.md, the example under R709: the draw is 27 and the solver array (11) wins. -/
theorem test_lottery : (37346 * 48) >>> 16 = 27 ∧ State.reset.tickets 8 = 8 ∧
    (State.reset.classWinner ⟨[], 0⟩ 37346 [8, 11, 16]) = some 11 := by decide +kernel

/-- NIST's value of SHAKE256 of the empty string, its first octets (FIPS 202). -/
theorem test_shake256 : Keccak.shake256 [] 8 = [0x46#8, 0xB9#8, 0xDD#8, 0x2B#8, 0x0B#8, 0xA8#8, 0x8D#8, 0x13#8] := by decide +kernel

/-! ### Instructions of the worked law (spec/08_loop_engine.md, Tables 08-10 and 08-15) -/

/-- Engine 0's registers after a command. -/
def regsAfter (i : Instr) (s : State) : Option RegBank :=
  match exec i s with
  | .next t => (t.engine 0).normal.map (·.regs)
  | _ => none

/-- 0x215: MUL X1*Y0,B with e and Kp leaves 0x80, so that v_cmd is 0x80 + v_ff. -/
theorem test_law_mul : (regsAfter (.mul 0 true 2 none none) (engine [0x91400000] { bank with x1 := 0x100#24, y0 := 0x400000#24 })).map
    (fun r => accHigh r.b) = some 0x80 := by decide +kernel

/-- 0x217: ADD X0,B gives v_cmd. -/
theorem test_law_add : (regsAfter (.add 0 true 0 none none) (engine [0x87000000] { bank with x0 := 0x100#24, b := 0x80000000#56 })).map
    (fun r => accHigh r.b) = some 0x180 := by decide +kernel

/-- 0x218: SUB A,B gives ev from v_cmd and v. -/
theorem test_law_sub : (regsAfter (.sub 0 true 4 none none)
    (engine [0x89800000] { bank with a := 0x80000000#56, b := 0x180000000#56 })).map (fun r => accHigh r.b) = some 0x100 := by
  decide +kernel

/-- 0x21C: MAC X1*Y0,A gives I + Ki·ev. -/
theorem test_law_mac : (regsAfter (.mac 0 false 2 none none)
    (engine [0x94400000] { bank with x1 := 0x100#24, y0 := 0x200000#24, a := 0x0C0000000000#56 })).map (fun r => accHigh r.a) =
    some 0x0C0040 := by decide +kernel

/-- 0x21E: MAX Y0,A against Imin 0xF00000 leaves I′. -/
theorem test_law_max : (regsAfter (.max 0 false 2 none none)
    (engine [0xA4400000] { bank with y0 := 0xF00000#24, a := 0x0C0040000000#56 })).map (fun r => accHigh r.a) = some 0x0C0040 := by
  decide +kernel

end Sys2Proof.Tests
end

section
/-! SUPPORT. Elements of lists and records of functions after a change. -/

namespace Sys2Proof.Machine

theorem nth_upd_same {α : Type} {l : List α} {i : Nat} (f : α → α) (d : α) (h : i < l.length) :
    nth (upd l i f) i d = f (nth l i d) := by
  simp [nth, upd, List.getD_eq_getElem?_getD, h]

theorem nth_upd_ne {α : Type} (l : List α) {i j : Nat} (f : α → α) (d : α) (h : i ≠ j) :
    nth (upd l i f) j d = nth l j d := by
  simp [nth, upd, List.getD_eq_getElem?_getD, h]

@[simp] theorem length_upd {α : Type} (l : List α) (i : Nat) (f : α → α) : (upd l i f).length = l.length := by
  simp [upd]

theorem Fn.slot_lt {f : Fn} (h : f.exists = true) : f.slot < Fn.count := by
  cases f <;> simp [Fn.exists, Fn.slot, Fn.count] at h ⊢ <;> omega

theorem Fn.slot_ne_safety {f : Fn} (h : f ≠ .safety) : Fn.safety.slot ≠ f.slot := by
  cases f <;> simp [Fn.slot] at h ⊢ <;> omega

theorem fn_setFnRec_same (s : State) {f : Fn} (r : FnRec) (h : f.slot < s.fns.length) : (s.setFnRec f r).fn f = r :=
  nth_upd_same _ _ h

theorem fn_setFnRec_ne (s : State) {f g : Fn} (r : FnRec) (h : g.slot ≠ f.slot) : (s.setFnRec g r).fn f = s.fn f :=
  nth_upd_ne _ _ _ h

end Sys2Proof.Machine
end

section
/-! PROOFS. A fault of the safety function: its entry into FAULT, the outputs it switches off, the end of acting
(spec/01_architecture.md R34; spec/12_safety_functions.md R502 to R506, R533; spec/19_standby_pairing.md R782, R783; O47). -/

namespace Sys2Proof.Machine

/-! ### No RWS object belongs to the safety function -/


/-- The card is no RWS card of the safety function. -/
def Card.sparesSafety (c : Card) : Prop := c.acc = .rws → c.owner ≠ some .safety

/-- What stands at an index is no RWS object of the safety function. -/
def Lookup.sparesSafety : Lookup → Prop
  | .found c => c.sparesSafety
  | _ => True

@[simp] theorem Lookup.sparesSafety_found (c : Card) : (Lookup.found c).sparesSafety ↔ c.sparesSafety := Iff.rfl
@[simp] theorem Lookup.sparesSafety_noIndex : Lookup.noIndex.sparesSafety := trivial
@[simp] theorem Lookup.sparesSafety_ite {p : Prop} [Decidable p] {a b : Lookup} :
    (if p then a else b).sparesSafety ↔ (p → a.sparesSafety) ∧ (¬p → b.sparesSafety) := by
  split <;> simp [*]
@[simp] theorem Lookup.sparesSafety_only (sub : Nat) (c : Card) : (only sub c).sparesSafety ↔ (sub = 0 → c.sparesSafety) := by
  unfold only
  split <;> simp [*, Lookup.sparesSafety]
@[simp] theorem Lookup.sparesSafety_subsOf (sub lo hi : Nat) (c : Nat → Card) :
    (subsOf sub lo hi c).sparesSafety ↔ (lo ≤ sub ∧ sub ≤ hi → (c sub).sparesSafety) := by
  unfold subsOf
  split <;> simp [*, Lookup.sparesSafety]
@[simp] theorem Card.sparesSafety_ite {p : Prop} [Decidable p] {a b : Card} :
    (if p then a else b).sparesSafety ↔ (p → a.sparesSafety) ∧ (¬p → b.sparesSafety) := by
  split <;> simp [*]
@[simp] theorem Card.sparesSafety_mk (a : Access) (ty : ObjType) (o : Option Fn) (n : Nat) (d : Nat → Byte) (ok : Nat → Bool) :
    (Card.mk a ty o n d ok).sparesSafety ↔ (a = .rws → o ≠ some .safety) := Iff.rfl
@[simp] theorem sparesSafety_numCard (a : Access) (n : Nat) (o : Option Fn) (d : Nat) (ok : Nat → Bool) :
    (numCard a n o d ok).sparesSafety ↔ (a = .rws → o ≠ some .safety) := Iff.rfl
@[simp] theorem sparesSafety_boolCard (a : Access) (o : Option Fn) :
    (boolCard a o).sparesSafety ↔ (a = .rws → o ≠ some .safety) := Iff.rfl
@[simp] theorem sparesSafety_timeCard (a : Access) (o : Option Fn) :
    (timeCard a o).sparesSafety ↔ (a = .rws → o ≠ some .safety) := Iff.rfl
@[simp] theorem sparesSafety_strCard (o : Octets) : (strCard o).sparesSafety := fun h => nomatch h

/-- No RWS object belongs to the safety function: its configuration has access code SAFE (Table 03-2). -/
theorem lookup_sparesSafety (idx sub : Nat) : (lookup idx sub).sparesSafety := by
  unfold lookup
  split
  · simp [controlCard]
  · simp [cardDevice, cardWaystation, cardPlanner, cardPerception, cardRing, cardCan, cardHostPort, cardTimeBase, cardArm, cardJoint,
      cardAxis, cardPwm, cardFeedback, cardSafety, domCard, domUpTo]

theorem cardAt_sparesSafety {idx sub : Nat} {c : Card} (h : cardAt idx sub = some c) : c.sparesSafety := by
  have g := lookup_sparesSafety idx sub
  unfold cardAt at h
  split at h
  case h_1 eq => rw [eq, Lookup.sparesSafety_found] at g; exact (Option.some.inj h) ▸ g
  case h_2 => cases h

/-- No open transfer writes an RWS object of the safety function, so none is marked when it leaves STOPPED (R133). -/
theorem markLeft_safety (s : State) : s.markLeft .safety = s := by
  unfold State.markLeft State.onDict
  dsimp only
  rw [List.map_congr_left (g := id)]
  · simp
  · intro x _
    rcases hx : x.xfer with _ | t
    · simp only [Option.map_none, id_eq]; rw [← hx]
    · have spared : ∀ c, cardAt t.idx t.sub = some c → (c.acc == .rws && c.owner == some .safety) = false := by
        intro c hc
        have := cardAt_sparesSafety hc
        simpa [Card.sparesSafety] using this
      simp only [Option.map_some, id_eq]
      split
      next c hc => simp only [spared c hc, Bool.and_false, Bool.false_eq_true, if_false, ← hx]
      next => simp only [Bool.and_false, Bool.false_eq_true, if_false, ← hx]

/-! ### Nothing depends on the safety function -/

/-- No function has the safety function as a prerequisite (Table 03-4). -/
theorem dependents_safety (s : State) : s.dependents .safety = [] := by
  unfold State.dependents
  rw [List.filter_eq_nil_iff]
  intro g _
  cases g <;> simp [State.prereqs]
  all_goals split <;> simp

/-! ### The outputs go off -/

/-- A channel's outputs switch inside the safety function alone. -/
theorem setSo_eq (s : State) (b : Bool) (v : BitVec 8) : s.setSo b v = { s with saf := (s.setSo b v).saf } := rfl

@[simp] theorem setSo_false_off (s : State) : (s.setSo false 0#8).saf.soA = 0#8 := by simp [State.setSo]
@[simp] theorem setSo_false_soB (s : State) (v : BitVec 8) : (s.setSo false v).saf.soB = s.saf.soB := rfl
@[simp] theorem setSo_true_off (s : State) : (s.setSo true 0#8).saf.soB = 0#8 := by simp [State.setSo]
@[simp] theorem setSo_true_soA (s : State) (v : BitVec 8) : (s.setSo true v).saf.soA = s.saf.soA := rfl

theorem soOff_allOff (s : State) : s.soOff.allOff := by simp [State.allOff, State.soOff]

/-- What the end of acting and the update of ARMED leave: function states, pending events, and every output that is off. -/
structure Disarmed (s t : State) : Prop where
  fns : t.fns = s.fns
  saf : t.saf = { s.saf with soA := t.saf.soA, soB := t.saf.soB, io := t.saf.io }
  off : s.allOff → t.allOff
  raised : ∀ e, s.raised e → t.raised e
  passive : s.pair.acting = false → t.pair.acting = false ∧ t.pair.actvO = s.pair.actvO

theorem Disarmed.refl (s : State) : Disarmed s s := ⟨rfl, rfl, id, fun _ => id, fun h => ⟨h, rfl⟩⟩

theorem Quiet.saf {s t : State} (h : Quiet s t) : t.saf = s.saf := by
  unfold Quiet at h
  rw [h]
theorem Quiet.pair {s t : State} (h : Quiet s t) : t.pair = s.pair := by
  unfold Quiet at h
  rw [h]

/-- Events raised after a change of ARMED. -/
theorem disarmed_armed_raise (s : State) (b : Bool) (ev : Nat) :
    Disarmed s ((s.onPair fun p => { p with armed := b }).raise ev) := by
  have q := quiet_raise (s.onPair fun p => { p with armed := b }) ev
  refine ⟨q.fns, ?_, fun h => ?_, fun e h => raised_mono _ _ h, fun h => ?_⟩
  · rw [q.saf]; rfl
  · unfold State.allOff; rw [q.saf]; exact h
  · rw [q.pair]; exact ⟨h, rfl⟩

theorem disarmed_updateArmed (s : State) : Disarmed s s.updateArmed := by
  unfold State.updateArmed
  split
  · exact .refl s
  · split
    · split
      · exact .refl s
      · exact disarmed_armed_raise s false 419
    · split
      · exact disarmed_armed_raise s true 418
      · exact .refl s

theorem Disarmed.trans {s t u : State} (h : Disarmed s t) (g : Disarmed t u) : Disarmed s u where
  fns := g.fns.trans h.fns
  saf := by rw [g.saf, h.saf]
  off := g.off ∘ h.off
  raised e := g.raised e ∘ h.raised e
  passive a := ⟨(g.passive (h.passive a).1).1, (g.passive (h.passive a).1).2.trans (h.passive a).2⟩

/-- An acting unit made passive, its rings tracking, before EV417 (R782, R783). -/
def State.madePassive (s : State) : State :=
  { s.soOff with
    rings := s.rings.map Ring.track
    pair := { s.pair with
      acting := false, actvO := false, releasePending := false, takeoverDue := false, takeover := none, testPending := false } }

theorem release_of_acting {s : State} (h : s.pair.acting = true) : s.release = s.madePassive.raise 417 := by
  unfold State.release
  rw [if_pos h]
  rfl

theorem release_of_passive {s : State} (h : s.pair.acting = false) : s.release = s := by
  unfold State.release
  rw [h]
  rfl

/-- The end of acting switches every output off and lowers ACTV_O (R782). -/
theorem disarmed_release (s : State) : Disarmed s s.release ∧ s.release.pair.acting = false ∧
    (s.pair.acting = true → s.release.pair.actvO = false) := by
  cases on : s.pair.acting
  case false => rw [release_of_passive on]; exact ⟨.refl s, on, nofun⟩
  case true =>
    have q := quiet_raise s.madePassive 417
    rw [release_of_acting on]
    refine ⟨⟨q.fns, ?_, fun _ => ?_, fun e h => raised_mono _ _ h, fun off => ?_⟩, ?_, fun _ => ?_⟩
    · rw [q.saf]; rfl
    · unfold State.allOff; rw [q.saf]; exact soOff_allOff s
    · rw [off] at on; cases on
    · rw [q.pair]; rfl
    · rw [q.pair]; rfl

/-! ### The safety function's entry into FAULT -/

theorem faultList_nil (n : Nat) (s : State) : State.faultList n [] s = s := by cases n <;> rfl

/-- The safety function enters FAULT alone: nothing depends on it (R104, R812). -/
theorem fault_safety (s : State) (code : Nat) (h : s.fnSt .safety ≠ .fault) :
    s.fault .safety code = (s.setFnRec .safety ⟨.fault, code⟩).react .safety code := by
  show State.faultList (29999 + 1) [(.safety, code)] s = _
  rw [State.faultList, if_neg h, dependents_safety, State.faultOne, if_neg h, markLeft_safety, ite_self]
  exact faultList_nil _ _

theorem fault_safety_again (s : State) (code : Nat) (h : s.fnSt .safety = .fault) : s.fault .safety code = s := by
  show State.faultList (29999 + 1) [(.safety, code)] s = _
  rw [State.faultList, if_pos h, faultList_nil]

/-- The codes whose fault ends acting (R782). -/
def endsActing (code : Nat) : Prop := code = 0x0101 ∨ code = 0x0102 ∨ code = 0x0105

/-- The safety function as its reaction to its own fault finds it: in FAULT, outputs off, no brake test, EV443 raised (R34, R502). -/
def State.safetyOff (s : State) (code : Nat) : State :=
  ((s.setFnRec .safety ⟨.fault, code⟩).soOff.onSaf fun f => { f with brake := none }).raise 443

theorem quiet_safetyOff (s : State) (code : Nat) :
    Quiet ((s.setFnRec .safety ⟨.fault, code⟩).soOff.onSaf fun f => { f with brake := none }) (s.safetyOff code) :=
  quiet_raise _ _

theorem react_safety_ends {s : State} {code : Nat} (h : endsActing code) :
    (s.setFnRec .safety ⟨.fault, code⟩).react .safety code = (s.safetyOff code).release.updateArmed :=
  congrArg State.updateArmed (if_pos h)

theorem react_safety_keeps {s : State} {code : Nat} (h : ¬endsActing code) :
    (s.setFnRec .safety ⟨.fault, code⟩).react .safety code = (s.safetyOff code).updateArmed :=
  congrArg State.updateArmed (if_neg h)

/-- Past EV443 the fault does no more than `Disarmed` says. -/
theorem disarmed_fault_safety {s : State} (code : Nat) (h : s.fnSt .safety ≠ .fault) :
    Disarmed (s.safetyOff code) (s.fault .safety code) := by
  rw [fault_safety s code h]
  by_cases e : endsActing code
  · rw [react_safety_ends e]; exact (disarmed_release _).1.trans (disarmed_updateArmed _)
  · rw [react_safety_keeps e]; exact disarmed_updateArmed _

/-- A code that ends acting leaves the unit passive with ACTV_O low (R782). -/
theorem fault_safety_passive {s : State} {code : Nat} (h : s.fnSt .safety ≠ .fault) (e : endsActing code) :
    (s.fault .safety code).pair.acting = false ∧ (s.pair.acting = true → (s.fault .safety code).pair.actvO = false) := by
  obtain ⟨-, passive, low⟩ := disarmed_release (s.safetyOff code)
  have armed := (disarmed_updateArmed (s.safetyOff code).release).passive passive
  rw [fault_safety s code h, react_safety_ends e, armed.2]
  exact ⟨armed.1, fun on => low ((quiet_safetyOff s code).pair ▸ on)⟩

/-- The update of ARMED changes ARMED alone, outside what events touch. -/
theorem core_updateArmed (s : State) :
    s.updateArmed.core = ({ s with pair := { s.pair with armed := s.updateArmed.pair.armed } } : State).core := by
  have armed (b : Bool) (ev : Nat) : ((s.onPair fun p => { p with armed := b }).raise ev).core =
      ({ s with pair := { s.pair with armed := ((s.onPair fun p => { p with armed := b }).raise ev).pair.armed } } : State).core := by
    rw [State.core_raise, (quiet_raise _ ev).pair]
    rfl
  unfold State.updateArmed
  split
  · rfl
  · split
    · split
      · rfl
      · exact armed false 419
    · split
      · exact armed true 418
      · rfl

/-- What the channels have found of themselves: own faults, lost cross lines (R503 to R505). -/
def Safety.marks (f : Safety) : Bool × Bool × Bool × Bool := (f.faultA, f.faultB, f.lostXA, f.lostXB)

/-- What a fault of the safety function with a code makes of the machine (R34, R502 to R505, R533, R782, R812). -/
structure SafetyFaulted (code : Nat) (s t : State) : Prop where
  fault : t.fn .safety = ⟨.fault, code⟩
  off : t.allOff
  event : t.raised 443
  others : ∀ f : Fn, f.exists = true → f ≠ .safety → t.fn f = s.fn f
  brake : t.saf.brake = none
  marks : t.saf.marks = s.saf.marks
  passive : endsActing code → t.pair.acting = false ∧ (s.pair.acting = true → t.pair.actvO = false)
  frame : ¬endsActing code →
    t.core = ({ s with saf := t.saf, fns := t.fns, pair := { s.pair with armed := t.pair.armed } } : State).core

theorem safetyFaulted_fault {s : State} (code : Nat) (len : s.fns.length = Fn.count) (h : s.fnSt .safety ≠ .fault) :
    SafetyFaulted code s (s.fault .safety code) := by
  have d := disarmed_fault_safety code h
  have q := quiet_safetyOff s code
  have fns : (s.fault .safety code).fns = (s.setFnRec .safety ⟨.fault, code⟩).fns := d.fns.trans q.fns
  have fn (f : Fn) : (s.fault .safety code).fn f = (s.setFnRec .safety ⟨.fault, code⟩).fn f := by
    unfold State.fn; rw [fns]
  constructor
  case fault => rw [fn]; exact fn_setFnRec_same s _ (len ▸ Fn.slot_lt rfl)
  case off => exact d.off (by unfold State.allOff; rw [q.saf]; exact soOff_allOff _)
  case event => exact d.raised 443 (raised_raise _ (by decide))
  case others => intro f _ ne; rw [fn]; exact fn_setFnRec_ne s _ (Fn.slot_ne_safety ne)
  case brake => rw [d.saf]; exact congrArg Safety.brake q.saf
  case marks =>
    calc (s.fault .safety code).saf.marks
      _ = (s.safetyOff code).saf.marks := by rw [d.saf]; rfl
      _ = s.saf.marks := by rw [q.saf]; rfl
  case passive => exact fault_safety_passive h
  case frame =>
    intro e
    have eq : s.fault .safety code = (s.safetyOff code).updateArmed := (fault_safety s code h).trans (react_safety_keeps e)
    have c := core_updateArmed (s.safetyOff code)
    rw [← eq] at c
    have saf : (s.fault .safety code).saf = _ := (congrArg State.saf c).trans q.saf
    have off := congrArg (fun u : State =>
      ({ u with pair := { s.pair with armed := (s.fault .safety code).pair.armed } } : State)) q.core
    rw [c, q.pair, fns, saf]
    exact off

/-! ### The commands -/

theorem setSo_false_off_eq (s : State) :
    s.setSo false 0#8 = { s with saf := { s.saf with soA := 0#8, io := (s.setSo false 0#8).saf.io } } := by
  unfold State.setSo
  cases s.power.testMode <;> rfl

theorem exec_xaEdgeTimeout {s : State} (h : s.power.compReset = false) :
    exec .xaEdgeTimeout s = .next (({ s with saf := { (s.setSo false 0#8).saf with lostXA := true } } : State).fault .safety 0x0105) :=
  if_neg (by simp [h])

theorem exec_xbEdgeTimeout {s : State} (h : s.power.pllLocked = true) :
    exec .xbEdgeTimeout s = .next (({ s with saf := { (s.setSo false 0#8).saf with lostXB := true } } : State).fault .safety 0x0105) :=
  if_neg (by simp [h])

theorem exec_safetyMarker_out {s : State} {d : Nat} (h : s.power.compReset = false) (hd : d < 495000 ∨ 505000 < d) :
    exec (.safetyMarker d) s = .next (s.fault .safety 0x0106) :=
  if_neg (by simp only [inRange, h, Bool.or_false, Bool.and_eq_true, decide_eq_true_eq]; omega)

theorem exec_safetyMarker_in {s : State} {d : Nat} (lo : 495000 ≤ d) (hi : d ≤ 505000) : exec (.safetyMarker d) s = .next s :=
  if_pos (by simp [inRange, lo, hi])

/-- Settles O47, by the one lemma on the safety function's entry into FAULT, for each of its causes. -/
theorem channelFaultsSwitchEveryOutputOff : Obligations.ChannelFaultsSwitchEveryOutputOff := by
  unfold Obligations.ChannelFaultsSwitchEveryOutputOff
  intro s shaped faulted
  -- a fault that ends acting, from `s` but for the safety function's own state
  have meets (code : Nat) (f : Safety) (h : s.fnSt .safety ≠ .fault) (ends : code ∈ [0x0101, 0x0102, 0x0105]) :
      faulted code (({ s with saf := f } : State).fault .safety code) ∧
        (({ s with saf := f } : State).fault .safety code).saf.marks = f.marks := by
    have g := safetyFaulted_fault (s := { s with saf := f }) code shaped.fns h
    have e : endsActing code := by simpa [endsActing] using ends
    exact ⟨⟨g.fault, g.off, g.event, g.others, g.brake, fun _ => g.passive e, fun n => absurd ends n⟩, g.marks⟩
  -- a fault that leaves the function in FAULT as it is
  have again (f : Safety) (h : s.fnSt .safety = .fault) (off : f.soA = 0#8) :
      (({ s with saf := f } : State).fault .safety 0x0105).saf.soA = 0#8 ∧
        (({ s with saf := f } : State).fault .safety 0x0105).fns = s.fns := by
    rw [fault_safety_again { s with saf := f } _ h]
    exact ⟨off, rfl⟩
  refine ⟨fun h up => ⟨fun d hd => ⟨_, exec_safetyMarker_out up hd, ?_⟩, ⟨_, exec_xaEdgeTimeout up, ?_⟩⟩,
    fun h locked => ⟨_, exec_xbEdgeTimeout locked, ?_⟩, fun h => ⟨⟨_, rfl, ?_⟩, ⟨_, rfl, ?_⟩⟩,
    fun h up => ⟨_, exec_xaEdgeTimeout up, again _ h (setSo_false_off s)⟩,
    fun h locked => ⟨_, exec_xbEdgeTimeout locked, again _ h (setSo_false_off s)⟩,
    ⟨_, rfl, setSo_false_off s, rfl, setSo_false_off_eq s⟩, fun d lo hi => exec_safetyMarker_in lo hi⟩
  · have g := safetyFaulted_fault 0x0106 shaped.fns h
    exact ⟨g.fault, g.off, g.event, g.others, g.brake, fun m => absurd m (by decide),
      fun _ => g.frame (by unfold endsActing; decide)⟩
  · exact (meets 0x0105 _ h (by decide)).imp_right fun m => congrArg (·.2.2.1) m
  · exact (meets 0x0105 _ h (by decide)).imp_right fun m => congrArg (·.2.2.2) m
  · exact (meets 0x0101 { s.saf with faultA := true } h (by decide)).imp_right fun m => congrArg (·.1) m
  · exact (meets 0x0102 { s.saf with faultB := true } h (by decide)).imp_right fun m => congrArg (·.2.1) m

end Sys2Proof.Machine
end

section
/-! PROOFS. The end of a write-back over a Bazaar that is not canonical (spec/08_loop_engine.md R351 to R353; O36). -/

namespace Sys2Proof.Machine

/-- A write-back of one context word, 0, for flow 0. -/
def zeroWriteBack : WriteBack :=
  { urgent := false, flow := 0, ctxLen := 1, ctx := List.replicate 64 0, origin := 0, groups := [] }

/-- A Bazaar whose words stand out of order: a higher word is listed before word 0x10000, the first of flow 0's context block. -/
def outOfOrder : State :=
  { State.reset with
    le := { LoopEngines.initial with
      engines := upd LoopEngines.initial.engines 0 fun e => { e with wbs := [zeroWriteBack] } }
    fab := { Fabric.initial with mem := [(0x20000, 1), (0x10000, 5)] } }

theorem outOfOrder_shaped : outOfOrder.Shaped := by
  constructor <;> decide +kernel

theorem outOfOrder_writeBackEnd : (outOfOrder.writeBackEnd 0).ctxWord 0 0 = 5 := by decide +kernel

/-- Refutes O36: its clause on WRITE_BACK_END assumes no canonical memory (`Memory.wordsWf`), and a word 0 of the
context deletes only the first place of a list whose words stand in order. In `outOfOrder` the word of flow 0's
context block that the write-back sets to 0 still reads 5 after it. -/
theorem not_itemsEndAndAreWrittenBack : ¬ Obligations.ItemsEndAndAreWrittenBack := by
  unfold Obligations.ItemsEndAndAreWrittenBack
  rintro ⟨-, -, writeBack, -⟩
  obtain ⟨t, ht, -, -, -, hword, -⟩ := writeBack outOfOrder 0 zeroWriteBack [] outOfOrder_shaped (by decide +kernel) (by decide)
    (by decide) (by decide) (by decide)
  cases ht
  have := outOfOrder_writeBackEnd.symm.trans (hword 0 (by decide))
  exact absurd this (by decide)

end Sys2Proof.Machine
end

section
/-! SUPPORT. Bits of a word after some were set or cleared. -/

namespace Sys2Proof.Machine

theorem half_clearBits (v m : Nat) : clearBits v m / 2 = clearBits (v / 2) (m / 2) := by
  have odd := @Nat.and_mod_two_eq_one v m
  have le : v &&& m ≤ v := Nat.and_le_left
  unfold clearBits
  rw [← Nat.and_div_two]
  omega

/-- Clearing takes away the bits of the mask alone. -/
theorem bitAt_clearBits (v m i : Nat) : bitAt (clearBits v m) i = (bitAt v i && !bitAt m i) := by
  unfold bitAt
  induction i generalizing v m with
  | zero =>
    have odd := @Nat.and_mod_two_eq_one v m
    have le : v &&& m ≤ v := Nat.and_le_left
    rw [Bool.eq_iff_iff]
    simp only [Nat.testBit_zero, clearBits, Bool.and_eq_true, Bool.not_eq_true', decide_eq_true_eq, decide_eq_false_iff_not]
    omega
  | succ i ih => simp only [Nat.testBit_succ, half_clearBits, ih]

theorem bitAt_setBits (v m i : Nat) : bitAt (setBits v m) i = (bitAt v i || bitAt m i) := by
  simp [bitAt, setBits]

theorem bitAt_shift (n i : Nat) : bitAt (1 <<< n) i = decide (n = i) := by
  simp [bitAt, Nat.one_shiftLeft, Nat.testBit_two_pow]

@[simp] theorem bitAt_set_same (v n : Nat) : bitAt (setBits v (1 <<< n)) n = true := by simp [bitAt_setBits, bitAt_shift]
@[simp] theorem bitAt_clear_same (v n : Nat) : bitAt (clearBits v (1 <<< n)) n = false := by simp [bitAt_clearBits, bitAt_shift]

theorem bitAt_set_ne (v : Nat) {n i : Nat} (h : n ≠ i) : bitAt (setBits v (1 <<< n)) i = bitAt v i := by
  simp [bitAt_setBits, bitAt_shift, h]
theorem bitAt_clear_ne (v : Nat) {n i : Nat} (h : n ≠ i) : bitAt (clearBits v (1 <<< n)) i = bitAt v i := by
  simp [bitAt_clearBits, bitAt_shift, h]

end Sys2Proof.Machine
end

section
/-! PROOFS. The safety cycle boundary and the end of collection (spec/12_safety_functions.md R507, R512, R524, R546;
spec/13_safety_io_black_channel.md R552 to R557, R574, R575; O44). -/

namespace Sys2Proof.Machine

/-! ### One input judged -/

/-- `t` is `s` after inputs other than `i` were judged: input `i` stands, and beside the marks of the inputs only the first cause of
degraded mode and what events touch has changed. -/
structure Judged (i : Nat) (s t : State) : Prop where
  core : t.core = ({ s with saf := t.saf }).core
  saf : t.saf = { s.saf with
    io := { s.saf.io with disc := t.saf.io.disc, fault := t.saf.io.fault, logical := t.saf.io.logical }
    degraded := t.saf.degraded }
  size : t.saf.io.disc.length = s.saf.io.disc.length
  disc : nth t.saf.io.disc i 0 = nth s.saf.io.disc i 0
  fault : bitAt t.saf.io.fault i = bitAt s.saf.io.fault i
  logical : bitAt t.saf.io.logical i = bitAt s.saf.io.logical i
  raised : ∀ e, s.raised e → t.raised e
  degraded : s.saf.degraded.isSome = true → t.saf.degraded.isSome = true

variable {i : Nat} {s t u : State}

theorem Judged.refl (i : Nat) (s : State) : Judged i s s := ⟨rfl, rfl, rfl, rfl, rfl, rfl, fun _ => id, id⟩

theorem core_withSaf {s t : State} (h : t.core = ({ s with saf := t.saf }).core) (x : Safety) :
    ({ t with saf := x }).core = ({ s with saf := x }).core :=
  congrArg (fun u : State => { u with saf := x }) h

theorem Judged.trans (h : Judged i s t) (g : Judged i t u) : Judged i s u where
  core := g.core.trans (core_withSaf h.core _)
  saf := by rw [g.saf, h.saf]
  size := g.size.trans h.size
  disc := g.disc.trans h.disc
  fault := g.fault.trans h.fault
  logical := g.logical.trans h.logical
  raised := fun e x => g.raised e (h.raised e x)
  degraded := fun x => g.degraded (h.degraded x)

theorem judged_raise (i : Nat) (s : State) (ev : Nat) : Judged i s (s.raise ev) := by
  have q := (quiet_raise s ev).saf
  refine ⟨?_, ?_, ?_, ?_, ?_, ?_, fun e => raised_mono s ev, ?_⟩
  · rw [q]; exact State.core_raise s ev
  all_goals rw [q]
  exact id

theorem judged_degrade (i : Nat) (s : State) (c : Nat) : Judged i s (s.degrade c) := by
  unfold State.degrade
  split
  · have entered : Judged i s (s.onSaf fun f => { f with degraded := some (c, s.time.ringNs) }) :=
      ⟨rfl, rfl, rfl, rfl, rfl, rfl, fun _ => id, fun _ => rfl⟩
    exact entered.trans (judged_raise i _ 441)
  · exact .refl i s

/-- A cause of degraded mode arises while the safety function runs: degraded mode stands, with this cause or an earlier one (R534). -/
theorem degraded_degrade (c : Nat) (h : s.isRunning .safety = true) : (s.degrade c).saf.degraded.isSome = true := by
  unfold State.degrade
  split
  · rw [(quiet_raise _ _).saf]; rfl
  next old => simpa [h, Option.isSome_iff_ne_none] using old

/-- Discrepancy count of input `n` with the cycle that ends (R554). -/
def State.inputCount (s : State) (n : Nat) : Nat :=
  let v := s.normalised s.saf.io.frozen n
  if v.1 != v.2 || (bitAt s.saf.io.pulseLast n || bitAt s.saf.io.pulseLast (16 + n)) then nth s.saf.io.disc n 0 + 1 else 0

/-- Input `n` is faulty with the cycle that ends: its count has reached T_disc, or its latch has not met two zeros (R554 to R556). -/
def State.inputFault (s : State) (n : Nat) : Bool :=
  let v := s.normalised s.saf.io.frozen n
  (bitAt s.saf.io.fault n && (v.1 || v.2 || (bitAt s.saf.io.pulseLast n || bitAt s.saf.io.pulseLast (16 + n)))) ||
    decide (u8At (s.safInput n) 1 ≤ s.inputCount n)

/-- Logical value of input `n` in the cycle that ends (R557). -/
def State.inputValue (s : State) (n : Nat) : Bool :=
  let v := s.normalised s.saf.io.frozen n
  v.1 && v.2 && !s.inputFault n

/-- The marks of a used input are written. -/
def State.mark (s : State) (n : Nat) : State :=
  s.onIo fun x => { x with
    disc := upd x.disc n fun _ => min (s.inputCount n) 65535
    fault := if s.inputFault n then setBits x.fault (1 <<< n) else clearBits x.fault (1 <<< n)
    logical := if s.inputValue n then setBits x.logical (1 <<< n) else clearBits x.logical (1 <<< n) }

theorem evalInput_unused {n : Nat} (h : u8At (s.safInput n) 0 = 0) :
    s.evalInput n = s.onIo fun x => { x with logical := clearBits x.logical (1 <<< n) } := by
  unfold State.evalInput
  exact if_pos h

/-- A used input: its marks, and for a new fault EV456 and degraded mode. -/
theorem evalInput_used {n : Nat} (h : u8At (s.safInput n) 0 ≠ 0) :
    s.evalInput n = if s.inputFault n && !bitAt s.saf.io.fault n then ((s.mark n).raise 456).degrade 2 else s.mark n := by
  have latch : ∀ was a b p d : Bool, ((was && !(!a && !b && !p)) || d) = ((was && (a || b || p)) || d) := by decide
  unfold State.evalInput
  dsimp only
  rw [if_neg h, latch]
  rfl

theorem judged_mark {n : Nat} (h : n ≠ i) (s : State) : Judged i s (s.mark n) := by
  refine ⟨rfl, rfl, length_upd _ _ _, nth_upd_ne _ _ _ h, ?_, ?_, fun _ => id, id⟩
  · dsimp only [State.mark, State.onIo, State.onSaf]
    split
    · exact bitAt_set_ne _ h
    · exact bitAt_clear_ne _ h
  · dsimp only [State.mark, State.onIo, State.onSaf]
    split
    · exact bitAt_set_ne _ h
    · exact bitAt_clear_ne _ h

/-- Judging an input leaves every other input as it was. -/
theorem judged_evalInput {n : Nat} (h : n ≠ i) (s : State) : Judged i s (s.evalInput n) := by
  by_cases used : u8At (s.safInput n) 0 = 0
  · rw [evalInput_unused used]
    exact ⟨rfl, rfl, rfl, rfl, rfl, bitAt_clear_ne _ h, fun _ => id, id⟩
  · rw [evalInput_used used]
    split
    · exact (judged_mark h s).trans ((judged_raise i _ _).trans (judged_degrade i _ _))
    · exact judged_mark h s

theorem judged_evalInputs (l : List Nat) (h : i ∉ l) (s : State) : Judged i s (l.foldl State.evalInput s) := by
  induction l generalizing s with
  | nil => exact .refl i s
  | cons n r ih =>
    rw [List.mem_cons, not_or] at h
    exact (judged_evalInput (Ne.symm h.1) s).trans (ih h.2 _)

/-! ### The verdict on an input -/

/-- `t` holds the verdict on input `n` that state `s` gives (R553 to R557). -/
structure Verdict (n : Nat) (s t : State) : Prop where
  unused : u8At (s.safInput n) 0 = 0 → bitAt t.saf.io.logical n = false
  fault : u8At (s.safInput n) 0 ≠ 0 → bitAt t.saf.io.fault n = s.inputFault n
  logical : u8At (s.safInput n) 0 ≠ 0 → bitAt t.saf.io.logical n = s.inputValue n
  count : u8At (s.safInput n) 0 ≠ 0 → nth t.saf.io.disc n 0 = min (s.inputCount n) 65535
  event : u8At (s.safInput n) 0 ≠ 0 → s.inputFault n = true → bitAt s.saf.io.fault n = false → t.raised 456
  degraded : u8At (s.safInput n) 0 ≠ 0 → s.inputFault n = true → bitAt s.saf.io.fault n = false → s.isRunning .safety = true →
    t.saf.degraded.isSome = true

theorem verdict_mark {n : Nat} (h : n < s.saf.io.disc.length) :
    bitAt (s.mark n).saf.io.fault n = s.inputFault n ∧ bitAt (s.mark n).saf.io.logical n = s.inputValue n ∧
      nth (s.mark n).saf.io.disc n 0 = min (s.inputCount n) 65535 := by
  refine ⟨?_, ?_, nth_upd_same _ _ h⟩
  · dsimp only [State.mark, State.onIo, State.onSaf]
    cases s.inputFault n <;> simp
  · dsimp only [State.mark, State.onIo, State.onSaf]
    cases s.inputValue n <;> simp

theorem verdict_evalInput {n : Nat} (h : n < s.saf.io.disc.length) : Verdict n s (s.evalInput n) := by
  by_cases used : u8At (s.safInput n) 0 = 0
  · rw [evalInput_unused used]
    exact ⟨fun _ => bitAt_clear_same _ n, absurd used, absurd used, absurd used, absurd used, absurd used⟩
  · obtain ⟨fault, logical, count⟩ := verdict_mark h
    rw [evalInput_used used]
    split
    next new =>
      have rest := (judged_raise n (s.mark n) 456).trans (judged_degrade n _ 2)
      refine ⟨fun e => absurd e used, fun _ => rest.fault.trans fault, fun _ => rest.logical.trans logical,
        fun _ => rest.disc.trans count, fun _ _ _ => (judged_degrade n _ 2).raised _ (raised_raise _ (by decide)),
        fun _ _ _ run => degraded_degrade _ ?_⟩
      unfold State.isRunning State.fnSt
      rw [State.fn_raise]
      exact run
    next old =>
      refine ⟨fun e => absurd e used, fun _ => fault, fun _ => logical, fun _ => count, fun _ new was => absurd ?_ old,
        fun _ new was _ => absurd ?_ old⟩ <;> simp [new, was]

theorem Judged.dict (h : Judged i s t) : t.dict = s.dict := by
  have e := congrArg State.dict h.core
  exact e
theorem Judged.fns (h : Judged i s t) : t.fns = s.fns := by
  have e := congrArg State.fns h.core
  exact e

/-- What was judged before leaves the verdict on an input as it is. -/
theorem Judged.verdict {n : Nat} (h : Judged n s u) (g : Verdict n u t) : Verdict n s t := by
  have record : u.safInput n = s.safInput n := by simp only [State.safInput, State.obj, h.dict]
  have frozen : u.saf.io.frozen = s.saf.io.frozen := by rw [h.saf]
  have pulse : u.saf.io.pulseLast = s.saf.io.pulseLast := by rw [h.saf]
  have levels : u.normalised u.saf.io.frozen n = s.normalised s.saf.io.frozen n := by simp only [State.normalised, record, frozen]
  have count : u.inputCount n = s.inputCount n := by simp only [State.inputCount, levels, pulse, h.disc]
  have fault : u.inputFault n = s.inputFault n := by simp only [State.inputFault, levels, pulse, h.fault, record, count]
  have value : u.inputValue n = s.inputValue n := by simp only [State.inputValue, levels, fault]
  have running : u.isRunning .safety = s.isRunning .safety := by simp only [State.isRunning, State.fnSt, State.fn, h.fns]
  have first := h.fault
  obtain ⟨g1, g2, g3, g4, g5, g6⟩ := g
  rw [record, fault, first] at g5 g6
  rw [running] at g6
  rw [record] at g1 g2 g3 g4
  exact ⟨g1, fault ▸ g2, value ▸ g3, count ▸ g4, g5, g6⟩

/-- And so does what is judged after it. -/
theorem Verdict.judged {n : Nat} (h : Verdict n s u) (g : Judged n u t) : Verdict n s t where
  unused x := g.logical.trans (h.unused x)
  fault x := g.fault.trans (h.fault x)
  logical x := g.logical.trans (h.logical x)
  count x := g.disc.trans (h.count x)
  event x y z := g.raised _ (h.event x y z)
  degraded x y z w := g.degraded (h.degraded x y z w)

theorem verdict_evalInputs {l : List Nat} {n : Nat} (hl : l.Nodup) (hn : n ∈ l) (h : n < s.saf.io.disc.length) :
    Verdict n s (l.foldl State.evalInput s) := by
  obtain ⟨a, b, rfl⟩ := List.append_of_mem hn
  rw [List.nodup_append, List.nodup_cons] at hl
  obtain ⟨-, ⟨hb, -⟩, hab⟩ := hl
  have before : Judged n s (a.foldl State.evalInput s) :=
    judged_evalInputs a (fun m => hab n m n (by simp) rfl) s
  rw [List.foldl_append, List.foldl_cons]
  exact before.verdict ((verdict_evalInput (by rw [before.size]; exact h)).judged (judged_evalInputs b hb _))

end Sys2Proof.Machine
end

section
/-! PROOFS. The safety cycle boundary (spec/12_safety_functions.md R507, R546; spec/13_safety_io_black_channel.md R552; O44). -/

namespace Sys2Proof.Machine

/-- What the boundary that ends cycle `sc` freezes (R546, R552). -/
def State.freeze (s : State) (sc : Nat) : State :=
  s.onSaf fun f => { f with
    cycle := some sc
    closed := false
    raised := []
    hostStop := (List.range 12).map fun a => s.objOctet 0xA150 (a + 1) 0
    acksNow := f.acks
    acks := 0
    io := { f.io with
      frozen := f.io.filt, pulseLast := f.io.pulseFail, pulseFail := 0, logicalPrev := f.io.logical
      shown := f.io.rba <<< 24 ||| f.io.rbb <<< 16 ||| (f.io.filt / 2 ^ 32) <<< 8 ||| maskOf ((List.range 8).filter s.pairOn) } }

theorem boundarySafety_eq (s : State) (sc : Nat) : s.boundarySafety sc =
    if s.isRunning .safety || s.fnSt .safety == .fault then (List.range 16).foldl State.evalInput (s.freeze sc) else s.freeze sc := rfl

/-- Freezing and judging: inputs alone are judged after the freeze. -/
theorem judged_boundarySafety (s : State) (sc : Nat) : Judged 16 (s.freeze sc) (s.boundarySafety sc) := by
  rw [boundarySafety_eq]
  split
  · exact judged_evalInputs _ (by simp) _
  · exact .refl _ _

theorem boundarySafety_idle {s : State} (sc : Nat) (h : s.isRunning .safety = false) (g : s.fnSt .safety ≠ .fault) :
    s.boundarySafety sc = s.freeze sc := by
  rw [boundarySafety_eq, if_neg (by simp [h, g])]

theorem verdict_boundarySafety {s : State} (sc : Nat) (h : s.isRunning .safety = true ∨ s.fnSt .safety = .fault)
    (size : s.saf.io.disc.length = 16) {n : Nat} (hn : n < 16) : Verdict n (s.freeze sc) (s.boundarySafety sc) := by
  rw [boundarySafety_eq, if_pos (by simpa using h)]
  exact verdict_evalInputs List.nodup_range (List.mem_range.mpr hn) (by show n < s.saf.io.disc.length; omega)

theorem Timely.saf {s u : State} (h : Timely s u) : u.saf = s.saf := by
  unfold Timely at h
  rw [h]

theorem Timely.exists {s u : State} (h : Timely s u) : ∃ a b c d, u = { s with time := a, way := b, ledger := c, trace := d } :=
  ⟨_, _, _, _, h⟩

/-- A SAFETY_CYCLE_BOUNDARY ends a cycle later than the one under evaluation (R507). -/
theorem exec_safetyCycleBoundary {s : State} (h : s.time.ticking = true) : ∃ (u : State) (n : Nat), Timely s u ∧
    (∀ sc, s.saf.cycle = some sc → sc < n) ∧ exec .safetyCycleBoundary s = .next (u.boundarySafety n) := by
  show ∃ (u : State) (n : Nat), Timely s u ∧ (∀ sc, s.saf.cycle = some sc → sc < n) ∧
    execSafetyCycleBoundary s = .next (u.boundarySafety n)
  unfold execSafetyCycleBoundary
  rw [h]
  refine ⟨_, _, timely_advanceTo s _, fun sc eq => ?_, rfl⟩
  rw [eq]
  dsimp only
  omega

theorem safetyCycleBoundary_stopped {s : State} (h : s.time.ticking = false) : exec .safetyCycleBoundary s = .next s := by
  show execSafetyCycleBoundary s = .next s
  unfold execSafetyCycleBoundary
  exact if_pos (by simp [h])

/-- What a boundary freezes and what it leaves (R507, R546, R552). -/
theorem boundarySafety_frozen {s u : State} (h : Timely s u) (n : Nat) :
    (u.boundarySafety n).core = ({ s with saf := (u.boundarySafety n).saf }).core ∧
    (u.boundarySafety n).saf = { (u.freeze n).saf with
      io := { (u.freeze n).saf.io with
        disc := (u.boundarySafety n).saf.io.disc
        fault := (u.boundarySafety n).saf.io.fault, logical := (u.boundarySafety n).saf.io.logical }
      degraded := (u.boundarySafety n).saf.degraded } :=
  have j := judged_boundarySafety u n
  ⟨j.core.trans (core_withSaf (s := s) (t := u.freeze n) (by obtain ⟨a, b, c, d, rfl⟩ := h.exists; rfl) _), j.saf⟩

theorem nth_map_range {α : Type} (f : Nat → α) (d : α) {n a : Nat} (h : a < n) : nth ((List.range n).map f) a d = f a := by
  simp [nth, List.getD_eq_getElem?_getD, h]

theorem safetyCycleBoundary_effect {s : State} (shaped : s.Shaped) (ticking : s.time.ticking = true) :
    Runs .safetyCycleBoundary s fun t =>
      t.core = ({ s with saf := t.saf }).core ∧ t.saf.soA = s.saf.soA ∧ t.saf.soB = s.saf.soB ∧
      (∃ n, t.saf.cycle = some n ∧ ∀ sc, s.saf.cycle = some sc → sc < n) ∧ t.saf.closed = false ∧
      t.saf.io.frozen = s.saf.io.filt ∧ t.saf.io.filt = s.saf.io.filt ∧ t.saf.io.pulseFail = 0 ∧
      t.saf.acksNow = s.saf.acks ∧ t.saf.acks = 0 ∧
      (∀ a, a < 12 → nth t.saf.hostStop a 0 = s.objOctet 0xA150 (a + 1) 0) ∧
      (s.isRunning .safety = false → s.fnSt .safety ≠ .fault → t.saf.io.logical = s.saf.io.logical ∧
        t.saf.io.fault = s.saf.io.fault) ∧
      (s.isRunning .safety = true ∨ s.fnSt .safety = .fault → ∀ n, n < 16 → Verdict n (s.freeze 0) t) := by
  obtain ⟨u, n, timely, later, run⟩ := exec_safetyCycleBoundary ticking
  refine ⟨_, run, ?_⟩
  obtain ⟨core, saf⟩ := boundarySafety_frozen timely n
  have idle := boundarySafety_idle (s := u) n
  have verdict := verdict_boundarySafety (s := u) n
  generalize u.boundarySafety n = t at core saf idle verdict ⊢
  have size := shaped.samples.2.1
  obtain ⟨a, b, c, d, rfl⟩ := timely.exists
  refine ⟨core, ?_, ?_, ⟨n, ?_, later⟩, ?_, ?_, ?_, ?_, ?_, ?_, ?_, ?_, ?_⟩
  iterate 9 rw [saf]; rfl
  · intro a ha
    rw [saf]
    exact nth_map_range _ 0 ha
  · intro h g
    rw [idle h g]
    exact ⟨rfl, rfl⟩
  · intro h n hn
    obtain ⟨v1, v2, v3, v4, v5, v6⟩ := verdict h size hn
    exact ⟨v1, v2, v3, v4, v5, v6⟩

end Sys2Proof.Machine
end

section
/-! PROOFS. The end of collection (spec/12_safety_functions.md R512, R523, R524; spec/13_safety_io_black_channel.md R574, R575; O44). -/

namespace Sys2Proof.Machine

/-! ### Bindings changed one after another -/

/-- Elements `l` of a list changed. -/
def updAll {α : Type} (l : List Nat) (g : α → α) (b : List α) : List α := l.foldl (fun b e => upd b e g) b

theorem nth_updAll_ne {α : Type} {l : List Nat} {e : Nat} (h : e ∉ l) (g : α → α) (d : α) (b : List α) :
    nth (updAll l g b) e d = nth b e d := by
  induction l generalizing b with
  | nil => rfl
  | cons a r ih =>
    rw [List.mem_cons, not_or] at h
    exact (ih h.2 (upd b a g)).trans (nth_upd_ne b g d (Ne.symm h.1))

theorem nth_updAll {α : Type} {l : List Nat} {e : Nat} (nodup : l.Nodup) (h : e ∈ l) (g : α → α) (d : α) {b : List α}
    (hb : e < b.length) : nth (updAll l g b) e d = g (nth b e d) := by
  induction l generalizing b with
  | nil => simp at h
  | cons a r ih =>
    rw [List.nodup_cons] at nodup
    show nth (updAll r g (upd b a g)) e d = _
    by_cases eq : a = e
    · subst eq
      rw [nth_updAll_ne nodup.1, nth_upd_same g d hb]
    · rw [ih nodup.2 (by simpa [Ne.symm eq] using h) (by simpa using hb), nth_upd_ne b g d eq]

theorem foldl_onBinding (l : List (Nat × Octets)) (g : SafBinding → SafBinding) (s : State) :
    l.foldl (fun s x => s.onBinding x.1 g) s = s.onSaf fun f => { f with bindings := updAll (l.map (·.1)) g f.bindings } := by
  induction l generalizing s with
  | nil => rfl
  | cons a r ih => exact (ih _).trans rfl

/-- Numbers of the used bindings. -/
theorem safBindings_numbers (s : State) : s.safBindings.map (·.1) =
    (List.range 104).filter fun e => u8At (bindRec (s.obj 0xA160 0) e) 0 != 0 := by
  unfold State.safBindings
  rw [List.map_filterMap, ← List.filterMap_eq_filter]
  congr 1
  funext e
  by_cases h : u8At (bindRec (s.obj 0xA160 0) e) 0 = 0 <;> simp [h, Option.guard]

theorem safBindings_nodup (s : State) : (s.safBindings.map (·.1)).Nodup := by
  rw [safBindings_numbers]
  exact List.nodup_range.filter _

theorem safBindings_lt {s : State} {e : Nat} {r : Octets} (h : (e, r) ∈ s.safBindings) : e < 104 := by
  have m : e ∈ s.safBindings.map (·.1) := List.mem_map_of_mem h
  rw [safBindings_numbers, List.mem_filter, List.mem_range] at m
  exact m.1

/-! ### What the collection takes -/

/-- A binding as the close of safety cycle `sc` leaves it (R574). -/
def SafBinding.closed (sc : Nat) (y : SafBinding) : SafBinding :=
  { y with missing := (y.inCycle sc).isEmpty, refusedLast := y.refused, refused := false,
           tels := y.tels.filter fun t => decide (sc < t.1) }

/-- Bricks that are occupied by the reports of safety cycle `sc` (R524). -/
def State.occupiedIn (s : State) (sc : Nat) : List Nat := (List.range 81920).filter (s.occupied (s.reports sc))

/-- Positions of the joints from the telegrams of safety cycle `sc` (R574, R575). -/
def State.takenJoints (s : State) (sc : Nat) : List SafPos :=
  s.saf.joints.zipIdx.map fun x =>
    ⟨s.safePosition sc x.2, x.1.pos, if (s.safePosition sc x.2).isSome then x.1.run + 1 else 0⟩

theorem collect_eq {s : State} {sc : Nat} (h : s.saf.cycle = some sc) : s.collect = s.onSaf fun f => { f with
    closed := true, occCount := (s.occupiedIn sc).length, occ := (s.occupiedIn sc).take 2048
    joints := s.takenJoints sc
    bindings := updAll (s.safBindings.map (·.1)) (SafBinding.closed sc) f.bindings } := by
  have bricks : (List.range 81920).filter (s.occupied (s.reports sc)) = s.occupiedIn sc := rfl
  unfold State.collect
  simp only [h, bricks]
  generalize s.occupiedIn sc = occ
  exact foldl_onBinding _ _ _

theorem nth_takenJoints (s : State) (sc : Nat) {j : Nat} (h : j < s.saf.joints.length) :
    (nth (s.takenJoints sc) j SafPos.initial).pos = s.safePosition sc j ∧
      (nth (s.takenJoints sc) j SafPos.initial).prev = (nth s.saf.joints j SafPos.initial).pos := by
  simp [State.takenJoints, nth, List.getD_eq_getElem?_getD, h]

/-! ### Positions and occupancy look at the configuration and the safety function alone -/

theorem Timely.safePosition {s u : State} (h : Timely s u) (sc j : Nat) : u.safePosition sc j = s.safePosition sc j := by
  obtain ⟨a, b, c, d, rfl⟩ := h.exists
  rfl
theorem Timely.safBindings {s u : State} (h : Timely s u) : u.safBindings = s.safBindings := by
  obtain ⟨a, b, c, d, rfl⟩ := h.exists
  rfl
theorem Timely.occupiedIn {s u : State} (h : Timely s u) (sc : Nat) : u.occupiedIn sc = s.occupiedIn sc := by
  have brick : u.occupied (u.reports sc) = s.occupied (s.reports sc) := by
    obtain ⟨a, b, c, d, rfl⟩ := h.exists
    rfl
  unfold State.occupiedIn
  rw [brick]

theorem mem_occupiedIn {s : State} {sc b : Nat} (h : b < 81920) : b ∈ s.occupiedIn sc ↔ s.occupied (s.reports sc) b = true := by
  unfold State.occupiedIn
  rw [List.mem_filter, List.mem_range]
  exact and_iff_right h

theorem exec_telegramCollectionClose {s : State} {sc : Nat} (h : s.saf.cycle = some sc) (o : s.saf.closed = false) :
    exec .telegramCollectionClose s = .next (s.advanceNow (500000 * (sc + 1) + 100000)).collect := by
  show execTelegramCollectionClose s = _
  unfold execTelegramCollectionClose
  simp [h, o]

theorem telegramCollectionClose_done {s : State} (h : s.saf.cycle = none ∨ s.saf.closed = true) :
    exec .telegramCollectionClose s = .next s := by
  show execTelegramCollectionClose s = _
  unfold execTelegramCollectionClose
  split
  next sc eq => rcases h with none | closed
                · simp [eq] at none
                · rw [if_pos closed]
  next => rfl

/-- The close of collection: positions, missing telegrams and occupancy of the cycle (R512, R524, R574, R575). -/
theorem telegramCollectionClose_effect {s : State} {sc : Nat} (shaped : s.Shaped) (cycle : s.saf.cycle = some sc)
    (opened : s.saf.closed = false) : Runs .telegramCollectionClose s fun t =>
      t.core = ({ s with saf := t.saf }).core ∧ t.saf.closed = true ∧ t.saf.cycle = some sc ∧
      (∀ j, j < 96 → (nth t.saf.joints j SafPos.initial).pos = s.safePosition sc j ∧
        (nth t.saf.joints j SafPos.initial).prev = (nth s.saf.joints j SafPos.initial).pos) ∧
      (∀ e r, (e, r) ∈ s.safBindings →
        (nth t.saf.bindings e SafBinding.initial).missing = ((nth s.saf.bindings e SafBinding.initial).inCycle sc).isEmpty) ∧
      t.saf.occCount = (s.occupiedIn sc).length ∧ t.saf.occ = (s.occupiedIn sc).take 2048 := by
  refine ⟨_, exec_telegramCollectionClose cycle opened, ?_⟩
  have timely := timely_advanceTo s ((((500000 * (sc + 1) + 100000 : Nat) : Int) - s.thetaNs).toNat + 1)
  show _ ∧ _
  unfold State.advanceNow
  generalize s.advanceTo _ = u at timely ⊢
  have saf := timely.saf
  rw [collect_eq (by rw [saf]; exact cycle), timely.occupiedIn, timely.safBindings]
  have joints : ∀ j, j < 96 → (nth (u.takenJoints sc) j SafPos.initial).pos = s.safePosition sc j ∧
      (nth (u.takenJoints sc) j SafPos.initial).prev = (nth s.saf.joints j SafPos.initial).pos := by
    intro j hj
    have := nth_takenJoints u sc (j := j) (by rw [saf, shaped.tolerant.2.2]; exact hj)
    rwa [timely.safePosition, saf] at this
  generalize u.takenJoints sc = taken at joints ⊢
  generalize s.occupiedIn sc = occ
  obtain ⟨a, b, c, d, rfl⟩ := timely.exists
  refine ⟨rfl, rfl, cycle, joints, ?_, rfl, rfl⟩
  intro e r her
  show (nth (updAll _ _ s.saf.bindings) e SafBinding.initial).missing = _
  rw [nth_updAll (safBindings_nodup s) (List.mem_map_of_mem her) _ _ (by rw [shaped.bindings]; exact safBindings_lt her)]
  rfl

/-! ### The obligation -/

/-- Settles O44: freezing and judging of a boundary (`safetyCycleBoundary_effect`), the collection
(`telegramCollectionClose_effect`), and the two boundaries that do nothing. -/
theorem safetyCyclesFreezeTheirInputs : Obligations.SafetyCyclesFreezeTheirInputs := by
  unfold Obligations.SafetyCyclesFreezeTheirInputs
  refine ⟨fun s shaped ticking => ?_, fun s sc shaped cycle opened => ?_, fun s => safetyCycleBoundary_stopped,
    fun s => telegramCollectionClose_done⟩
  · obtain ⟨t, run, core, soA, soB, next, closed, frozen, filt, pulse, acksNow, acks, host, idle, verdict⟩ :=
      safetyCycleBoundary_effect shaped ticking
    refine ⟨t, run, core, soA, soB, next, closed, frozen, filt, pulse, acksNow, acks, host, idle, fun watch n hn => ?_⟩
    obtain ⟨unused, fault, logical, count, event, degraded⟩ := verdict watch n hn
    exact ⟨unused, fun used => ⟨fault used, logical used, count used, fun new was =>
      ⟨event used new was, degraded used new was⟩⟩⟩
  · obtain ⟨t, run, core, closed, cycle', joints, missing, count, occ⟩ := telegramCollectionClose_effect shaped cycle opened
    refine ⟨t, run, core, closed, cycle', joints, missing, count, fun few b hb => ?_⟩
    rw [occ, List.take_of_length_le (count ▸ few)]
    exact mem_occupiedIn hb

end Sys2Proof.Machine
end

section
/-! SUPPORT. Steps 1 to 5 of a request (spec/03_object_dictionary.md R114 to R126): what an admitted one finds and leaves. -/

namespace Sys2Proof.Machine

/-! ### The way to the management processor -/

theorem post_dict (s : State) (it : Item) : (s.post it).dict = s.dict := by
  rcases quiet_post s it with q | e
  · exact q.dict
  · rw [e]
theorem post_time (s : State) (it : Item) : (s.post it).time = s.time := by
  rcases quiet_post s it with q | e
  · exact q.time
  · rw [e]

/-- A message on its way touches neither the dictionary nor the clocks. -/
theorem carry_keeps (s : State) (e : Endpoint) (o : Octets) (t : Nat) :
    (s.carry e o t).1.dict = s.dict ∧ (s.carry e o t).1.time = s.time := by
  unfold State.carry
  split
  · exact ⟨rfl, rfl⟩
  · split
    · exact ⟨State.dict_raise s _, State.time_raise s _⟩
    · dsimp only
      split
      · exact ⟨rfl, rfl⟩
      · exact ⟨post_dict _ _, post_time _ _⟩

theorem carried_dict (s : State) (r : Req) : (s.carried r).1.dict = (s.arrived r.h).dict := (carry_keeps _ _ _ _).1
theorem carried_session (s : State) (r : Req) (id : Nat) : (s.carried r).1.session id = (s.arrived r.h).session id := by
  unfold State.session
  rw [carried_dict]
theorem carried_recent (s : State) (r : Req) (l : List Nat) : (s.carried r).1.recent l = (s.arrived r.h).recent l := by
  unfold State.recent State.carried
  rw [(carry_keeps _ _ _ _).2]

/-! ### Steps 1 to 5 -/

/-- Two changes of one session in turn. -/
theorem onSession_onSession (s : State) (id : Nat) (f g : Session → Session) (h : ∀ x, (f x).id = x.id) :
    (s.onSession id f).onSession id g = s.onSession id fun x => g (f x) := by
  unfold State.onSession State.onDict
  simp only [List.map_map]
  congr 3
  funext x
  simp only [Function.comp_apply]
  split <;> simp [*]

theorem Admitted.formOk {s : State} {r : Req} {x : Session} (a : Admitted s r x) : r.formRefused = none := by
  have head : r.headRefused = none := by simp [Req.headRefused, a.version, a.opcode]
  simp only [Req.formRefused, head]
  exact if_neg (not_or.mpr ⟨fun ne => ne a.length, Nat.not_lt.mpr a.fits⟩)

/-- An admitted request passes steps 1 to 5, its number consumed and its time counted (R116, R118). -/
theorem Admitted.letIn {s : State} {r : Req} {x : Session} (a : Admitted s r x) :
    (s.carried r).1.letIn r = (s.served r x, some x) := by
  have found := (carried_session s r r.h.session).trans a.found
  have fresh : ¬(r.h.seq = x.lastSeq ∧ r.octets ++ r.h.tag = x.lastReq) := by have := a.next; omega
  have calm : ¬(2000 ≤ ((s.carried r).1.recent x.reqAt).length ∨
      10000 ≤ ((s.carried r).1.recent (s.carried r).1.dict.reqAt).length) := by
    rw [carried_recent, carried_recent, carried_dict]
    have := a.own
    have := a.all
    omega
  unfold State.served
  generalize (s.carried r).1 = u at found calm ⊢
  have number : (u.onSession x.id fun y => { y with confirmed := true }).number r x =
      (u.onSession x.id fun y => { y with
        confirmed := true, lastSeq := r.h.seq, lastReq := r.octets ++ r.h.tag, lastRsp := [], latch := none }, some x) := by
    unfold State.number
    rw [if_neg fresh, if_neg a.last, if_neg (by simpa using a.next), onSession_onSession]
    intro y
    rfl
  unfold State.letIn
  simp only [a.formOk, found, a.endpoint, ne_eq, not_true_eq_false, if_false, ← a.tag, number]
  refine (if_neg calm).trans ?_
  rw [onSession_onSession]
  · rfl
  · intro y
    rfl

theorem Admitted.request {s : State} {r : Req} {x : Session} (a : Admitted s r x) (serve : Session → State → State) :
    s.request r serve = serve x (s.served r x) := by
  have through : ((s.advanceTo r.h.at_).heard r.h.src).1.carry r.h.src r.received r.h.at_ = s.carried r := rfl
  unfold State.request
  simp only [a.reaches.taken, through, a.reaches.through, if_true]
  unfold State.letThrough
  simp only [a.letIn]

@[simp] theorem plant_served (s : State) (r : Req) (x : Session) : (s.served r x).plant = s.plant :=
  State.plant_carried s r

/-! ### Refusals after step 5 -/

theorem portCount_dict (s : State) (n i : Nat) : (s.portCount n i).dict = s.dict := by
  unfold State.portCount
  dsimp only
  repeat' split
  · rfl
  · exact State.dict_raise _ _
  · rfl
theorem portDatagram_dict (s : State) (n : Nat) (x : HostTx) : (s.portDatagram n x).dict = s.dict := by
  unfold State.portDatagram State.portSend
  repeat' split
  · rfl
  · exact portCount_dict _ _ _
  · exact portCount_dict _ _ _
theorem canRespond_dict (s : State) (n : Nat) (m : Octets) : (s.canRespond n m).dict = s.dict := by
  unfold State.canRespond
  dsimp only
  split <;> rfl

/-- A response that is sent is the last one, whether or not its port can send it (R112). -/
theorem lastReply_send (s : State) (e : Endpoint) (m : Octets) : (s.send e m).dict.lastReply = some ⟨e, m⟩ := by
  unfold State.send
  dsimp only
  split
  · rw [portDatagram_dict]; rfl
  · rw [canRespond_dict]; rfl

theorem answered_respond (s : State) (r : Req) (x : Session) (op : Nat) (data : Octets) :
    Answered r x op data (s.respond r x op 0 data) := lastReply_send _ _ _

end Sys2Proof.Machine
end

section
/-! PROOFS. A WRITE of an RWS object whose owner is not STOPPED (spec/01_architecture.md R46; spec/03_object_dictionary.md R96,
Table 03-11; O21). -/

namespace Sys2Proof.Machine

variable {s t : State}

/-! ### What steps 7 to 10 look at is part of the plant -/

theorem available_of_plant (h : t.plant = s.plant) (idx : Nat) (w : Bool) : t.available idx w = s.available idx w := by
  have sec : t.sec = s.sec := by have e := congrArg State.sec h; exact e
  simp only [State.available, sec]
theorem mayWrite_of_plant (h : t.plant = s.plant) (x : Session) (idx : Nat) (c : Card) : t.mayWrite x idx c = s.mayWrite x idx c := by
  have sec : t.sec = s.sec := by have e := congrArg State.sec h; exact e
  simp only [State.mayWrite, sec]
theorem fnSt_of_plant (h : t.plant = s.plant) (f : Fn) : t.fnSt f = s.fnSt f := by
  have fns : t.fns = s.fns := by have e := congrArg State.fns h; exact e
  simp only [State.fnSt, State.fn, fns]

/-! ### Steps 8 and 10 for an RWS object -/

theorem writeAccess_rws {x : Session} {idx : Nat} {c : Card} (acc : c.acc = .rws) (open_ : s.available idx true = true)
    (role : s.mayWrite x idx c = true) : s.writeAccess x idx c = none := by
  simp [State.writeAccess, acc, open_, role]

theorem stateRefused_rws {x : Session} {idx sub v : Nat} {c : Card} {f : Fn} (acc : c.acc = .rws) (owner : c.owner = some f)
    (base : Fn.ofBase idx = none) (running : s.fnSt f ≠ .stopped) : s.stateRefused x idx sub v c = some abState := by
  simp [State.stateRefused, base, acc, owner, State.isStopped, running]

/-- Step 10 refuses the write, with all the steps before it passed (R46). -/
theorem writeRefused_rws {x : Session} {idx sub : Nat} {v : Octets} {c : Card} {f : Fn} (found : lookup idx sub = .found c)
    (acc : c.acc = .rws) (owner : c.owner = some f) (plain : c.ty.isDomain = false) (size : v.length = c.ty.size)
    (open_ : s.available idx true = true) (role : s.mayWrite x idx c = true) (base : Fn.ofBase idx = none)
    (running : s.fnSt f ≠ .stopped) : s.writeRefused x idx sub v = some abState := by
  simp [State.writeRefused, found, writeAccess_rws acc open_ role, plain, size, stateRefused_rws acc owner base running]

/-- A refused WRITE changes no object and no unit, and is answered with its abort code (R96, R108). -/
theorem write_refused {h : Hdr} {idx sub : Nat} {v : Octets} {x : Session} {code : Nat} (a : Admitted s (writeReq h idx sub v) x)
    (refused : (s.served (writeReq h idx sub v) x).writeRefused x idx sub v = some code) :
    Runs (.write h idx sub v) s fun t => t.plant = s.plant ∧ Answered (writeReq h idx sub v) x 0xFF (toLE 4 code) t := by
  have served : s.writeRequest h idx sub v = (s.served (writeReq h idx sub v) x).refuse (writeReq h idx sub v) x code := by
    unfold State.writeRequest
    rw [a.request]
    simp only [State.serveWrite, refused]
  refine ⟨s.writeRequest h idx sub v, rfl, ?_⟩
  rw [served]
  exact ⟨(State.plant_respond _ _ _ _ _ _).trans (plant_served s _ x), answered_respond _ _ _ _ _⟩

/-- Settles O21: the request passes steps 6 to 9 and step 10 refuses it, whatever its value. -/
theorem stoppedOnlyConfiguration : Obligations.StoppedOnlyConfiguration := by
  unfold Obligations.StoppedOnlyConfiguration
  intro s h idx sub v x c f admitted found acc owner plain size open_ role base running
  have same := plant_served s (writeReq h idx sub v) x
  exact write_refused admitted (writeRefused_rws found acc owner plain size ((available_of_plant same _ _).trans open_)
    ((mayWrite_of_plant same _ _ _).trans role) base (by rwa [fnSt_of_plant same]))

end Sys2Proof.Machine
end

section
/-! SUPPORT. The candidates for dispatch and their order (spec/07_waystation_scheduler.md R300, R301). -/

namespace Sys2Proof.Machine

/-! ### The first candidate -/

theorem Candidate.before_trans {a b c : Candidate} (h : a.before b = true) (g : b.before c = true) : a.before c = true := by
  simp only [Candidate.before, Bool.or_eq_true, Bool.and_eq_true, decide_eq_true_eq, beq_iff_eq] at *
  omega

theorem Candidate.before_irrefl (a : Candidate) : a.before a = false := by simp [Candidate.before]

theorem Candidate.before_asymm {a b : Candidate} (h : a.before b = true) : b.before a = false :=
  Bool.eq_false_iff.mpr fun g => by simpa [Candidate.before_irrefl] using Candidate.before_trans h g

theorem mem_insertCandidate {a x : Candidate} {l : List Candidate} : x ∈ insertCandidate a l ↔ x = a ∨ x ∈ l := by
  induction l with
  | nil => simp [insertCandidate]
  | cons b r ih =>
    unfold insertCandidate
    split
    · exact List.mem_cons
    · rw [List.mem_cons, ih, List.mem_cons]
      exact or_left_comm

theorem mem_sorted {x : Candidate} {l : List Candidate} : x ∈ l.foldr insertCandidate [] ↔ x ∈ l := by
  induction l with
  | nil => rfl
  | cons a r ih => rw [List.foldr_cons, mem_insertCandidate, ih, List.mem_cons]

/-- None of the candidates goes before the first one. -/
def Led (l : List Candidate) : Prop := ∀ x r, l = x :: r → ∀ y ∈ l, y.before x = false

theorem Led.insert {l : List Candidate} (h : Led l) (a : Candidate) : Led (insertCandidate a l) := by
  cases l with
  | nil =>
    rintro x r eq y hy
    cases eq
    rw [List.mem_singleton.mp hy]
    exact Candidate.before_irrefl _
  | cons b l =>
    have first := h b l rfl
    unfold insertCandidate
    split
    next goes =>
      rintro x r eq y hy
      cases eq
      rcases List.mem_cons.mp hy with rfl | hy
      · exact Candidate.before_irrefl _
      · exact Bool.eq_false_iff.mpr fun g => by simpa [first y hy] using Candidate.before_trans g goes
    next stays =>
      rintro x r eq y hy
      cases eq
      rw [List.mem_cons, mem_insertCandidate] at hy
      rcases hy with rfl | rfl | hy
      · exact first y (by simp)
      · exact Bool.eq_false_iff.mpr stays
      · exact first y (by simp [hy])

theorem led_sorted (l : List Candidate) : Led (l.foldr insertCandidate []) := by
  induction l with
  | nil => nofun
  | cons a r ih => exact ih.insert a

/-- A candidate is a ready entry of the queue whose flow is of the class. -/
theorem mem_candidates {w : Waystation} {c : Consumer} {x : Candidate} : x ∈ w.candidates c ↔
    ∃ q t f, w.queue[x.at_]? = some q ∧ q.ready = some t ∧ flowInfo w.table q.item.flow = some f ∧ f.cls = c ∧
      x = ⟨x.at_, f.priority, t, q.item⟩ := by
  unfold Waystation.candidates
  rw [mem_sorted, List.mem_filterMap]
  constructor
  · rintro ⟨⟨q, i⟩, hq, eq⟩
    rw [List.mem_zipIdx_iff_getElem?] at hq
    split at eq
    next t f ready info =>
      split at eq
      next cls =>
        cases eq
        exact ⟨q, t, f, hq, ready, info, cls, rfl⟩
      next => cases eq
    next => cases eq
  · rintro ⟨q, t, f, hq, ready, info, cls, eq⟩
    refine ⟨(q, x.at_), List.mem_zipIdx_iff_getElem?.mpr hq, ?_⟩
    simp only [ready, info, cls, if_true]
    rw [← eq]

/-- The first candidate stands for an entry that is the first ready one, of the same flow as any other that is (R301). -/
theorem candidates_of_firstReady {s : State} {c : Consumer} {q : Queued} {f : FlowInfo} (h : firstReady s c q f) :
    ∃ x r q', s.way.candidates c = x :: r ∧ s.way.queue[x.at_]? = some q' ∧ x.item = q'.item ∧ x.priority = f.priority ∧
      firstReady s c q' f ∧ q'.item.flow = q.item.flow ∧ ∀ y ∈ s.way.candidates c, y.priority ≤ f.priority := by
  obtain ⟨mem, info, cls, tq, ready, least⟩ := h
  obtain ⟨i, hi⟩ := List.mem_iff_getElem?.mp mem
  have own : (⟨i, f.priority, tq, q.item⟩ : Candidate) ∈ s.way.candidates c :=
    mem_candidates.mpr ⟨q, tq, f, hi, ready, info, cls, rfl⟩
  rcases sorted : s.way.candidates c with _ | ⟨x, r⟩
  · simp [sorted] at own
  obtain ⟨q', t', f', hq', ready', info', cls', eq⟩ := mem_candidates.mp (sorted ▸ List.mem_cons_self : x ∈ s.way.candidates c)
  have mem' := List.mem_of_getElem? hq'
  have behind := least q' mem' t' f' ready' info' cls'
  have ahead := led_sorted _ x r sorted _ own
  rw [eq] at ahead
  simp only [Candidate.before, Bool.or_eq_false_iff, Bool.and_eq_false_iff, decide_eq_false_iff_not, beq_eq_false_iff_ne] at ahead
  have flow : q'.item.flow = q.item.flow := by omega
  have time : t' = tq := by omega
  rw [flow, info] at info'
  cases info'
  subst time
  refine ⟨x, r, q', rfl, hq', by rw [eq], by rw [eq], ⟨mem', by rw [flow, info], cls, t', ready', ?_⟩, flow, ?_⟩
  · rw [flow]; exact least
  · intro y hy
    obtain ⟨p, tp, fp, hp, readyp, infop, clsp, eqp⟩ := mem_candidates.mp (sorted ▸ hy)
    have := least p (List.mem_of_getElem? hp) tp fp readyp infop clsp
    rw [eqp]
    show fp.priority ≤ f.priority
    omega

/-- Without a ready entry there is no candidate. -/
theorem candidates_none {w : Waystation} (h : ∀ q ∈ w.queue, q.ready = none) (c : Consumer) : w.candidates c = [] := by
  refine List.eq_nil_iff_forall_not_mem.mpr fun x hx => ?_
  obtain ⟨q, t, f, hq, ready, -⟩ := mem_candidates.mp hx
  simp [h q (List.mem_of_getElem? hq)] at ready

end Sys2Proof.Machine
end

section
/-! PROOFS. Dispatch of the first ready item (spec/07_waystation_scheduler.md R301 to R308; spec/08_loop_engine.md R339; O29). -/

namespace Sys2Proof.Machine

/-! ### What dispatch does with the first candidate -/

/-- No item waits in vain for an engine: nothing is marked, nothing is told. -/
theorem wait_nil (w : Waystation) : w.wait [] = (w, 0) := by
  have marks : w.queue.zipIdx.map (fun x => if ([] : List Nat).contains x.2 then { x.1 with waited := true } else x.1) = w.queue := by
    simp
  unfold Waystation.wait
  rw [marks]
  simp

/-- An item enters a place of its class (R302, R304). -/
def State.enter (s : State) (c : Consumer) (it : Item) (p : Nat × Nat) : State :=
  match c with
  | .loopEngine => s.placeLe it p.1 p.2
  | _ => s.setPos p.1 (some (s.fetchItem it))

/-- The queue without the entry at a place. -/
def State.unqueued (s : State) (i : Nat) : State := s.onWay fun w => { w with queue := w.queue.eraseIdx i }

/-- The first candidate finds a place and none has to wait: it enters there, and that is all (R301). -/
theorem dispatch_first {s : State} {c : Consumer} {x : Candidate} {r : List Candidate} {p : Nat × Nat}
    (way : s.isRunning .waystation = true) (takes : s.consumes c = true) (cs : s.way.candidates c = x :: r)
    (none_waits : ∀ y ∈ s.way.candidates c, s.mustWait c y = false)
    (place : s.placeFor c (c == .loopEngine && x.priority == 7) = some p) :
    s.dispatch c = (((s.unqueued x.at_).enter c x.item p).refreshReady, some (s.fetchItem x.item)) := by
  have waiting : (s.way.candidates c).filter (fun y => s.mustWait c y) = [] :=
    List.filter_eq_nil_iff.mpr fun y hy => by simp [none_waits y hy]
  unfold State.dispatch
  simp only [way, takes, Bool.and_self, Bool.not_true, Bool.false_eq_true, if_false, waiting, List.map_nil, wait_nil, if_true]
  rw [cs, List.find?_cons_of_pos (by simp [place])]
  simp only [place]
  cases c <;> rfl

/-- Without a candidate dispatch does nothing. -/
theorem dispatch_none {s : State} {c : Consumer} (h : s.way.candidates c = []) : s.dispatch c = (s, none) := by
  unfold State.dispatch
  split
  · rfl
  · simp only [h, List.filter_nil, List.map_nil, wait_nil, List.find?_nil, if_true]
    rfl

theorem exec_itemDispatch_none {s : State} {c : Fin 8} (h : s.way.candidates (consumerOf c) = []) :
    exec (.itemDispatch c) s = .next s := by
  show execItemDispatch c s = .next s
  unfold execItemDispatch
  rw [dispatch_none h]

theorem exec_itemDispatch_some {s u : State} {c : Fin 8} {it : Item} (h : s.dispatch (consumerOf c) = (u, some it)) :
    exec (.itemDispatch c) s = .next (if it.flow = 120 then u.traceSend it.payload else u.takeItem it) := by
  show execItemDispatch c s = _
  unfold execItemDispatch
  rw [h]
  dsimp only
  split <;> rfl

/-- Only a dictionary message is taken from its position at once. -/
theorem takeItem_other {it : Item} (h : it.flow ≠ 118) (s : State) : s.takeItem it = s := by
  unfold State.takeItem
  exact if_neg fun g => h g.1

theorem fetchItem_flow (s : State) (it : Item) : (s.fetchItem it).flow = it.flow := by
  unfold State.fetchItem
  split <;> rfl

/-! ### Ready marks -/

theorem items_markReady (w : Waystation) (now : Nat) (seen : List Nat) (l : List Queued) :
    (markReady w now seen l).map (·.item) = l.map (·.item) := by
  induction l generalizing seen with
  | nil => rfl
  | cons q r ih =>
    unfold markReady
    dsimp only
    split
    · rw [List.map_cons, List.map_cons, ih]
    · rw [List.map_cons, List.map_cons, ih, apply_ite Queued.item, ite_self]

theorem items_refreshReady (s : State) : s.refreshReady.way.queue.map (·.item) = s.way.queue.map (·.item) := items_markReady _ _ _ _

/-! ### Positions of the classes beside the loop engines -/

theorem consumerOf_ne_loopEngine {c : Fin 8} (h : 1 ≤ c.val) : consumerOf c ≠ .loopEngine := by
  revert c
  decide

/-- The lowest free position of a class (R302). -/
theorem placeFor_lowest {s : State} {c : Consumer} {p : Nat} (hc : c ≠ .loopEngine) (lo : c.places.1 ≤ p)
    (hi : p < c.places.1 + c.places.2) (free : nth s.way.positions p none = none)
    (lowest : ∀ i, c.places.1 ≤ i → i < p → nth s.way.positions i none ≠ none) (u : Bool) : s.placeFor c u = some (p, 0) := by
  have found : (List.range c.places.2).find? (fun i => (nth s.way.positions (c.places.1 + i) none).isNone) = some (p - c.places.1) := by
    rw [List.find?_range_eq_some]
    refine ⟨by simp [Nat.add_sub_cancel' lo, free], List.mem_range.mpr (by omega), fun i hi => ?_⟩
    have := lowest (c.places.1 + i) (by omega) (by omega)
    simpa [Option.isSome_iff_ne_none] using this
  have place : s.placeFor c u =
      ((List.range c.places.2).find? fun i => (nth s.way.positions (c.places.1 + i) none).isNone).map fun i => (c.places.1 + i, 0) := by
    cases c with
    | loopEngine => exact absurd rfl hc
    | _ => rfl
  rw [place, found, Option.map_some, Nat.add_sub_cancel' lo]

theorem mustWait_other {s : State} {c : Consumer} (h : c ≠ .loopEngine) (x : Candidate) : s.mustWait c x = false := by
  simp [State.mustWait, h]

theorem enter_other {s : State} {c : Consumer} (h : c ≠ .loopEngine) (it : Item) (p : Nat × Nat) :
    s.enter c it p = s.setPos p.1 (some (s.fetchItem it)) := by
  cases c with
  | loopEngine => exact absurd rfl h
  | _ => rfl

/-- An item of a class with positions of its own stands in the lowest free one (R302, R304). -/
theorem dispatch_other {s : State} {c : Consumer} {x : Candidate} {r : List Candidate} {p : Nat} (hc : c ≠ .loopEngine)
    (way : s.isRunning .waystation = true) (takes : s.consumes c = true) (cs : s.way.candidates c = x :: r)
    (place : ∀ u, s.placeFor c u = some (p, 0)) :
    s.dispatch c = ((((s.unqueued x.at_).setPos p (some (s.fetchItem x.item))).refreshReady), some (s.fetchItem x.item)) := by
  rw [dispatch_first way takes cs (fun y _ => mustWait_other hc y) (place _), enter_other hc]
  rfl

theorem itemDispatch_other {s : State} {c : Fin 8} {q : Queued} {f : FlowInfo} {p : Nat} (hc : 1 ≤ c.val)
    (way : s.isRunning .waystation = true) (takes : s.consumes (consumerOf c) = true) (ready : firstReady s (consumerOf c) q f)
    (lo : (consumerOf c).places.1 ≤ p) (hi : p < (consumerOf c).places.1 + (consumerOf c).places.2)
    (free : nth s.way.positions p none = none)
    (lowest : ∀ i, (consumerOf c).places.1 ≤ i → i < p → nth s.way.positions i none ≠ none) :
    Runs (.itemDispatch c) s fun t => ∃ q' ∈ s.way.queue, firstReady s (consumerOf c) q' f ∧ q'.item.flow = q.item.flow ∧
      let it := s.fetchItem q'.item
      ∃ u : State, u.core = s.core ∧ u.way.positions = upd s.way.positions p (fun _ => some it) ∧
        (∃ i, s.way.queue[i]? = some q' ∧ u.way.queue.map (·.item) = (s.way.queue.eraseIdx i).map (·.item)) ∧
        t = (if it.flow = 120 then u.traceSend it.payload else u.takeItem it) ∧ (it.flow ≠ 118 → it.flow ≠ 120 → t = u) := by
  have other := consumerOf_ne_loopEngine hc
  obtain ⟨x, r, q', cs, hq, item, -, ready', flow, -⟩ := candidates_of_firstReady ready
  have run := exec_itemDispatch_some (dispatch_other other way takes cs (placeFor_lowest other lo hi free lowest))
  rw [item] at run
  refine ⟨_, run, q', List.mem_of_getElem? hq, ready', flow, _, ?_, ?_, ⟨x.at_, hq, ?_⟩, rfl, fun message trace => ?_⟩
  · rfl
  · rfl
  · exact items_refreshReady _
  · rw [if_neg trace, takeItem_other message]

end Sys2Proof.Machine
end

section
/-! PROOFS. Dispatch to the loop engines (spec/07_waystation_scheduler.md R302, R306, R308; spec/08_loop_engine.md R336, R339, R348;
O29). -/

namespace Sys2Proof.Machine

/-! ### Positions and engines when an item starts -/

/-- `t` has the service positions and the loop engines of `s`. -/
structure Steady (s t : State) : Prop where
  positions : t.way.positions = s.way.positions
  le : t.le = s.le

theorem Steady.trans {s t u : State} (h : Steady s t) (g : Steady t u) : Steady s u :=
  ⟨g.positions.trans h.positions, g.le.trans h.le⟩

theorem positions_note (w : Waystation) (c : Nat) (e : BitVec 512) (m : Nat) : (w.note c e m).positions = w.positions := by
  unfold Waystation.note
  split <;> rfl
theorem positions_traceEvent (s : State) (ev : Nat) : (s.traceEvent ev).way.positions = s.way.positions := by
  unfold State.traceEvent
  split <;> rfl
theorem positions_recordEvent (s : State) (ev : Nat) : (s.recordEvent ev).way.positions = s.way.positions := by
  unfold State.recordEvent
  split
  · split <;> rfl
  · rfl
theorem positions_raiseOne (s : State) (ev : Nat) : (s.raiseOne ev).1.way.positions = s.way.positions := by
  have posted : ∀ (u : State) (it : Item), (u.enqueue it).way.positions = u.way.positions := fun _ _ => rfl
  have changed : ∀ (u : State) (f : Waystation → Waystation), (u.onWay f).way = f u.way := fun _ _ => rfl
  unfold State.raiseOne
  dsimp only
  repeat' split
  all_goals simp only [posted, positions_recordEvent, positions_traceEvent, positions_note, changed]

/-- An event leaves items in service and engines alone. -/
theorem steady_raise (s : State) (ev : Nat) : Steady s (s.raise ev) := by
  refine ⟨?_, by rw [quiet_raise s ev]⟩
  unfold State.raise
  dsimp only
  split
  · rw [positions_raiseOne]
    exact (positions_note _ _ _ _).trans (positions_raiseOne _ _)
  · exact positions_raiseOne _ _

theorem steady_tuneEnd (s : State) (j st : Nat) : Steady s (s.tuneEnd j st) := by
  unfold State.tuneEnd
  split
  · exact ⟨rfl, rfl⟩
  · exact .trans (t := s.onJoint j _) ⟨rfl, rfl⟩ (steady_raise _ _)

theorem steady_lawOf (s : State) (j : Nat) (it : Item) : Steady s (s.lawOf j it).1 := by
  unfold State.lawOf
  dsimp only
  split
  next g _ =>
    have ended : Steady s (if (s.joint j).tune.isSome then s.tuneEnd j 5 else s) := by
      split
      · exact steady_tuneEnd s j 5
      · exact ⟨rfl, rfl⟩
    generalize (if (s.joint j).tune.isSome then s.tuneEnd j 5 else s) = u at ended ⊢
    split
    · exact ended.trans ⟨rfl, rfl⟩
    · exact ended
  next =>
    repeat' split
    all_goals exact ⟨rfl, rfl⟩

/-- An item that starts keeps its content and its context, and its registers are reset (R339). -/
theorem beginExec_starts (s : State) (x : Exec) : Steady s (s.beginExec x).1 ∧ (s.beginExec x).2.item = x.item ∧
    (s.beginExec x).2.filled = x.filled ∧ (s.beginExec x).2.regs.cycles = 0 := by
  unfold State.beginExec
  split
  · exact ⟨steady_lawOf s _ _, rfl, rfl, rfl⟩
  · exact ⟨⟨rfl, rfl⟩, rfl, rfl, rfl⟩

theorem wagon_filled {s : State} {it : Item} {f : FlowInfo} (h : flowInfo s.way.table it.flow = some f) :
    (s.wagon it).2.filled = !f.atomic := by
  unfold State.wagon
  simp only [h]

theorem engine_onEngine {s : State} {k : Nat} (h : k < s.le.engines.length) (f : Engine → Engine) :
    (s.onEngine k f).engine k = f (s.engine k) := nth_upd_same _ _ h

/-! ### An item enters an engine -/

/-- The item at position `i`, and what its bank starts with. -/
structure Enters (s : State) (it : Item) (i : Nat) (x : Exec) (t : State) : Prop where
  positions : t.way.positions = upd s.way.positions i fun _ => some it
  item : x.item = s.fetchItem it
  filled : ∀ f, flowInfo s.way.table it.flow = some f → x.filled = !f.atomic
  cycles : x.regs.cycles = 0

/-- The bank of an item that starts at position `3 k + w` of an engine. -/
def State.started (s : State) (it : Item) (k w : Nat) : State × Exec :=
  ((s.wagon it).1.setPos (3 * k + w) (some it)).beginExec (s.wagon it).2

theorem started_enters (s : State) (it : Item) (k w : Nat) :
    Enters s it (3 * k + w) (s.started it k w).2 (s.started it k w).1 ∧ (s.started it k w).1.le = s.le := by
  obtain ⟨steady, item, filled, cycles⟩ := beginExec_starts ((s.wagon it).1.setPos (3 * k + w) (some it)) (s.wagon it).2
  exact ⟨⟨steady.positions, item, fun f h => filled.trans (wagon_filled h), cycles⟩, steady.le⟩

theorem engine_started (s : State) (it : Item) (k w : Nat) : (s.started it k w).1.engine k = s.engine k := by
  unfold State.engine
  rw [(started_enters s it k w).2]

theorem placeLe_normal {s : State} {k : Nat} (h : k < s.le.engines.length) (it : Item) :
    ∃ x, ((s.placeLe it k 1).engine k).normal = some x ∧ Enters s it (3 * k + 1) x (s.placeLe it k 1) := by
  obtain ⟨⟨positions, item, filled, cycles⟩, le⟩ := started_enters s it k 1
  refine ⟨_, ?_, ⟨positions, item, filled, cycles⟩⟩
  show (((s.started it k 1).1.onEngine k _).engine k).normal = _
  rw [engine_onEngine (by rwa [le])]
  rfl

/-- An urgent item runs at once in an engine that executes no other (R307). -/
theorem placeLe_urgent {s : State} {k : Nat} (h : k < s.le.engines.length) (idle : (s.engine k).normal = none) (it : Item) :
    ∃ x, ((s.placeLe it k 2).engine k).urgent = some x ∧ ((s.placeLe it k 2).engine k).inUrgent = true ∧
      Enters s it (3 * k + 2) x (s.placeLe it k 2) := by
  obtain ⟨⟨positions, item, filled, cycles⟩, le⟩ := started_enters s it k 2
  have engine : (s.placeLe it k 2).engine k =
      { s.engine k with urgent := some (s.started it k 2).2, inUrgent := (s.engine k).normal.isNone } := by
    show ((s.started it k 2).1.onEngine k fun e =>
      { e with urgent := some (s.started it k 2).2, inUrgent := e.normal.isNone }).engine k = _
    rw [engine_onEngine (by rwa [le]), engine_started]
  refine ⟨(s.started it k 2).2, by rw [engine], by rw [engine, idle]; rfl, ⟨positions, item, filled, cycles⟩⟩

/-! ### The engine that takes it -/

theorem find_engine {s : State} {k : Nat} (p : Engine → Bool) (hk : k < 16) (h : p (s.engine k) = true)
    (lowest : ∀ i, i < k → p (s.engine i) = false) : ((List.range 16).find? fun k => p (s.engine k)) = some k := by
  rw [List.find?_range_eq_some]
  exact ⟨h, List.mem_range.mpr hk, fun i hi => by simp [lowest i hi]⟩

/-- The lowest-numbered idle engine takes an item that is not urgent (R302). -/
theorem pickEngine_normal {s : State} {k : Nat} (hk : k < 16) (idle : (s.engine k).idle = true)
    (lowest : ∀ i, i < k → (s.engine i).idle = false) : s.pickEngine false = some (k, 1) := by
  unfold State.pickEngine
  simp only [Bool.false_eq_true, if_false, find_engine Engine.idle hk idle lowest]

/-- The lowest-numbered idle engine with a free urgent position takes an urgent one (R306). -/
theorem pickEngine_urgent {s : State} {k : Nat} (hk : k < 16) (idle : (s.engine k).idle = true) (free : (s.engine k).urgent = none)
    (lowest : ∀ i, i < k → ((s.engine i).idle && (s.engine i).urgent.isNone) = false) : s.pickEngine true = some (k, 2) := by
  unfold State.pickEngine
  simp only [if_true, find_engine (fun e => e.idle && e.urgent.isNone) hk (by simp [idle, free]) lowest]

theorem Engine.idle_normal {e : Engine} (h : e.idle = true) : e.normal = none := by
  simp only [Engine.idle, Bool.and_eq_true, Option.isNone_iff_eq_none] at h
  exact h.1.2

/-- No flow of the loop engines is a dictionary or a trace flow (Table 07-2). -/
theorem flow_of_loopEngine {t : Octets} {n : Nat} {f : FlowInfo} (h : flowInfo t n = some f) (c : f.cls = .loopEngine) :
    n ≠ 118 ∧ n ≠ 120 := by
  constructor <;> rintro rfl
  all_goals
    cases h
    cases c

/-- The first ready item of the loop engines enters the place that takes it, and nothing else happens (R301, R302). -/
theorem dispatch_loopEngine {s : State} {x : Candidate} {r : List Candidate} {k w : Nat} {f : FlowInfo}
    (way : s.isRunning .waystation = true) (running : s.isRunning .loopEngines = true)
    (cs : s.way.candidates .loopEngine = x :: r) (info : flowInfo s.way.table x.item.flow = some f) (cls : f.cls = .loopEngine)
    (none_waits : ∀ y ∈ s.way.candidates .loopEngine, s.mustWait .loopEngine y = false)
    (place : s.pickEngine (x.priority == 7) = some (k, w)) :
    exec (.itemDispatch 0) s = .next ((s.unqueued x.at_).placeLe x.item k w).refreshReady := by
  obtain ⟨message, trace⟩ := flow_of_loopEngine info cls
  have run := exec_itemDispatch_some (c := 0)
    (dispatch_first (c := .loopEngine) way running cs none_waits (by simpa [State.placeFor] using place))
  rw [if_neg (by rwa [fetchItem_flow]), takeItem_other (by rwa [fetchItem_flow])] at run
  exact run

theorem itemDispatch_loopEngine {s : State} {q : Queued} {f : FlowInfo} {k : Nat} (shaped : s.Shaped)
    (way : s.isRunning .waystation = true) (running : s.isRunning .loopEngines = true) (ready : firstReady s .loopEngine q f)
    (hk : k < 16) (idle : (s.engine k).idle = true) :
    (f.priority ≤ 6 → (∀ i, i < k → (s.engine i).idle = false) → Runs (.itemDispatch 0) s fun t =>
      ∃ q' ∈ s.way.queue, firstReady s .loopEngine q' f ∧ q'.item.flow = q.item.flow ∧
        t.way.positions = upd s.way.positions (3 * k + 1) (fun _ => some q'.item) ∧
        ∃ x, (t.engine k).normal = some x ∧ x.item = s.fetchItem q'.item ∧ x.regs.cycles = 0 ∧ x.filled = !f.atomic) ∧
    (f.priority = 7 → (s.engine k).urgent = none → (∀ i, i < k → ((s.engine i).idle && (s.engine i).urgent.isNone) = false) →
      Runs (.itemDispatch 0) s fun t => ∃ q' ∈ s.way.queue, firstReady s .loopEngine q' f ∧ q'.item.flow = q.item.flow ∧
        t.way.positions = upd s.way.positions (3 * k + 2) (fun _ => some q'.item) ∧ (t.engine k).inUrgent = true ∧
        ∃ x, (t.engine k).urgent = some x ∧ x.item = s.fetchItem q'.item) := by
  obtain ⟨x, r, q', cs, hq, item, priority, ready', flow, highest⟩ := candidates_of_firstReady ready
  have ⟨mem, info, cls, _⟩ := ready'
  have size : k < (s.unqueued x.at_).le.engines.length := by
    show k < s.le.engines.length
    rw [shaped.engines]
    exact hk
  constructor
  · intro low lowest
    have run := dispatch_loopEngine (w := 1) way running cs (by rw [item]; exact info) cls
      (fun y hy => by have := highest y hy; simp [State.mustWait, show y.priority ≠ 7 by omega])
      (by rw [show (x.priority == 7) = false by simp [show x.priority ≠ 7 by omega]]; exact pickEngine_normal hk idle lowest)
    obtain ⟨b, normal, enters⟩ := placeLe_normal size x.item
    rw [item] at run normal enters
    exact ⟨_, run, q', mem, ready', flow, enters.positions, b, normal, enters.item, enters.cycles, enters.filled f info⟩
  · intro high free lowest
    have pick := pickEngine_urgent hk idle free lowest
    have run := dispatch_loopEngine (w := 2) way running cs (by rw [item]; exact info) cls
      (fun y _ => by simp [State.mustWait, State.placeFor, pick])
      (by rw [show (x.priority == 7) = true by simp [priority, high]]; exact pick)
    obtain ⟨b, urgent, runs, enters⟩ := placeLe_urgent size (Engine.idle_normal idle) x.item
    rw [item] at run urgent runs enters
    exact ⟨_, run, q', mem, ready', flow, enters.positions, runs, b, urgent, enters.item⟩

/-- Settles O29: the first candidate of a class stands for its first ready item (`candidates_of_firstReady`), and enters the lowest free
position (`itemDispatch_other`) or the lowest idle engine (`itemDispatch_loopEngine`). -/
theorem readyItemsAreDispatchedInOrder : Obligations.ReadyItemsAreDispatchedInOrder := by
  unfold Obligations.ReadyItemsAreDispatchedInOrder
  refine ⟨?_, fun s q f k shaped way running ready hk idle => itemDispatch_loopEngine shaped way running ready hk idle,
    fun s c unready => exec_itemDispatch_none (candidates_none unready _)⟩
  intro s c q f p other _ way takes ready b lo hi free lowest
  exact itemDispatch_other other way takes ready lo hi free lowest

end Sys2Proof.Machine
end
